-- ==== Sys2Proof/Word.lean ====
section
/-! DEFINITION. The bit-vector widths the manual uses for frame fields and modular numbers (0.7, R196). -/

namespace Sys2Proof

/-- One byte of a frame (R196). -/
abbrev Byte := BitVec 8

/-- A two-byte frame field, sent most significant byte first (0.7). -/
abbrev Half := BitVec 16

/-- A parameter value as carried: four bytes, signed (R176, R196). -/
abbrev Word := BitVec 32

/-- A sequence tag, 0 to 4095, with arithmetic modulo 4096 (0.7). -/
abbrev Tag := BitVec 12

/-- A half-cycle number h, 0 to 255, with arithmetic modulo 256 (0.7). -/
abbrev HalfCycle := BitVec 8

end Sys2Proof
end

