-- ==== Sys2Proof/Syntax.lean ====
section
/-! DEFINITION. The commands the FL6 takes: one constructor per row of spec/opcode_table.json. -/

namespace Sys2Proof

/-- A number 0 to 3: of a source, a bank or an aux record. -/
inductive Index4 where
  | i0 | i1 | i2 | i3
  deriving DecidableEq, Repr

/-- The two ports (Table 0-1). -/
inductive Port where
  | m | v
  deriving DecidableEq, Repr

/-- A sample frame as the M port hands it on: Table 11-2 without kind, count and check code. The channel
count is the length of the list (R194, check 4). -/
structure SampleFrame where
  source : Byte
  tag : Half
  status : Byte
  channels : List Half
  deriving DecidableEq, Repr

/-- A valve report as the V port hands it on (R98, Table 11-5). -/
structure ReportFrame where
  branch : Byte
  polarity : Byte
  h : Byte
  outcome : Byte
  firedAngle : Half
  ready : Byte
  faultCode : Byte
  deriving DecidableEq, Repr

/-- The commands. A directive row carries the unit and tag bytes of its frame, then its operands in the order
of Table 9-6 with the widths of Table 11-3. -/
inductive Instr where
  /-- R5: a sample frame arrives. -/
  | sampleFrame (frame : SampleFrame)
  /-- R21: a local sample period ends. -/
  | localSamplePeriod
  /-- R22: the silence timer expires. -/
  | silenceTimerExpiry
  /-- R121, R137, R154, R181: a local tick. -/
  | localTick
  /-- R122: the confirmation timer of the transitional bank expires. -/
  | confirmationTimerExpiry
  /-- R123: the discharge timer of a bank expires. -/
  | dischargeTimerExpiry (bank : Index4)
  /-- R124: the dwell timer expires. -/
  | dwellTimerExpiry
  /-- R137: the dip monitor's count runs out. -/
  | dipToleranceExpiry
  /-- R154: the delay of a PENDING blanking pulse runs out. -/
  | blankingDelayExpiry
  /-- R154: an ACTIVE blanking pulse ends. -/
  | blankingPulseEnd
  /-- R98, R99: a valve report arrives. -/
  | valveReport (report : ReportFrame)
  /-- R117: a bank status frame arrives. -/
  | bankStatusFrame (bank status faultCode : Byte)
  /-- R94: the V transmitter completes its frame. -/
  | vTransmitCompletion
  /-- R170: a directive frame arrives, its operands as bytes. -/
  | directiveFrame (unit tag kind : Byte) (operands : List Byte)
  /-- R194: a frame arrives as bytes at a port, to be checked there. -/
  | frameRejected (port : Port) (bytes : List Byte)
  /-- R192: the M transmitter completes its frame. -/
  | mTransmitCompletion
  /-- R179. -/
  | identify (unit tag : Byte)
  /-- R180. -/
  | status (unit tag : Byte)
  /-- R182. -/
  | counters (unit tag : Byte) (group clear : Byte)
  /-- R181. -/
  | stamp (unit tag : Byte)
  /-- R178. -/
  | get (unit tag : Byte) (ident : Byte)
  /-- R177. -/
  | set (unit tag : Byte) (ident : Byte) (value : Word)
  /-- R3. -/
  | mapSet (unit tag : Byte) (quantity source channel : Byte)
  /-- R1. -/
  | sourceSet (unit tag : Byte) (source enabled policy holdLimit missLimit : Byte)
  /-- R151. -/
  | auxSet (unit tag : Byte) (aux polarity kind debounce actions delay width : Byte)
  /-- R127. -/
  | bankSet (unit tag : Byte) (bank present : Byte) (susceptance : Half) (state : Byte)
  /-- R126. -/
  | bankForce (unit tag : Byte) (bank action : Byte)
  /-- R73. -/
  | tableWrite (unit tag : Byte) (start : Half) (n fill : Byte) (values : List Half)
  /-- R74. -/
  | tableRead (unit tag : Byte) (bank : Byte) (start : Half) (n : Byte)
  /-- R75. -/
  | tableCopy (unit tag : Byte)
  /-- R77. -/
  | tableCommit (unit tag : Byte)
  /-- R132. -/
  | mode (unit tag : Byte) (operand : Byte)
  /-- R144. -/
  | block (unit tag : Byte) (operand : Byte)
  /-- R143. -/
  | tripClear (unit tag : Byte)
  /-- R164. -/
  | captureSet (unit tag : Byte) (mode : Byte) (post : Half)
  /-- R163. -/
  | captureTrigger (unit tag : Byte)
  /-- R165. -/
  | captureRead (unit tag : Byte) (n : Byte)
  /-- R166. -/
  | captureFlush (unit tag : Byte)
  /-- R189. -/
  | noticeSet (unit tag : Byte) (source enable level : Byte)
  /-- R190. -/
  | noticeClear (unit tag : Byte) (sources : Half)
  /-- R185: RESET with scope ENGINE. -/
  | resetEngine (unit tag : Byte)
  /-- R186: RESET with scope FULL. -/
  | resetFull (unit tag : Byte)
  /-- R197: RSTN is asserted. -/
  | powerOnReset
  /-- R197: RSTN returns high with the strap lines at these levels. -/
  | rstnRelease (fsel : Bool) (unit : BitVec 4) (boot : Bool)
  deriving DecidableEq, Repr

end Sys2Proof
end

