-- ==== Sys2Proof/Config.lean ====
section
/-! DEFINITION. The fixed sizes of the FL6 and the one source of free values. -/

namespace Sys2Proof.Config

/-- A FREE VALUE (log 7): the choices the manual leaves open inside one step. The n-th draw of a run is
`freeChoice n`; it has no body, so no proof can see what it is. -/
opaque freeChoice : Nat → Nat

/-- The angle BLOCK: no firing in the half-cycle (0.7). -/
def blockAngle : Nat := 8192

/-- Entries of each window (R17). -/
def windowLength : Nat := 64

/-- Entries of each firing-table bank (R71). -/
def tableLength : Nat := 512

/-- Frames the send queue holds (R88). -/
def sendQueueLimit : Nat := 8

/-- Records the capture buffer holds (R159). -/
def captureLimit : Nat := 1024

/-- Directives the directive queue holds (R171). -/
def directiveQueueLimit : Nat := 4

/-- Places of the reply list (R173). -/
def replyListLimit : Nat := 8

/-- Sub-set units either side of the expected crossing in which a detection is accepted (R36). -/
def acceptWindow : Int := 512

/-- The age, in sets, at which a queued order is withdrawn (R91). -/
def orderDeadline : Nat := 12

/-- The longest frame a port takes, in bytes (R194). -/
def frameLimit : Nat := 160

/-- The greatest sum of the susceptances of the banks that are not ABSENT, in su (R113). -/
def susceptanceLimit : Nat := 12288

end Sys2Proof.Config
end

