-- ==== Sys2Proof/Machine/State.lean ====
section
/-! DEFINITION. The state of the FL6, block by block (Table 0-2), as plain data, and its value right after reset. -/

namespace Sys2Proof.Machine

/-! ## Indexed groups -/

/-- The three delta-connected reactor branches (0.8). -/
inductive Branch where
  | ab | bc | ca
  deriving DecidableEq, Repr

/-- POS: rising crossing, positive half-cycle; NEG: falling crossing (Table 0-6). -/
inductive Polarity where
  | pos | neg
  deriving DecidableEq, Repr

/-- The nine logical quantities, numbered 0 to 8 in this order (1.2). -/
inductive Quantity where
  | ia | ib | ic | vab | vbc | vca | ia2 | ib2 | ic2
  deriving DecidableEq, Repr

/-- The twelve notice sources, numbered 0 to 11 in this order (Table 10-2). -/
inductive NoticeSource where
  | trip | release | tracker | stream | source | dip | bankFault | bankChange | mode | aux | capture | clamp
  deriving DecidableEq, Repr

/-- One item per branch. -/
structure PerBranch (α : Type) where
  ab : α
  bc : α
  ca : α
  deriving DecidableEq, Repr

/-- One item for each number 0 to 3. -/
structure Four (α : Type) where
  n0 : α
  n1 : α
  n2 : α
  n3 : α
  deriving DecidableEq, Repr

/-- One item per logical quantity. -/
structure PerQuantity (α : Type) where
  ia : α
  ib : α
  ic : α
  vab : α
  vbc : α
  vca : α
  ia2 : α
  ib2 : α
  ic2 : α
  deriving DecidableEq, Repr

/-- One item per notice source. -/
structure PerNotice (α : Type) where
  trip : α
  release : α
  tracker : α
  stream : α
  source : α
  dip : α
  bankFault : α
  bankChange : α
  mode : α
  aux : α
  capture : α
  clamp : α
  deriving DecidableEq, Repr

/-! ## Stream Assembler (section 1) -/

/-- Gap policy of a source (Table 1-2). -/
inductive GapPolicy where
  | hold | mark
  deriving DecidableEq, Repr

/-- Alignment state of a source (R2). The source's enabled flag is "not DISABLED" (log 21). -/
inductive Alignment where
  | disabled | seeking | aligned | lost
  deriving DecidableEq, Repr

/-- The counters held per source (R23). -/
structure SourceCounters where
  accepted : Nat := 0
  late : Nat := 0
  duplicate : Nat := 0
  testDiscarded : Nat := 0
  miss : Nat := 0
  deriving DecidableEq, Repr

/-- A source record (Table 1-2). -/
structure SourceRec where
  policy : GapPolicy
  holdLimit : Nat
  missLimit : Nat
  alignment : Alignment
  missRun : Nat
  counters : SourceCounters
  deriving DecidableEq, Repr

/-- A channel map entry that is not ABSENT (1.2). -/
structure ChannelRef where
  source : Index4
  channel : Fin 8
  deriving DecidableEq, Repr

/-- State of a sample set in the assembly queue (1.4). -/
inductive SetState where
  | opened | complete | closed
  deriving DecidableEq, Repr

/-- A sample set in the assembly queue (1.4); a value of none is an invalid quantity. -/
structure SampleSet where
  tag : Tag
  contributors : Four Bool
  values : PerQuantity (Option Int)
  state : SetState
  deriving DecidableEq, Repr

/-- A window entry (R17); a value of none is an invalid entry. -/
structure WindowEntry where
  value : Option Int
  held : Bool
  deriving DecidableEq, Repr

/-- A window with its hold register (R17, R18): entries newest first. -/
structure Window where
  entries : List WindowEntry
  lastValid : Option Int
  heldRun : Nat
  deriving DecidableEq, Repr

/-- The counters held for the assembler (R23). -/
structure AssemblyCounters where
  released : Nat := 0
  voids : Nat := 0
  forced : Nat := 0
  discontinuity : Nat := 0
  streamLoss : Nat := 0
  deriving DecidableEq, Repr

/-- State of the Stream Assembler (Table 1-1). `silence` is the armed silence timer's remaining count. -/
structure Assembler where
  sources : Four SourceRec
  map : PerQuantity (Option ChannelRef)
  queue : List SampleSet
  expected : Option Tag
  lastReleased : Option Tag
  windows : PerQuantity Window
  silence : Option Nat
  counters : AssemblyCounters
  deriving DecidableEq, Repr

/-! ## Phase Trackers (section 2) -/

/-- Lock state of a tracker (Table 2-2). -/
inductive TrackerState where
  | unlocked | capturing | locked | holdover
  deriving DecidableEq, Repr

/-- The last accepted or synthesized crossing (Table 2-1, R28). -/
structure Crossing where
  tag : Tag
  fraction : Nat
  real : Bool
  deriving DecidableEq, Repr

/-- State of one tracker (Table 2-1). -/
structure Tracker where
  state : TrackerState
  halfPeriod : Nat
  history : List Nat
  holdoverCount : Nat
  risingArmed : Bool
  fallingArmed : Bool
  expectedPolarity : Option Polarity
  lastCrossing : Option Crossing
  h : HalfCycle
  lastEventTag : Option Tag
  magnitude : Nat
  spurious : Nat
  deriving DecidableEq, Repr

/-- A crossing event (R40). -/
structure CrossingEvent where
  branch : Branch
  polarity : Polarity
  h : HalfCycle
  crossingTag : Tag
  synthesized : Bool
  magnitudeUpdated : Bool
  deriving DecidableEq, Repr

/-! ## Demand Unit (section 3) -/

/-- The seven demand flags (Table 3-4). -/
structure DemandFlags where
  clampHigh : Bool := false
  clampLow : Bool := false
  carried : Bool := false
  substituted : Bool := false
  load2Omitted : Bool := false
  repeated : Bool := false
  notFormed : Bool := false
  deriving DecidableEq, Repr

/-- The demand counters of one branch (R68). -/
structure DemandCounters where
  formed : Nat := 0
  notFormed : Nat := 0
  clampHigh : Nat := 0
  clampLow : Nat := 0
  load2Omitted : Nat := 0
  deriving DecidableEq, Repr

/-- State of the Demand Unit for one branch (Table 3-1). -/
structure DemandRec where
  carry : Int
  clamp : Int
  trim : Int
  gapCount : Nat
  lastD : Option Nat
  counters : DemandCounters
  deriving DecidableEq, Repr

/-! ## Table Store (section 4) -/

/-- The table counters (R86). -/
structure TableCounters where
  immediate : Nat := 0
  crossing : Nat := 0
  drop : Nat := 0
  aborted : Nat := 0
  notMonotonic : Nat := 0
  deriving DecidableEq, Repr

/-- State of the Table Store (Table 4-1): commit is the recorded tag while PENDING, none while NONE (R76). -/
structure TableStore where
  active : List Nat
  staged : List Nat
  commit : Option Byte
  counters : TableCounters
  deriving DecidableEq, Repr

/-- How a commit completed (Table 4-3). -/
inductive Completion where
  | immediate
  | abCrossing (h : HalfCycle)
  | releaseDrop
  deriving DecidableEq, Repr

/-- The two banks of the Table Store (R71). -/
inductive TableBank where
  | active | staged
  deriving DecidableEq, Repr

/-! ## Order Exchange (section 5) -/

/-- An order in the send queue (5.1). -/
structure Order where
  branch : Branch
  polarity : Polarity
  h : HalfCycle
  crossingTag : Tag
  angle : Nat
  flags : DemandFlags
  deriving DecidableEq, Repr

/-- The action of a bank order (6.2). -/
inductive BankAction where
  | close | opening
  deriving DecidableEq, Repr

/-- A frame of the V-port send path: an order or a bank order (R88). -/
inductive VFrame where
  | order (o : Order)
  | bank (number : Index4) (action : BankAction)
  deriving DecidableEq, Repr

/-- The V transmitter while it is busy (R93, R107). -/
structure VTransmission where
  frame : VFrame
  disowned : Bool
  deriving DecidableEq, Repr

/-- An entry of an outstanding list (5.3). -/
structure Outstanding where
  h : HalfCycle
  polarity : Polarity
  angle : Nat
  deriving DecidableEq, Repr

/-- The exchange counters held per branch (R110). -/
structure ExchangeCounters where
  queued : Nat := 0
  missed : Nat := 0
  late : Nat := 0
  sent : Nat := 0
  timeout : Nat := 0
  matched : Nat := 0
  stray : Nat := 0
  correct : Nat := 0
  misfire : Nat := 0
  valve : Nat := 0
  deriving DecidableEq, Repr

/-- State of the Order Exchange for one branch (Table 5-1). -/
structure ExchangeRec where
  outstanding : List Outstanding
  ready : Bool
  timeoutRun : Nat
  misfireRun : Nat
  counters : ExchangeCounters
  deriving DecidableEq, Repr

/-- The exchange counters held for the whole exchange (R110). -/
structure QueueCounters where
  rewritten : Nat := 0
  bankQueued : Nat := 0
  bankSent : Nat := 0
  bankRefused : Nat := 0
  deriving DecidableEq, Repr

/-- State of the Order Exchange (Table 5-1): the send queue head first. -/
structure Exchange where
  queue : List VFrame
  transmitter : Option VTransmission
  branches : PerBranch ExchangeRec
  counters : QueueCounters
  deriving DecidableEq, Repr

/-- Outcome of a valve report (R98). -/
inductive ValveOutcome where
  | fired | withheld | notFired | fault
  deriving DecidableEq, Repr

/-! ## Bank Controller (section 6) -/

/-- State of a filter bank (R112). -/
inductive BankState where
  | absent | out | closing | inService | opening | discharging | faulted
  deriving DecidableEq, Repr

/-- Status of a bank status frame (R117). -/
inductive BankStatus where
  | closed | opened | failed
  deriving DecidableEq, Repr

/-- The counters held per bank (R128). -/
structure BankCounters where
  closeConfirmed : Nat := 0
  openConfirmed : Nat := 0
  failed : Nat := 0
  timeout : Nat := 0
  unsolicited : Nat := 0
  contrary : Nat := 0
  agreeing : Nat := 0
  deriving DecidableEq, Repr

/-- A bank record (Table 6-2); a timer of none is stopped. -/
structure BankRec where
  state : BankState
  susceptance : Nat
  counted : Bool
  faultCode : Option Byte
  confirmTimer : Option Nat
  dischargeTimer : Option Nat
  counters : BankCounters
  deriving DecidableEq, Repr

/-- The counters held for the Bank Controller (R128). -/
structure BankTotals where
  stray : Nat := 0
  autoClose : Nat := 0
  autoOpen : Nat := 0
  forced : Nat := 0
  deriving DecidableEq, Repr

/-- State of the Bank Controller (Table 6-1); a dwell timer of none is expired. -/
structure BankController where
  banks : Four BankRec
  dwell : Option Nat
  counters : BankTotals
  deriving DecidableEq, Repr

/-! ## Mode and Release Controller (section 7) -/

/-- The mode (R131). -/
inductive Mode where
  | run | park | quiescent | waking
  deriving DecidableEq, Repr

/-- RUN or PARK: a waking target, a remembered mode, or a parameter that names one of the two. -/
inductive Target where
  | run | park
  deriving DecidableEq, Repr

/-- The release state (R146). -/
inductive ReleaseState where
  | held | qualifying | awaitingReady | released
  deriving DecidableEq, Repr

/-- The first VALVE cause (R104, R142); a fault of none is the kind "unordered firing". -/
structure ValveCause where
  branch : Branch
  h : HalfCycle
  polarity : Polarity
  fault : Option Byte
  deriving DecidableEq, Repr

/-- The trip record (R142): VALVE is latched while it has a first cause. -/
structure TripRecord where
  gap : PerBranch Bool
  report : PerBranch Bool
  misfire : PerBranch Bool
  valve : Option ValveCause
  valveCount : Nat
  deriving DecidableEq, Repr

/-- Polarity of an aux flag (Table 7-3). -/
inductive AuxPolarity where
  | activeHigh | activeLow
  deriving DecidableEq, Repr

/-- Type of an aux record (Table 7-3). -/
inductive AuxType where
  | edge | level
  deriving DecidableEq, Repr

/-- The set of actions of an aux record (Table 7-3). -/
structure AuxActions where
  wake : Bool := false
  block : Bool := false
  blank : Bool := false
  capture : Bool := false
  notice : Bool := false
  deriving DecidableEq, Repr

/-- An aux record (Table 7-3). -/
structure AuxRec where
  polarity : AuxPolarity
  kind : AuxType
  debounce : Nat
  actions : AuxActions
  blankDelay : Nat
  blankWidth : Nat
  active : Bool
  pendingCount : Nat
  blockLatch : Bool
  deriving DecidableEq, Repr

/-- State of the blanking pulse (R154). -/
inductive BlankState where
  | idle | pending | active
  deriving DecidableEq, Repr

/-- The blanking pulse with its remaining count and recorded width, both 0 while IDLE (R154). -/
structure Blanking where
  state : BlankState
  count : Nat
  width : Nat
  deriving DecidableEq, Repr

/-- State of the dip monitor (R137). -/
inductive DipState where
  | unarmed | watching | timing | spent
  deriving DecidableEq, Repr

/-- The control counters (R155). -/
structure ControlCounters where
  releaseGained : Nat := 0
  releaseLost : Nat := 0
  qualifyRestart : Nat := 0
  dipInterruption : Nat := 0
  streamInterruption : Nat := 0
  recoveries : Nat := 0
  gapCauses : Nat := 0
  reportCauses : Nat := 0
  valveCauses : Nat := 0
  misfireCauses : Nat := 0
  blankingPulses : Nat := 0
  ignoredEdges : Nat := 0
  activeEdges : Four Nat := ⟨0, 0, 0, 0⟩
  deriving DecidableEq, Repr

/-- State of the Mode and Release Controller (Table 7-1). `supplyValid` and `dip` are the two conditions of R136
as last evaluated, `valveReady` the condition of R100 as last handed over; `resume` is the remembered mode while
resume is pending; `dipCount` is 0 unless the monitor is TIMING. -/
structure Controller where
  mode : Mode
  wakingTarget : Option Target
  wakingCount : Nat
  release : ReleaseState
  qualifyCount : Nat
  trips : TripRecord
  directedBlock : Bool
  aux : Four AuxRec
  blanking : Blanking
  dipState : DipState
  dipCount : Nat
  resume : Option Target
  supplyValid : Bool
  dip : Bool
  valveReady : Bool
  counters : ControlCounters
  deriving DecidableEq, Repr

/-! ## Capture Unit (section 8) -/

/-- Capture mode (Table 8-1). -/
inductive CaptureMode where
  | bypass | stream | stopOnFull
  deriving DecidableEq, Repr

/-- Capture state (R160). -/
inductive CaptureState where
  | off | running | triggered | frozen
  deriving DecidableEq, Repr

/-- Where a trigger came from (R163). -/
inductive TriggerSource where
  | directive
  | aux (number : Index4)
  deriving DecidableEq, Repr

/-- A capture record (Table 8-2). `angle` is the angle looked up, before the gate of R61 (log 33). -/
structure CaptureRecord where
  branch : Branch
  polarity : Polarity
  h : HalfCycle
  crossingTag : Tag
  demand : Option Nat
  raw : Option Int
  load : Option Int
  trim : Int
  carry : Int
  flags : DemandFlags
  angle : Nat
  release : ReleaseState
  deriving DecidableEq, Repr

/-- The capture counters (R167). -/
structure CaptureCounters where
  accepted : Nat := 0
  overwritten : Nat := 0
  refused : Nat := 0
  deriving DecidableEq, Repr

/-- State of the Capture Unit (Table 8-1): the buffer oldest first. -/
structure Capture where
  mode : CaptureMode
  state : CaptureState
  buffer : List CaptureRecord
  post : Nat
  postCount : Nat
  trigger : Option TriggerSource
  counters : CaptureCounters
  deriving DecidableEq, Repr

/-! ## Straps and ports (section 11) -/

/-- Nominal supply frequency, strap FSEL (Table 11-7). -/
inductive Frequency where
  | hz50 | hz60
  deriving DecidableEq, Repr

/-- Initial mode, strap BOOT (Table 11-7). -/
inductive BootMode where
  | park | quiescent
  deriving DecidableEq, Repr

/-- The strap values latched at power-on (R197). -/
structure Straps where
  fsel : Frequency
  unit : BitVec 4
  boot : BootMode
  deriving DecidableEq, Repr

/-- The counters of one port (R194). The V port has no unsolicited counter: there the field stays 0 and is not
reported. -/
structure PortCounters where
  received : Nat := 0
  checkFailure : Nat := 0
  unknownKind : Nat := 0
  oversize : Nat := 0
  formatError : Nat := 0
  unsolicited : Nat := 0
  sent : Nat := 0
  deriving DecidableEq, Repr

/-- The counters of both ports (R194). -/
structure Ports where
  m : PortCounters
  v : PortCounters
  deriving DecidableEq, Repr

/-! ## Parameters (Table 9-3) -/

/-- LIMIT_MODE (R55). -/
inductive LimitMode where
  | clip | carry
  deriving DecidableEq, Repr

/-- GAP_POLICY (R62). -/
inductive DemandGapPolicy where
  | block | repeatLast
  deriving DecidableEq, Repr

/-- BLOCK_SELECT (R145). -/
inductive BlockSelect where
  | directed | aux | merged
  deriving DecidableEq, Repr

/-- RESUME_POLICY (R140). -/
inductive ResumePolicy where
  | alwaysPark | alwaysRun | previous | preset
  deriving DecidableEq, Repr

/-- The parameters with their defaults (Table 9-3). -/
structure Params where
  assemblyDepth : Nat := 3
  silenceLimit : Nat := 16
  statusSource : Index4 := .i0
  crossHyst : Nat := 256
  loadGain : PerBranch Nat := ⟨0, 0, 0⟩
  load2Gain : PerBranch Nat := ⟨0, 0, 0⟩
  bias : PerBranch Int := ⟨0, 0, 0⟩
  angleOffset : PerBranch Int := ⟨0, 0, 0⟩
  trimGain : Nat := 0
  vRef : Nat := 0
  halfInvalidLimit : Nat := 4
  carryLimit : Nat := 256
  gapLimit : Nat := 6
  limitMode : LimitMode := .clip
  gapPolicy : DemandGapPolicy := .block
  timeoutLimit : Nat := 3
  misfireLimit : Nat := 3
  angleTolerance : Nat := 64
  autoBanks : Bool := false
  bankInThreshold : Nat := 96
  bankOutThreshold : Nat := 96
  bankDwell : Nat := 50
  bankConfirmTimeout : Nat := 25
  bankDischarge : Nat := 38
  settleCode : Nat := 2
  wakeTarget : Target := .park
  vValid : Nat := 0
  vDip : Nat := 0
  dipTolerance : Nat := 3
  releaseBase : Nat := 50
  releaseExtra : Nat := 0
  blockSelect : BlockSelect := .merged
  resumePolicy : ResumePolicy := .alwaysPark
  resumePreset : Target := .park
  noticeMask : Nat := 0
  deriving DecidableEq, Repr

/-! ## Directive Processor (section 9) -/

/-- What a directive frame asks for: the directive its kind names with its operands as carried, or what is wrong
with it (R172, steps 1 and 2). -/
inductive Request where
  | identify
  | status
  | counters (group clear : Byte)
  | stamp
  | get (ident : Byte)
  | set (ident : Byte) (value : Word)
  | mapSet (quantity source channel : Byte)
  | sourceSet (source enabled policy holdLimit missLimit : Byte)
  | auxSet (aux polarity kind debounce actions delay width : Byte)
  | bankSet (bank present : Byte) (susceptance : Half) (state : Byte)
  | bankForce (bank action : Byte)
  | tableWrite (start : Half) (n fill : Byte) (values : List Half)
  | tableRead (bank : Byte) (start : Half) (n : Byte)
  | tableCopy
  | tableCommit
  | mode (operand : Byte)
  | block (operand : Byte)
  | tripClear
  | captureSet (mode : Byte) (post : Half)
  | captureTrigger
  | captureRead (n : Byte)
  | captureFlush
  | noticeSet (source enable level : Byte)
  | noticeClear (sources : Half)
  | reset (scope : Byte)
  | unknownKind
  | malformed
  deriving DecidableEq, Repr

/-- A directive in the directive queue (R170). -/
structure Directive where
  tag : Byte
  kind : Byte
  request : Request
  deriving DecidableEq, Repr

/-- The result codes (Table 9-2). -/
inductive ResultCode where
  | done | queueFull | unknownKind | malformed | range | wrongMode | busy | notMonotonic | unmapped | aborted | ignored
  deriving DecidableEq, Repr

/-- The scope of a RESET (R184). -/
inductive ResetScope where
  | engine | full
  deriving DecidableEq, Repr

/-- The counters of the Directive Processor (R183). -/
structure DirectiveCounters where
  taken : Nat := 0
  wrongUnit : Nat := 0
  queueFull : Nat := 0
  discarded : Nat := 0
  unknownKind : Nat := 0
  malformed : Nat := 0
  deriving DecidableEq, Repr

/-! ## Notice records (section 10) -/

/-- A notice record (R188). -/
structure NoticeRec where
  status : Bool := false
  enable : Bool := false
  level : Nat := 0
  sent : Bool := false
  deriving DecidableEq, Repr

/-! ## Reply data and notice snapshots -/

/-- What is reported of one source in the ASSEMBLY group (R23). -/
structure SourceReport where
  counters : SourceCounters
  alignment : Alignment
  missRun : Nat
  deriving DecidableEq, Repr

/-- What is reported of one branch in the DEMAND group (R68). -/
structure DemandReport where
  counters : DemandCounters
  gapCount : Nat
  clamp : Int
  carry : Int
  trim : Int
  deriving DecidableEq, Repr

/-- What is reported of one branch in the EXCHANGE group (R110). -/
structure ExchangeReport where
  counters : ExchangeCounters
  outstanding : Nat
  ready : Bool
  timeoutRun : Nat
  misfireRun : Nat
  deriving DecidableEq, Repr

/-- What is reported of one bank in the BANKS group (R128). -/
structure BankReport where
  counters : BankCounters
  state : BankState
  susceptance : Nat
  deriving DecidableEq, Repr

/-- The data of a COUNTERS reply, by group (Table 9-5). -/
inductive CounterReport where
  | assembly (sources : Four SourceReport) (counters : AssemblyCounters)
  | tracking (spurious : PerBranch Nat)
  | demand (branches : PerBranch DemandReport)
  | tables (counters : TableCounters) (pending : Bool)
  | exchange (branches : PerBranch ExchangeReport) (counters : QueueCounters) (queued : Nat)
  | banks (banks : Four BankReport) (counters : BankTotals) (bBank : Nat)
  | control (counters : ControlCounters)
  | capture (counters : CaptureCounters) (mode : CaptureMode) (state : CaptureState) (post postCount : Nat)
      (trigger : Option TriggerSource) (held : Nat)
  | directives (counters : DirectiveCounters) (queued replies : Nat) (reserved : Bool)
  | ports (ports : Ports)
  deriving DecidableEq, Repr

/-- The debounced state and block latch of an aux record, as STATUS and the AUX notice report them. -/
structure AuxReport where
  active : Bool
  blockLatch : Bool
  deriving DecidableEq, Repr

/-- A tracker's state and h, as STATUS and the TRACKER notice report them. -/
structure TrackerReport where
  state : TrackerState
  h : HalfCycle
  deriving DecidableEq, Repr

/-- A bank's state, counted flag and last fault code, as STATUS reports them (R128). -/
structure BankStatusReport where
  state : BankState
  counted : Bool
  faultCode : Option Byte
  deriving DecidableEq, Repr

/-- The data of a STATUS reply (Table 9-4). -/
structure StatusReport where
  mode : Mode
  wakingTarget : Option Target
  wakingCount : Nat
  release : ReleaseState
  qualifyCount : Nat
  supplyValid : Bool
  dip : Bool
  dipState : DipState
  resume : Option Target
  trips : TripRecord
  directedBlock : Bool
  aux : Four AuxReport
  blankState : BlankState
  blankCount : Nat
  valveReady : Bool
  trackers : PerBranch TrackerReport
  magnitudes : PerBranch Nat
  banks : Four BankStatusReport
  bBank : Nat
  dwell : Option Nat
  commitPending : Bool
  captureState : CaptureState
  notices : PerNotice Bool
  queuedDirectives : Nat
  heldReplies : Nat
  reservedSlot : Bool
  deriving DecidableEq, Repr

/-- The h of a branch and the sets elapsed since its last crossing event, as STAMP reports them (R44). -/
structure StampReport where
  h : HalfCycle
  elapsed : Option Nat
  deriving DecidableEq, Repr

/-- The result data of a reply (R174). -/
inductive ReplyData where
  | empty
  | identify (straps : Straps)
  | status (report : StatusReport)
  | counters (group : Byte) (clear : Bool) (report : CounterReport)
  | stamp (lastReleased expected : Option Tag) (branches : PerBranch StampReport) (ticks : BitVec 16)
  | get (ident : Byte) (value : Int) (parkedOnly : Bool)
  | set (ident : Byte) (before after : Int)
  | bankSet (bBank : Nat)
  | bankForce (bank : Index4) (state : BankState)
  | tableWrite (start count : Nat)
  | tableRead (bank : TableBank) (start count : Nat) (entries : List Nat) (pending : Bool)
  | commit (completion : Completion)
  | notMonotonic (index : Nat)
  | mode (mode : Mode) (target : Option Target)
  | block (directed : Bool) (release : ReleaseState)
  | captureSet (mode : CaptureMode) (post : Nat) (state : CaptureState)
  | captureTrigger (state : CaptureState)
  | captureRead (remaining : Nat) (state : CaptureState) (postCount : Nat) (trigger : Option TriggerSource)
      (records : List CaptureRecord)
  | captureFlush (discarded : Nat) (state : CaptureState)
  | noticeSet (record : NoticeRec)
  | noticeClear (cleared : PerNotice Bool)
  | reset (scope : ResetScope)
  deriving DecidableEq, Repr

/-- A reply (R174). -/
structure Reply where
  unit : BitVec 4
  tag : Byte
  kind : Byte
  result : ResultCode
  data : ReplyData
  deriving DecidableEq, Repr

/-- The snapshot of a notice frame (Table 10-3). -/
inductive Snapshot where
  | trip (trips : TripRecord)
  | release (state : ReleaseState) (qualifyCount : Nat) (valveReady : Bool) (mode : Mode)
  | tracker (trackers : PerBranch TrackerReport)
  | stream (expected : Option Tag) (streamLoss discontinuity : Nat)
  | source (alignments : Four Alignment)
  | dip (state : DipState) (supplyValid dip : Bool) (resume : Option Target)
  | bankFault (states : Four BankState) (faultCodes : Four (Option Byte))
  | bankChange (states : Four BankState) (bBank : Nat)
  | mode (mode : Mode) (target : Option Target)
  | aux (records : Four AuxReport) (blank : BlankState)
  | capture (state : CaptureState) (held postCount : Nat) (trigger : Option TriggerSource)
  | clamp (counters : PerBranch Int)
  deriving DecidableEq, Repr

/-- A notice frame (R191). -/
structure Notice where
  unit : BitVec 4
  source : NoticeSource
  level : Nat
  snapshot : Snapshot
  deriving DecidableEq, Repr

/-- A frame of the M transmitter (R192). -/
inductive MFrame where
  | reply (r : Reply)
  | notice (n : Notice)
  deriving DecidableEq, Repr

/-- State of the Directive Processor (Table 9-1). `pacing` is the place of the pacing reply in the reply list,
0 for the oldest. The reserved slot is held exactly while the commit state is PENDING (log 21). -/
structure Processor where
  queue : List Directive
  replies : List Reply
  pacing : Option Nat
  resetWait : Bool
  ticks : BitVec 16
  counters : DirectiveCounters
  deriving DecidableEq, Repr

/-- The frames available to the M transmitter at one moment: a reply, and the eligible notice sources (R192). -/
structure Offered where
  reply : Bool
  notices : List NoticeSource
  deriving DecidableEq, Repr

/-- State of the Notice Unit (Table 10-1); NOTICE_MASK is among the parameters. `front` is the model's own: what the
idle transmitter was offered at the first moment of the running step at which a frame was available; none between steps
(log 13). -/
structure NoticeUnit where
  records : PerNotice NoticeRec
  transmitter : Option MFrame
  front : Option Offered
  deriving DecidableEq, Repr

/-! ## The whole machine -/

/-- The state of the FL6. `pending` is the queue of commands not yet run; `freeCount` counts the free values
drawn (log 7). `rstn` is the level of the reset line: false while reset is asserted. -/
structure State where
  pending : List Instr
  freeCount : Nat
  rstn : Bool
  straps : Straps
  params : Params
  ports : Ports
  asm : Assembler
  trackers : PerBranch Tracker
  demand : PerBranch DemandRec
  tables : TableStore
  exchange : Exchange
  banks : BankController
  control : Controller
  capture : Capture
  processor : Processor
  notices : NoticeUnit
  deriving DecidableEq, Repr

/-- Why a step stops with a fault. The FL6 has no such case: bad frames are discarded and counted, bad
directives answered with a result code, so there is no constructor, and no claim can rest on a fault (safe). -/
inductive Fault where
  deriving DecidableEq, Repr

/-- Why a step is refused. -/
inductive Refusal where
  /-- Raised by an arm of exec whose command has no meaning yet; no arm of this model raises it. Safe. -/
  | notModelled (mnemonic : String)
  deriving DecidableEq, Repr

/-! ## Power-on values -/

/-- A window with no entry since it was cleared (R19). -/
def Window.cleared : Window :=
  ⟨List.replicate Config.windowLength ⟨none, false⟩, none, 0⟩

/-- A source record at power-on (R25). -/
def SourceRec.initial : SourceRec := ⟨.mark, 0, 8, .disabled, 0, {}⟩

/-- The Stream Assembler at power-on (R25). -/
def Assembler.initial : Assembler where
  sources := ⟨.initial, .initial, .initial, .initial⟩
  map := ⟨none, none, none, none, none, none, none, none, none⟩
  queue := []
  expected := none
  lastReleased := none
  windows := ⟨.cleared, .cleared, .cleared, .cleared, .cleared, .cleared, .cleared, .cleared, .cleared⟩
  silence := none
  counters := {}

/-- A tracker at power-on (R45). -/
def Tracker.initial : Tracker where
  state := .unlocked
  halfPeriod := 8192
  history := []
  holdoverCount := 0
  risingArmed := false
  fallingArmed := false
  expectedPolarity := none
  lastCrossing := none
  h := 0
  lastEventTag := none
  magnitude := 0
  spurious := 0

/-- A branch record of the Demand Unit at power-on (R69). -/
def DemandRec.initial : DemandRec := ⟨0, 0, 0, 0, none, {}⟩

/-- A bank of firing angles that fires nothing (R87). -/
def TableStore.blockBank : List Nat := List.replicate Config.tableLength Config.blockAngle

/-- The Table Store at power-on (R87). -/
def TableStore.initial : TableStore := ⟨blockBank, blockBank, none, {}⟩

/-- A branch record of the Order Exchange at power-on (R109). -/
def ExchangeRec.initial : ExchangeRec := ⟨[], false, 0, 0, {}⟩

/-- The Order Exchange at power-on (R109). -/
def Exchange.initial : Exchange := ⟨[], none, ⟨.initial, .initial, .initial⟩, {}⟩

/-- A bank record at power-on (R129). -/
def BankRec.initial : BankRec := ⟨.absent, 0, false, none, none, none, {}⟩

/-- The Bank Controller at power-on (R129). -/
def BankController.initial : BankController := ⟨⟨.initial, .initial, .initial, .initial⟩, none, {}⟩

/-- The empty trip record (R143, R156). -/
def TripRecord.empty : TripRecord :=
  ⟨⟨false, false, false⟩, ⟨false, false, false⟩, ⟨false, false, false⟩, none, 0⟩

/-- An aux record at power-on (R156). -/
def AuxRec.initial : AuxRec := ⟨.activeHigh, .level, 0, {}, 0, 1, false, 0, false⟩

/-- The mode after power-on and FULL reset (R156). -/
def BootMode.mode : BootMode → Mode
  | .park => .park
  | .quiescent => .quiescent

/-- The Mode and Release Controller at power-on (R156). With every tracker UNLOCKED the supply is not valid and
the dip condition is present (R136; log 25). -/
def Controller.initial (boot : BootMode) : Controller where
  mode := boot.mode
  wakingTarget := none
  wakingCount := 0
  release := .held
  qualifyCount := 0
  trips := .empty
  directedBlock := false
  aux := ⟨.initial, .initial, .initial, .initial⟩
  blanking := ⟨.idle, 0, 0⟩
  dipState := .unarmed
  dipCount := 0
  resume := none
  supplyValid := false
  dip := true
  valveReady := false
  counters := {}

/-- The Capture Unit at power-on (R168). -/
def Capture.initial : Capture := ⟨.bypass, .off, [], 0, 0, none, {}⟩

/-- The Directive Processor at power-on (R187). -/
def Processor.initial : Processor := ⟨[], [], none, false, 0, {}⟩

/-- The Notice Unit at power-on (R193). -/
def NoticeUnit.initial : NoticeUnit := ⟨⟨{}, {}, {}, {}, {}, {}, {}, {}, {}, {}, {}, {}⟩, none, none⟩

/-- Every block at its power-on values, for given straps, level of RSTN, command queue and free-value count
(R25, R45, R69, R87, R109, R129, R156, R168, R176, R187, R193, R194, R197). -/
def State.powerOn (straps : Straps) (rstn : Bool) (pending : List Instr) (freeCount : Nat) : State where
  pending := pending
  freeCount := freeCount
  rstn := rstn
  straps := straps
  params := {}
  ports := ⟨{}, {}⟩
  asm := .initial
  trackers := ⟨.initial, .initial, .initial⟩
  demand := ⟨.initial, .initial, .initial⟩
  tables := .initial
  exchange := .initial
  banks := .initial
  control := .initial straps.boot
  capture := .initial
  processor := .initial
  notices := .initial

/-- The straps with every strap line low (Table 11-7). DESIGN CHOICE (log 6), unsafe: the manual leaves the lines
to the board. -/
def Straps.low : Straps := ⟨.hz50, 0, .park⟩

/-- The machine right after a power-on reset with every strap line low, RSTN high again (log 6). -/
def State.reset : State := State.powerOn .low true [] 0

/-! ## Field writes -/

def State.setParams (s : State) (x : Params) : State := { s with params := x }
def State.setPorts (s : State) (x : Ports) : State := { s with ports := x }
def State.setAsm (s : State) (x : Assembler) : State := { s with asm := x }
def State.setTrackers (s : State) (x : PerBranch Tracker) : State := { s with trackers := x }
def State.setDemand (s : State) (x : PerBranch DemandRec) : State := { s with demand := x }
def State.setTables (s : State) (x : TableStore) : State := { s with tables := x }
def State.setExchange (s : State) (x : Exchange) : State := { s with exchange := x }
def State.setBanks (s : State) (x : BankController) : State := { s with banks := x }
def State.setControl (s : State) (x : Controller) : State := { s with control := x }
def State.setCapture (s : State) (x : Capture) : State := { s with capture := x }
def State.setProcessor (s : State) (x : Processor) : State := { s with processor := x }
def State.setNotices (s : State) (x : NoticeUnit) : State := { s with notices := x }

end Sys2Proof.Machine
end

