-- ==== Sys2Proof/Machine/Ops.lean ====
section
/-! DEFINITION. The operations every block shares: indexed groups, counters, clipping, free values, notices raised,
replies created, and the effects other blocks take at a release drop. -/

namespace Sys2Proof.Machine

/-! ## Indexed groups -/

def PerBranch.get {α : Type} (p : PerBranch α) : Branch → α
  | .ab => p.ab
  | .bc => p.bc
  | .ca => p.ca

def PerBranch.set {α : Type} (p : PerBranch α) (b : Branch) (x : α) : PerBranch α :=
  match b with
  | .ab => { p with ab := x }
  | .bc => { p with bc := x }
  | .ca => { p with ca := x }

def PerBranch.ofFn {α : Type} (f : Branch → α) : PerBranch α := ⟨f .ab, f .bc, f .ca⟩

def Four.get {α : Type} (p : Four α) : Index4 → α
  | .i0 => p.n0
  | .i1 => p.n1
  | .i2 => p.n2
  | .i3 => p.n3

def Four.set {α : Type} (p : Four α) (i : Index4) (x : α) : Four α :=
  match i with
  | .i0 => { p with n0 := x }
  | .i1 => { p with n1 := x }
  | .i2 => { p with n2 := x }
  | .i3 => { p with n3 := x }

def Four.ofFn {α : Type} (f : Index4 → α) : Four α := ⟨f .i0, f .i1, f .i2, f .i3⟩

def PerQuantity.get {α : Type} (p : PerQuantity α) : Quantity → α
  | .ia => p.ia
  | .ib => p.ib
  | .ic => p.ic
  | .vab => p.vab
  | .vbc => p.vbc
  | .vca => p.vca
  | .ia2 => p.ia2
  | .ib2 => p.ib2
  | .ic2 => p.ic2

def PerQuantity.ofFn {α : Type} (f : Quantity → α) : PerQuantity α :=
  ⟨f .ia, f .ib, f .ic, f .vab, f .vbc, f .vca, f .ia2, f .ib2, f .ic2⟩

def PerQuantity.set {α : Type} (p : PerQuantity α) (q : Quantity) (x : α) : PerQuantity α :=
  PerQuantity.ofFn fun r => if r = q then x else p.get r

def PerNotice.get {α : Type} (p : PerNotice α) : NoticeSource → α
  | .trip => p.trip
  | .release => p.release
  | .tracker => p.tracker
  | .stream => p.stream
  | .source => p.source
  | .dip => p.dip
  | .bankFault => p.bankFault
  | .bankChange => p.bankChange
  | .mode => p.mode
  | .aux => p.aux
  | .capture => p.capture
  | .clamp => p.clamp

def PerNotice.ofFn {α : Type} (f : NoticeSource → α) : PerNotice α :=
  ⟨f .trip, f .release, f .tracker, f .stream, f .source, f .dip, f .bankFault, f .bankChange, f .mode, f .aux,
    f .capture, f .clamp⟩

def PerNotice.set {α : Type} (p : PerNotice α) (n : NoticeSource) (x : α) : PerNotice α :=
  PerNotice.ofFn fun m => if m = n then x else p.get m

/-- The branches in the order AB, BC, CA. -/
def Branch.all : List Branch := [.ab, .bc, .ca]

/-- The numbers 0 to 3 in order. -/
def Index4.all : List Index4 := [.i0, .i1, .i2, .i3]

/-- The notice sources in the order of Table 10-2. -/
def NoticeSource.all : List NoticeSource :=
  [.trip, .release, .tracker, .stream, .source, .dip, .bankFault, .bankChange, .mode, .aux, .capture, .clamp]

def Index4.toNat : Index4 → Nat
  | .i0 => 0
  | .i1 => 1
  | .i2 => 2
  | .i3 => 3

/-- The logical quantities numbered 0 to 8 (1.2). -/
def Quantity.all : List Quantity := [.ia, .ib, .ic, .vab, .vbc, .vca, .ia2, .ib2, .ic2]

/-! ## Numbers -/

/-- A counter is 16 bits wide and stops at 65535 (0.7). -/
def bump (n : Nat) : Nat := if n < 65535 then n + 1 else n

/-- A count that stops at 255 (R64, R96, R103, R142). -/
def bump255 (n : Nat) : Nat := if n < 255 then n + 1 else n

/-- clip(x, a, b): x limited to the range a to b (0.7). -/
def clip (x a b : Int) : Int := if x < a then a else if b < x then b else x

/-- Integer division rounds toward minus infinity (0.7). -/
def floorDiv (x : Int) (d : Nat) : Int := Int.fdiv x d

/-- The distance from an expected tag to a tag, modulo 4096 (R6). -/
def tagDistance (expected tag : Tag) : Nat := (tag - expected).toNat

/-! ## Free values (log 7) -/

/-- The next free value of the run and the state that has drawn it. -/
def State.draw (s : State) : Nat × State :=
  (Config.freeChoice s.freeCount, { s with freeCount := s.freeCount + 1 })

/-- Remove the item at a place of a list, if there is one: the item and the rest. -/
def takeAt {α : Type} : Nat → List α → Option (α × List α)
  | _, [] => none
  | 0, x :: xs => some (x, xs)
  | n + 1, x :: xs => (takeAt n xs).map fun r => (r.1, x :: r.2)

/-- The order of a list that a free value k names: every order of the list is named by some k. -/
def freeOrder {α : Type} : Nat → Nat → List α → List α
  | 0, _, xs => xs
  | fuel + 1, k, xs =>
    match takeAt (k % xs.length) xs with
    | none => xs
    | some (x, rest) => x :: freeOrder fuel (k / xs.length) rest

/-- The items of a list in the order they stand in, or, when the order is contended, in a free order. -/
def State.ordered {α : Type} (s : State) (contended : Bool) (xs : List α) : List α × State :=
  if contended then
    let d := s.draw
    (freeOrder xs.length d.1 xs, d.2)
  else (xs, s)

/-- At least two of four conditions hold. -/
def twoOf (a b c d : Bool) : Bool := (a && b) || (a && c) || (a && d) || (b && c) || (b && d) || (c && d)

/-! ## Blocks by branch, source, bank and aux -/

def State.setTracker (s : State) (b : Branch) (t : Tracker) : State := s.setTrackers (s.trackers.set b t)

def State.setDemandRec (s : State) (b : Branch) (r : DemandRec) : State := s.setDemand (s.demand.set b r)

def State.exchangeRec (s : State) (b : Branch) : ExchangeRec := s.exchange.branches.get b

def State.setExchangeRec (s : State) (b : Branch) (r : ExchangeRec) : State :=
  s.setExchange { s.exchange with branches := s.exchange.branches.set b r }

/-- Update the counters a branch has in the Order Exchange (R110). -/
def State.countExchange (s : State) (b : Branch) (f : ExchangeCounters → ExchangeCounters) : State :=
  s.setExchangeRec b { s.exchangeRec b with counters := f (s.exchangeRec b).counters }

def State.bankRec (s : State) (n : Index4) : BankRec := s.banks.banks.get n

def State.setBankRec (s : State) (n : Index4) (r : BankRec) : State :=
  s.setBanks { s.banks with banks := s.banks.banks.set n r }

def State.setSource (s : State) (n : Index4) (r : SourceRec) : State :=
  s.setAsm { s.asm with sources := s.asm.sources.set n r }

def State.setAux (s : State) (n : Index4) (r : AuxRec) : State :=
  s.setControl { s.control with aux := s.control.aux.set n r }

/-- Update the control counters (R155). -/
def State.countControl (s : State) (f : ControlCounters → ControlCounters) : State :=
  s.setControl { s.control with counters := f s.control.counters }

/-- Update the M port's counters (R194). -/
def State.countM (s : State) (f : PortCounters → PortCounters) : State :=
  s.setPorts { s.ports with m := f s.ports.m }

/-- Update the V port's counters (R194). -/
def State.countV (s : State) (f : PortCounters → PortCounters) : State :=
  s.setPorts { s.ports with v := f s.ports.v }

/-- A frame that passes the port's checks is counted as received (R194). -/
def PortCounters.receive (c : PortCounters) : PortCounters := { c with received := bump c.received }

def PortCounters.badFormat (c : PortCounters) : PortCounters := { c with formatError := bump c.formatError }

/-! ## Notices -/

/-- R188: a raised notice sets the source's status; a status already set, and its sent flag, stay. -/
def raise (n : NoticeSource) (s : State) : State :=
  let r := s.notices.records.get n
  s.setNotices { s.notices with records := s.notices.records.set n { r with status := true } }

/-! ## Replies -/

/-- Append a reply as the newest of the reply list (R173). -/
def State.appendReply (s : State) (tag kind : Byte) (result : ResultCode) (data : ReplyData) : State :=
  s.setProcessor { s.processor with
    replies := s.processor.replies ++ [⟨s.straps.unit, tag, kind, result, data⟩] }

/-- The reserved slot is held while the commit state is PENDING (R173). -/
def State.reservedSlot (s : State) : Bool := s.tables.commit.isSome

/-- The places of the reply list in use: the replies held, and the reserved slot while it is held (R173). -/
def State.usedPlaces (s : State) : Nat :=
  s.processor.replies.length + (if s.reservedSlot then 1 else 0)

/-- The reply list has a free place (R173). -/
def State.hasFreePlace (s : State) : Bool := decide (s.usedPlaces < Config.replyListLimit)

/-- The kind byte of TABLE_COMMIT (Table 11-3), which a deferred commit reply carries (R83). -/
def commitKind : Byte := 15

/-! ## Table Store: the exchange of banks -/

/-- R80: the bank that was STAGED becomes ACTIVE and the other way round. -/
def TableStore.swapped (t : TableStore) : TableStore := { t with active := t.staged, staged := t.active }

/-- R81, R82, R83: a pending commit is completed with an exchange and a deferred reply DONE; without a pending
commit nothing happens. -/
def completeCommit (completion : Completion) (count : TableCounters → TableCounters) (s : State) : State :=
  match s.tables.commit with
  | none => s
  | some tag =>
    (s.setTables { s.tables.swapped with commit := none, counters := count s.tables.counters }).appendReply
      tag commitKind .done (.commit completion)

/-- R82: a release drop completes a pending commit. -/
def commitReleaseDrop (s : State) : State :=
  completeCommit .releaseDrop (fun c => { c with drop := bump c.drop }) s

/-! ## Demand Unit and Order Exchange at a release drop -/

/-- R58, bank confirmation: all three clamp counters become 0. -/
def zeroClamps (s : State) : State :=
  s.setDemand (.ofFn fun b => { s.demand.get b with clamp := 0 })

/-- R56: all three carries become 0. -/
def zeroCarries (s : State) : State :=
  s.setDemand (.ofFn fun b => { s.demand.get b with carry := 0 })

/-- An order turned to BLOCK in place (R92). -/
def VFrame.blocked : VFrame → VFrame
  | .order o => .order { o with angle := Config.blockAngle }
  | .bank n a => .bank n a

/-- Whether a queued frame's angle changes when it is turned to BLOCK (R92). -/
def VFrame.carriesAngle : VFrame → Bool
  | .order o => decide (o.angle ≠ Config.blockAngle)
  | .bank _ _ => false

/-- A counter increased n times. -/
def bumpBy : Nat → Nat → Nat
  | 0, c => c
  | n + 1, c => bumpBy n (bump c)

/-- R92: every order in the send queue has its angle set to BLOCK; the rewritten counter counts the changes. -/
def rewriteQueue (s : State) : State :=
  s.setExchange { s.exchange with
    queue := s.exchange.queue.map VFrame.blocked
    counters := { s.exchange.counters with
      rewritten := bumpBy (s.exchange.queue.countP VFrame.carriesAngle) s.exchange.counters.rewritten } }

/-! ## Conditions other blocks read -/

/-- B_BANK (R113): the susceptances of the banks in IN or OPENING, and of FAULTED banks that are counted. -/
def BankRec.contribution (r : BankRec) : Nat :=
  match r.state with
  | .inService | .opening => r.susceptance
  | .faulted => if r.counted then r.susceptance else 0
  | .absent | .out | .closing | .discharging => 0

def State.bBank (s : State) : Nat :=
  s.banks.banks.n0.contribution + s.banks.banks.n1.contribution + s.banks.banks.n2.contribution +
    s.banks.banks.n3.contribution

/-- R4: none of IA, IB, IC, VAB, VBC, VCA is ABSENT. -/
def State.primaryMapped (s : State) : Bool :=
  s.asm.map.ia.isSome && s.asm.map.ib.isSome && s.asm.map.ic.isSome && s.asm.map.vab.isSome &&
    s.asm.map.vbc.isSome && s.asm.map.vca.isSome

/-- R4: none of IA2, IB2, IC2 is ABSENT. -/
def State.secondLoadMapped (s : State) : Bool :=
  s.asm.map.ia2.isSome && s.asm.map.ib2.isSome && s.asm.map.ic2.isSome

/-- R175: the parked condition. -/
def State.parked (s : State) : Bool :=
  decide (s.control.mode ≠ .run) && decide (s.control.release = .held)

/-- The receiving blocks act only while RSTN is high (R197; log 5). -/
def whileReleased (s : State) (f : State → State) : Host.Outcome State Fault Refusal :=
  if s.rstn then .next (f s) else .next s

end Sys2Proof.Machine
end

