-- ==== Sys2Proof/Machine/Flags.lean ====
section
/-! DEFINITION. The flag computations: demand flags, notice eligibility and the flags a release or a commit reads. -/

namespace Sys2Proof.Machine

/-- A bit of a flag byte. -/
def flagBit (n : Nat) (b : Bool) : Byte := if b then BitVec.ofNat 8 (2 ^ n) else 0

/-- The demand flags byte of an order frame and of a capture record (notes under Table 11-5). -/
def DemandFlags.byte (f : DemandFlags) : Byte :=
  flagBit 0 f.clampHigh ||| flagBit 1 f.clampLow ||| flagBit 2 f.carried ||| flagBit 3 f.substituted |||
    flagBit 4 f.load2Omitted ||| flagBit 5 f.repeated ||| flagBit 6 f.notFormed

/-- A set of branches as a bit field (R196). -/
def PerBranch.setByte (p : PerBranch Bool) : Byte := flagBit 0 p.ab ||| flagBit 1 p.bc ||| flagBit 2 p.ca

/-- Some branch is in the set. -/
def PerBranch.anyBranch (p : PerBranch Bool) : Bool := p.ab || p.bc || p.ca

/-- R189: a source is eligible when its status is set, it is enabled, its level passes the mask and it has not
been sent. -/
def NoticeRec.eligible (mask : Nat) (r : NoticeRec) : Bool :=
  r.status && r.enable && decide (mask ≤ r.level) && !r.sent

/-- The eligible sources in the order of Table 10-2. -/
def State.eligible (s : State) : List NoticeSource :=
  NoticeSource.all.filter fun n => (s.notices.records.get n).eligible s.params.noticeMask

/-- R192, 2: of the eligible sources, the one of highest level; among equals, the one of lowest number. -/
def State.bestNotice (s : State) : List NoticeSource → Option NoticeSource
  | [] => none
  | n :: rest =>
    match s.bestNotice rest with
    | none => some n
    | some m =>
      if (s.notices.records.get n).level < (s.notices.records.get m).level then some m else some n

/-! ## What the idle M transmitter is offered (R192; log 13) -/

/-- No frame is offered. -/
def Offered.isEmpty (o : Offered) : Bool := !o.reply && o.notices.isEmpty

/-- The frames available now. -/
def State.available (s : State) : Offered := ⟨!s.processor.replies.isEmpty, s.eligible⟩

/-- What is still available of an offer made before. -/
def State.stillAvailable (s : State) (o : Offered) : Offered :=
  ⟨o.reply && s.available.reply, o.notices.filter fun n => s.eligible.contains n⟩

/-- The frames among which the idle transmitter chooses at the end of a step: those it was offered first, or all that
are available. -/
def State.candidates (s : State) : Offered :=
  match s.notices.front with
  | none => s.available
  | some o => if (s.stillAvailable o).isEmpty then s.available else s.stillAvailable o

/-- R192: a moment of the step that lies before what comes next. If the transmitter is idle and this is the first such
moment at which a frame is available, what is available now goes before what becomes available later. -/
def moment (s : State) : State :=
  if s.notices.transmitter.isNone && s.notices.front.isNone && !s.available.isEmpty then
    s.setNotices { s.notices with front := some s.available }
  else s

/-- R192: a moment that the raises of the given sources come before. -/
def momentAfter (sources : List NoticeSource) (s : State) : State :=
  if sources.any s.eligible.contains then moment s else s

/-- R150, R192: a moment that a change of the release state comes before: its RELEASE notice, and the deferred reply of
a commit that a release drop completes (R82). -/
def momentAfterRelease (s : State) : State :=
  if s.available.reply || s.eligible.contains .release then moment s else s

/-- Actions in the order they stand in, or, when the order is contended, in a free order, each wholly before the
next. -/
def State.inTurn (s : State) (contended : Bool) (actions : List (State → State)) : State :=
  let d := s.ordered contended actions
  d.1.foldl (fun t f => if contended then moment (f t) else f t) d.2

/-- A trip is latched (R142). -/
def TripRecord.latched (t : TripRecord) : Bool :=
  t.gap.anyBranch || t.report.anyBranch || t.misfire.anyBranch || t.valve.isSome

/-- R145: the aux record contributes a block. -/
def AuxRec.contributesBlock (r : AuxRec) : Bool :=
  (decide (r.kind = .level) && r.actions.block && r.active) || r.blockLatch

/-- R145: some aux record contributes a block. -/
def Controller.auxBlock (c : Controller) : Bool :=
  c.aux.n0.contributesBlock || c.aux.n1.contributesBlock || c.aux.n2.contributesBlock || c.aux.n3.contributesBlock

/-- R145: the selected block source is active. -/
def Controller.blockSource (c : Controller) : BlockSelect → Bool
  | .directed => c.directedBlock
  | .aux => c.auxBlock
  | .merged => c.directedBlock || c.auxBlock

/-- R145: a block cause is present. -/
def State.blockCause (s : State) : Bool :=
  s.control.trips.latched || decide (s.control.blanking.state = .active) ||
    s.control.blockSource s.params.blockSelect

/-- R146: the base conditions of release. -/
def State.baseConditions (s : State) : Bool :=
  decide (s.control.mode = .run) && s.control.supplyValid && !s.blockCause

/-- R136: the supply is valid. -/
def State.supplyIsValid (s : State) : Bool :=
  Branch.all.all fun b =>
    let t := s.trackers.get b
    (decide (t.state = .locked) || decide (t.state = .holdover)) && decide (s.params.vValid ≤ t.magnitude)

/-- R136: there is a dip. -/
def State.dipPresent (s : State) : Bool :=
  Branch.all.any fun b =>
    let t := s.trackers.get b
    decide (t.state = .unlocked) || decide (t.magnitude < s.params.vDip)

/-- R100: valve ready, all three readiness flags. -/
def State.allReady (s : State) : Bool :=
  s.exchange.branches.ab.ready && s.exchange.branches.bc.ready && s.exchange.branches.ca.ready

end Sys2Proof.Machine
end

