-- ==== Sys2Proof/Machine/CaptureUnit.lean ====
section
/-! DEFINITION. The Capture Unit (section 8): offered records, triggers and freezing. -/

namespace Sys2Proof.Machine

/-- R160: every entry into FROZEN raises the CAPTURE notice; the rest of the unit's new state is given. -/
def freeze (c : Capture) (s : State) : State :=
  raise .capture (s.setCapture { c with state := .frozen })

/-- R161: the unit with a record appended, overwriting the oldest when the buffer is full. -/
def Capture.accept (c : Capture) (r : CaptureRecord) : Capture :=
  if c.buffer.length < Config.captureLimit then
    { c with buffer := c.buffer ++ [r], counters := { c.counters with accepted := bump c.counters.accepted } }
  else
    { c with
      buffer := c.buffer.drop 1 ++ [r]
      counters := { c.counters with
        accepted := bump c.counters.accepted, overwritten := bump c.counters.overwritten } }

/-- R161: the unit with a record refused. -/
def Capture.refuse (c : Capture) : Capture :=
  { c with counters := { c.counters with refused := bump c.counters.refused } }

/-- R162: a record accepted in TRIGGERED is counted against the post count; at 0 the unit freezes. -/
def countPost (c : Capture) (s : State) : State :=
  if c.postCount ≤ 1 then freeze { c with postCount := 0 } s
  else s.setCapture { c with postCount := c.postCount - 1 }

/-- R161: an offered record is accepted, overwrites the oldest, is refused or is passed over. -/
def offerRecord (r : CaptureRecord) (s : State) : State :=
  let c := s.capture
  match c.state with
  | .off => s
  | .frozen => s.setCapture c.refuse
  | .running | .triggered =>
    if c.mode = .stopOnFull ∧ Config.captureLimit ≤ c.buffer.length then freeze c.refuse s
    else if c.state = .triggered then countPost (c.accept r) s
    else s.setCapture (c.accept r)

/-- R163: a trigger taken in RUNNING; in every other state it is ignored. -/
def trigger (source : TriggerSource) (s : State) : State :=
  let c := s.capture
  match c.state with
  | .running =>
    if c.post = 0 then freeze { c with trigger := some source } s
    else s.setCapture { c with state := .triggered, postCount := c.post, trigger := some source }
  | .off | .triggered | .frozen => s

end Sys2Proof.Machine
end

