-- ==== Sys2Proof/Machine/Control.lean ====
section
/-! DEFINITION. The Mode and Release Controller (section 7): release, modes, supply, dips, trips, readiness. -/

namespace Sys2Proof.Machine

/-! ## Release (7.4) -/

/-- R150: a departure from RELEASED, handed to the Demand Unit, the Order Exchange and the Table Store. The new
release state is already written. -/
def releaseDrop (s : State) : State :=
  raise .release (commitReleaseDrop (rewriteQueue (zeroClamps (zeroCarries
    (s.countControl fun c => { c with releaseLost := bump c.releaseLost })))))

/-- R149: a failing base condition moves the release state to HELD with qualifying count 0. -/
def holdRelease (s : State) : State :=
  let held := s.setControl { s.control with release := .held, qualifyCount := 0 }
  match s.control.release with
  | .held => s
  | .qualifying => raise .release (held.countControl fun c => { c with qualifyRestart := bump c.qualifyRestart })
  | .awaitingReady => raise .release held
  | .released => releaseDrop held

/-- R146: the base conditions coming to hold in HELD start QUALIFYING with count 0. -/
def startQualifying (s : State) : State :=
  match s.control.release with
  | .held => raise .release (s.setControl { s.control with release := .qualifying, qualifyCount := 0 })
  | .qualifying | .awaitingReady | .released => s

/-- R146, R149: the base conditions are evaluated again. -/
def evalBase (s : State) : State :=
  if s.baseConditions then startQualifying s else holdRelease s

/-- Entry into RELEASED (R147, R148). -/
def gainRelease (s : State) : State :=
  raise .release ((s.setControl { s.control with release := .released }).countControl fun c =>
    { c with releaseGained := bump c.releaseGained })

/-- R100, R148: valve ready, changed to v, is handed over by the Order Exchange. -/
def handReady (v : Bool) (s : State) : State :=
  let s' := s.setControl { s.control with valveReady := v }
  match s.control.release, v with
  | .awaitingReady, true => gainRelease s'
  | .released, false => releaseDrop (s'.setControl { s'.control with release := .awaitingReady })
  | _, _ => s'

/-- R100: hand over valve ready when it differs from what it was before the readiness flags were written. -/
def checkReady (before : Bool) (s : State) : State :=
  if s.allReady = before then s else handReady s.allReady s

/-! ## Modes (7.1) -/

/-- The mode that a target names. -/
def Target.mode : Target → Mode
  | .run => .run
  | .park => .park

/-- R131: PARK stands in for RUN while the primary quantities are not mapped. -/
def State.permitted (s : State) (t : Target) : Target :=
  match t with
  | .run => if s.primaryMapped then .run else .park
  | .park => .park

/-- The mode, its waking target and waking count 0 are written; the MODE notice is raised when the mode changes
(R131). -/
def changeMode (m : Mode) (target : Option Target) (s : State) : State :=
  let s' := s.setControl { s.control with mode := m, wakingTarget := target, wakingCount := 0 }
  if s.control.mode = m then s' else raise .mode s'

/-- The settle length of SETTLE_CODE (R134). -/
def settleLength (code : Nat) : Nat := 8 * 2 ^ code

/-- R135: WAKING ends with its target, or PARK in place of an unmapped RUN. -/
def endWaking (s : State) : State :=
  match s.control.wakingTarget with
  | none => evalBase (changeMode .park none s)
  | some t => evalBase (changeMode (s.permitted t).mode none s)

/-- R134: the waking count at a POS event of branch AB taken in WAKING. -/
def countWaking (synthesized : Bool) (s : State) : State :=
  if synthesized then s
  else
    let s' := s.setControl { s.control with wakingCount := s.control.wakingCount + 1 }
    if settleLength s.params.settleCode ≤ s'.control.wakingCount then endWaking s' else s'

/-- R147: the qualifying count at a POS event of branch AB taken in QUALIFYING. -/
def countQualifying (s : State) : State :=
  let s' := s.setControl { s.control with qualifyCount := s.control.qualifyCount + 1 }
  if s.params.releaseBase + s.params.releaseExtra ≤ s'.control.qualifyCount then
    if s'.control.valveReady then gainRelease s'
    else raise .release (s'.setControl { s'.control with release := .awaitingReady })
  else s'

/-- R134, R147: what the controller does at a crossing event. -/
def controlEvent (ev : CrossingEvent) (s : State) : State :=
  match ev.branch, ev.polarity with
  | .ab, .pos =>
    if s.control.mode = .waking then countWaking ev.synthesized s
    else if s.control.release = .qualifying then countQualifying s
    else s
  | _, _ => s

/-- The event ends WAKING or the qualifying count (R135, R147). -/
def controlEventEnds (ev : CrossingEvent) (s : State) : Bool :=
  decide (ev.branch = .ab) && decide (ev.polarity = .pos) &&
    (if s.control.mode = .waking then
      !ev.synthesized && decide (settleLength s.params.settleCode ≤ s.control.wakingCount + 1)
    else
      decide (s.control.release = .qualifying) &&
        decide (s.params.releaseBase + s.params.releaseExtra ≤ s.control.qualifyCount + 1))

/-! ## Supply, dips and interruptions (7.2) -/

/-- What the interruption remembers (R139): the mode, if it is RUN or PARK. -/
def Controller.remembered (c : Controller) : Option Target :=
  match c.mode with
  | .run => some .run
  | .park => some .park
  | .waking | .quiescent => c.resume

/-- R139: an interruption; the monitor becomes SPENT (R137, R138). -/
def interrupt (count : ControlCounters → ControlCounters) (s : State) : State :=
  raise .dip ((s.setControl { s.control with
    dipState := .spent, dipCount := 0, resume := s.control.remembered }).countControl count)

/-- An interruption by a dip (R137, R139). -/
def dipInterruption (s : State) : State :=
  interrupt (fun c => { c with dipInterruption := bump c.dipInterruption }) s

/-- An interruption by a stream loss (R138, R139). -/
def streamInterruption (s : State) : State :=
  interrupt (fun c => { c with streamInterruption := bump c.streamInterruption }) s

/-- The result of RESUME_POLICY, before the check of the primary quantities (R140). -/
def State.resumeTarget (s : State) (remembered : Target) : Target :=
  match s.params.resumePolicy with
  | .alwaysPark => .park
  | .alwaysRun => .run
  | .previous => remembered
  | .preset => s.params.resumePreset

/-- R140: recovery while resume is pending sets the mode by RESUME_POLICY. -/
def recover (s : State) : State :=
  match s.control.resume with
  | none => s
  | some t =>
    let m := (s.permitted (s.resumeTarget t)).mode
    (changeMode m none (s.setControl { s.control with resume := none })).countControl fun c =>
      { c with recoveries := bump c.recoveries }

/-- R137, R140: the supply becomes valid. -/
def supplyReturns (s : State) : State :=
  recover (match s.control.dipState with
    | .unarmed | .spent => s.setControl { s.control with dipState := .watching }
    | .watching | .timing => s)

/-- R137: a dip begins. -/
def dipBegins (s : State) : State :=
  match s.control.dipState with
  | .watching =>
    if s.params.dipTolerance = 0 then dipInterruption s
    else s.setControl { s.control with dipState := .timing, dipCount := s.params.dipTolerance }
  | .unarmed | .timing | .spent => s

/-- R137: a dip ends. -/
def dipEnds (s : State) : State :=
  match s.control.dipState with
  | .timing => s.setControl { s.control with dipState := .watching, dipCount := 0 }
  | .unarmed | .watching | .spent => s

/-- R136, R137, R140, R146: supply validity and dip are evaluated again. The policy of a recovery, with its MODE notice,
comes before the release state (R140), and the release state is HELD, with its RELEASE notice raised and a commit that
its drop completes answered, before an interruption is declared (R139). -/
def evalSupply (s : State) : State :=
  let valid := s.supplyIsValid
  let dip := s.dipPresent
  let s1 := s.setControl { s.control with supplyValid := valid, dip := dip }
  let s2 := if valid && !s.control.supplyValid then supplyReturns s1 else s1
  let s3 := evalBase (momentAfter [.mode] s2)
  if dip && !s.control.dip then dipBegins (momentAfterRelease s3)
  else if !dip && s.control.dip then dipEnds s3
  else s3

/-! ## Trips (7.3) -/

/-- A trip cause as it is handed over (R142). -/
inductive TripCause where
  | gap (b : Branch)
  | report (b : Branch)
  | misfire (b : Branch)
  | valve (cause : ValveCause)
  deriving DecidableEq, Repr

/-- The trip record after a cause (R142). -/
def TripRecord.latch (t : TripRecord) : TripCause → TripRecord
  | .gap b => { t with gap := t.gap.set b true }
  | .report b => { t with report := t.report.set b true }
  | .misfire b => { t with misfire := t.misfire.set b true }
  | .valve c => { t with valve := some (t.valve.getD c), valveCount := bump255 t.valveCount }

/-- The trip-cause counter of a cause's kind (R142, R155). -/
def ControlCounters.countCause (c : ControlCounters) : TripCause → ControlCounters
  | .gap _ => { c with gapCauses := bump c.gapCauses }
  | .report _ => { c with reportCauses := bump c.reportCauses }
  | .misfire _ => { c with misfireCauses := bump c.misfireCauses }
  | .valve _ => { c with valveCauses := bump c.valveCauses }

/-- R142: a trip cause is latched, counted and raises TRIP; a block cause may appear (R145). -/
def latchTrip (cause : TripCause) (s : State) : State :=
  evalBase (raise .trip (s.setControl { s.control with
    trips := s.control.trips.latch cause
    counters := s.control.counters.countCause cause }))

/-! ## Gap accounting of the Demand Unit (3.10), which hands a trip -/

/-- An increase of the branch's consecutive-gap count would hand a GAP trip cause (R64, R65; log 17). -/
def State.gapTripDue (s : State) (b : Branch) : Bool :=
  let n := (s.demand.get b).gapCount
  decide (n < 255) && decide (s.params.gapLimit ≤ n + 1)

/-- R64: the consecutive-gap count is increased by one, stopping at 255. -/
def countGap (b : Branch) (s : State) : State :=
  s.setDemandRec b { s.demand.get b with gapCount := bump255 (s.demand.get b).gapCount }

/-- R64, R65: the Order Exchange reports a drop or a withdrawal of an order. -/
def reportLost (o : Order) (s : State) : State :=
  if o.flags.notFormed then s
  else if s.gapTripDue o.branch then latchTrip (.gap o.branch) (countGap o.branch s)
  else countGap o.branch s

/-- R64: the Order Exchange reports a transmit completion of an order. -/
def reportSent (o : Order) (s : State) : State :=
  if o.flags.notFormed then s
  else s.setDemandRec o.branch { s.demand.get o.branch with gapCount := 0 }

end Sys2Proof.Machine
end

