-- ==== Sys2Proof/Machine/Exchange.lean ====
section
/-! DEFINITION. The Order Exchange (section 5): send queue, transmission, outstanding lists, valve reports. -/

namespace Sys2Proof.Machine

/-! ## Transmission (5.2) -/

/-- R93: the idle V transmitter takes the head of the send queue. -/
def beginV (s : State) : State :=
  match s.exchange.transmitter, s.exchange.queue with
  | none, f :: rest => s.setExchange { s.exchange with queue := rest, transmitter := some ⟨f, false⟩ }
  | _, _ => s

/-- A frame is appended to the send queue as the newest; an idle transmitter begins (R89, R90, R93). -/
def pushFrame (f : VFrame) (s : State) : State :=
  beginV (s.setExchange { s.exchange with queue := s.exchange.queue ++ [f] })

/-! ## The send queue (5.1) -/

/-- R89: the Demand Unit hands over an order. -/
def handOrder (o : Order) (s : State) : State :=
  if s.exchange.queue.length < Config.sendQueueLimit then
    pushFrame (.order o) (s.countExchange o.branch fun c => { c with queued := bump c.queued })
  else
    reportLost o (s.countExchange o.branch fun c => { c with missed := bump c.missed })

/-- The newest order of a queue and the queue without it (R90). -/
def newestOrder : List VFrame → Option (Order × List VFrame)
  | [] => none
  | f :: rest =>
    match newestOrder rest with
    | some (o, rest') => some (o, f :: rest')
    | none =>
      match f with
      | .order o => some (o, rest)
      | .bank _ _ => none

/-- R90: a bank order is appended, displacing the newest order of a full queue, or refused. -/
def handBankOrder (n : Index4) (a : BankAction) (s : State) : State :=
  let queued := fun (c : QueueCounters) => { c with bankQueued := bump c.bankQueued }
  if s.exchange.queue.length < Config.sendQueueLimit then
    pushFrame (.bank n a) (s.setExchange { s.exchange with counters := queued s.exchange.counters })
  else
    match newestOrder s.exchange.queue with
    | none =>
      s.setExchange { s.exchange with
        counters := { s.exchange.counters with bankRefused := bump s.exchange.counters.bankRefused } }
    | some (o, rest) =>
      let s1 := (s.setExchange { s.exchange with queue := rest }).countExchange o.branch fun c =>
        { c with missed := bump c.missed }
      let s2 := reportLost o s1
      pushFrame (.bank n a) (s2.setExchange { s2.exchange with counters := queued s2.exchange.counters })

/-- R91: the order is 12 sets old or older at the released tag. -/
def VFrame.overdue (released : Tag) : VFrame → Bool
  | .order o => decide (Config.orderDeadline ≤ tagDistance o.crossingTag released)
  | .bank _ _ => false

/-- The orders among frames. -/
def VFrame.orders : List VFrame → List Order
  | [] => []
  | .order o :: rest => o :: VFrame.orders rest
  | .bank _ _ :: rest => VFrame.orders rest

/-- R91: a withdrawn order is counted LATE and reported to the Demand Unit. -/
def withdrawn (o : Order) (s : State) : State :=
  reportLost o (s.countExchange o.branch fun c => { c with late := bump c.late })

/-- R91: the deadline check at a released set. All overdue orders leave the queue before the first of them is reported:
the manual does not say whether an order still to be withdrawn is queued when the report of another trips GAP and drops
release, so that R92 would rewrite and count it (log 34, DESIGN CHOICE). -/
def deadlineCheck (released : Tag) (s : State) : State :=
  let gone := VFrame.orders (s.exchange.queue.filter fun f => f.overdue released)
  let s' := s.setExchange { s.exchange with queue := s.exchange.queue.filter fun f => !f.overdue released }
  gone.foldl (fun t o => withdrawn o t) s'

/-! ## Outstanding lists (5.3) -/

/-- The age of a half-cycle number at a branch's h (R94, R95). -/
def orderAge (now h : HalfCycle) : Nat := (now - h).toNat

/-- R96, R97: one timeout of a branch is counted, and hands a REPORT trip cause at TIMEOUT_LIMIT (log 17). -/
def countTimeout (b : Branch) (s : State) : State :=
  let r := s.exchangeRec b
  let s' := s.setExchangeRec b { r with
    timeoutRun := bump255 r.timeoutRun
    counters := { r.counters with timeout := bump r.counters.timeout } }
  if r.timeoutRun < 255 ∧ s.params.timeoutLimit ≤ r.timeoutRun + 1 then latchTrip (.report b) s' else s'

/-- n timeouts of a branch (R96). -/
def countTimeouts (b : Branch) : Nat → State → State
  | 0, s => s
  | n + 1, s => countTimeouts b n (countTimeout b s)

/-- The entries of a list that an event of number h removes (R96). -/
def agedOut (now : HalfCycle) (l : List Outstanding) : List Outstanding :=
  l.filter fun e => decide (4 ≤ orderAge now e.h)

/-- R96: at a crossing event of a branch, entries of age 4 or more are removed as timeouts. -/
def ageOrders (ev : CrossingEvent) (s : State) : State :=
  let r := s.exchangeRec ev.branch
  countTimeouts ev.branch (agedOut ev.h r.outstanding).length
    (s.setExchangeRec ev.branch { r with
      outstanding := r.outstanding.filter fun e => !decide (4 ≤ orderAge ev.h e.h) })

/-- The event's timeouts reach TIMEOUT_LIMIT (R97). -/
def agingTrips (ev : CrossingEvent) (s : State) : Bool :=
  let r := s.exchangeRec ev.branch
  let n := (agedOut ev.h r.outstanding).length
  decide (0 < n) && decide (s.params.timeoutLimit ≤ r.timeoutRun + n)

/-! ## Transmit completion (5.2) -/

/-- R94: the completed order, not disowned, young enough for its branch's outstanding list. -/
def appendOutstanding (o : Order) (s : State) : State :=
  let r := s.exchangeRec o.branch
  s.setExchangeRec o.branch { r with outstanding := r.outstanding ++ [⟨o.h, o.polarity, o.angle⟩] }

/-- R94: the completed order is counted sent and reported to the Demand Unit. -/
def orderSent (o : Order) (s : State) : State :=
  reportSent o (s.countExchange o.branch fun c => { c with sent := bump c.sent })

/-- R94, R97: a completed order that is too old is a timeout, and the next transmission begins; when the timeout
trips while frames wait, which of the two comes first is free (R92; log 11). -/
def lateCompletion (o : Order) (s : State) : State :=
  let trips := decide (s.params.timeoutLimit ≤ (s.exchangeRec o.branch).timeoutRun + 1)
  let d := s.ordered (trips && !s.exchange.queue.isEmpty) [beginV, countTimeout o.branch]
  d.1.foldl (fun t f => f t) d.2

/-- R93, R94: the V transmitter completes its frame. An idle transmitter has nothing to complete (log 24). -/
def completeV (s : State) : State :=
  match s.exchange.transmitter with
  | none => s
  | some tx =>
    let s1 := (s.setExchange { s.exchange with transmitter := none }).countV fun c => { c with sent := bump c.sent }
    match tx.frame with
    | .bank _ _ =>
      beginV (s1.setExchange { s1.exchange with
        counters := { s1.exchange.counters with bankSent := bump s1.exchange.counters.bankSent } })
    | .order o =>
      let s2 := orderSent o s1
      if tx.disowned then beginV s2
      else if orderAge (s2.trackers.get o.branch).h o.h ≤ 3 then beginV (appendOutstanding o s2)
      else lateCompletion o s2

/-! ## Valve reports (5.4, 5.5) -/

/-- A valve report with its fields decoded (R98). -/
structure ValveReport where
  branch : Branch
  polarity : Polarity
  h : HalfCycle
  outcome : ValveOutcome
  firedAngle : Nat
  ready : Bool
  faultCode : Byte
  deriving DecidableEq, Repr

/-- The result of an outcome evaluation (Table 5-2). -/
inductive OutcomeResult where
  | correct
  | misfire
  | valve (fault : Option Byte)
  deriving DecidableEq, Repr

/-- Table 5-2: the outcome against the ordered angle. -/
def evaluate (r : ValveReport) (ordered tolerance : Nat) : OutcomeResult :=
  match r.outcome with
  | .fault => .valve (some r.faultCode)
  | .fired =>
    if ordered = Config.blockAngle then .valve none
    else if ((r.firedAngle : Int) - ordered).natAbs ≤ tolerance then .correct
    else .misfire
  | .withheld | .notFired => if ordered = Config.blockAngle then .correct else .misfire

/-- R102, R103, R104: what a result does. A misfire hands its cause while the count is at or above MISFIRE_LIMIT, also at
the count 255, which does not increase (R103). -/
def applyResult (r : ValveReport) (s : State) : OutcomeResult → State
  | .correct =>
    let e := s.exchangeRec r.branch
    s.setExchangeRec r.branch { e with
      misfireRun := 0, counters := { e.counters with correct := bump e.counters.correct } }
  | .misfire =>
    let e := s.exchangeRec r.branch
    let s' := s.setExchangeRec r.branch { e with
      misfireRun := bump255 e.misfireRun, counters := { e.counters with misfire := bump e.counters.misfire } }
    if s.params.misfireLimit ≤ bump255 e.misfireRun then latchTrip (.misfire r.branch) s' else s'
  | .valve fault =>
    latchTrip (.valve ⟨r.branch, r.h, r.polarity, fault⟩)
      (s.countExchange r.branch fun c => { c with valve := bump c.valve })

/-- R100: the report sets its branch's readiness, and a change of valve ready is handed over. -/
def setReadiness (b : Branch) (v : Bool) (s : State) : State :=
  checkReady s.allReady (s.setExchangeRec b { s.exchangeRec b with ready := v })

/-- The entry a report matches (R101). -/
def Outstanding.matches (r : ValveReport) (e : Outstanding) : Bool :=
  decide (e.h = r.h) && decide (e.polarity = r.polarity)

/-- R101: the matched entry is removed and evaluated, or the report is a stray. -/
def matchReport (r : ValveReport) (s : State) : State :=
  let e := s.exchangeRec r.branch
  match e.outstanding.find? (Outstanding.matches r) with
  | none => s.countExchange r.branch fun c => { c with stray := bump c.stray }
  | some m =>
    let s' := s.setExchangeRec r.branch { e with
      outstanding := e.outstanding.eraseP (Outstanding.matches r)
      timeoutRun := 0
      counters := { e.counters with matched := bump e.counters.matched } }
    applyResult r s' (evaluate r m.angle s.params.angleTolerance)

/-- R99: a valve report is discarded in QUIESCENT, or handled whole: readiness, with the notice it raises and
the commit that a drop answers, before matching and evaluation. -/
def takeReport (r : ValveReport) (s : State) : State :=
  if s.control.mode = .quiescent then s
  else matchReport r (moment (setReadiness r.branch r.ready s))

/-! ## QUIESCENT and resets (5.7) -/

/-- A frame is a bank order. -/
def VFrame.isBank : VFrame → Bool
  | .bank _ _ => true
  | .order _ => false

/-- An order in transmission is disowned; a bank order is not (R107). -/
def VTransmission.disown (t : VTransmission) : VTransmission :=
  match t.frame with
  | .order _ => { t with disowned := true }
  | .bank _ _ => t

/-- R107: what entering QUIESCENT does in the Order Exchange. -/
def exchangeQuiescent (s : State) : State :=
  checkReady s.allReady (s.setExchange { s.exchange with
    queue := s.exchange.queue.filter VFrame.isBank
    transmitter := s.exchange.transmitter.map VTransmission.disown
    branches := .ofFn fun b => { s.exchange.branches.get b with outstanding := [], ready := false } })

/-- R97, R103: each branch's consecutive-timeout count and misfire count become 0. -/
def zeroRuns (s : State) : State :=
  s.setExchange { s.exchange with
    branches := .ofFn fun b => { s.exchange.branches.get b with timeoutRun := 0, misfireRun := 0 } }

/-- R107: the orders in the send queue are discarded; bank orders stay. -/
def discardOrders (s : State) : State :=
  s.setExchange { s.exchange with queue := s.exchange.queue.filter VFrame.isBank }

/-- Firing is released and an order with a real angle waits, so that it can be seen whether the rewrite of R92 or the
discard of R107 reaches the queue first. -/
def State.discardContended (s : State) : Bool :=
  decide (s.control.release = .released) && s.exchange.queue.any VFrame.carriesAngle

/-- R133: entry into QUIESCENT. The release drop and the discard of the orders both reach the send queue, and either
may be taken first (R107). -/
def enterQuiescent (s : State) : State :=
  let s1 := changeMode .quiescent none s
  let s2 := s1.setControl { s1.control with resume := none }
  let d := s2.ordered s2.discardContended [evalBase, discardOrders]
  exchangeQuiescent (d.1.foldl (fun t f => f t) d.2)

end Sys2Proof.Machine
end

