-- ==== Sys2Proof/Machine/AuxInputs.lean ====
section
/-! DEFINITION. The aux inputs and the blanking pulse (7.5). -/

namespace Sys2Proof.Machine

/-! ## The blanking pulse (R154) -/

/-- A pulse becomes ACTIVE, a block cause, with the recorded width (R154, R145). -/
def activateBlanking (width : Nat) (s : State) : State :=
  evalBase (s.setControl { s.control with blanking := ⟨.active, width, width⟩ })

/-- An ACTIVE pulse ends (R154, R145). -/
def endBlanking (s : State) : State :=
  evalBase (s.setControl { s.control with blanking := ⟨.idle, 0, 0⟩ })

/-- R154: a BLANK active edge of a record. -/
def startBlanking (delay width : Nat) (s : State) : State :=
  match s.control.blanking.state with
  | .idle =>
    let s' := s.countControl fun c => { c with blankingPulses := bump c.blankingPulses }
    if delay = 0 then activateBlanking width s'
    else s'.setControl { s'.control with blanking := ⟨.pending, delay, width⟩ }
  | .pending | .active => s.countControl fun c => { c with ignoredEdges := bump c.ignoredEdges }

/-- R154: the blanking pulse at a local tick. -/
def tickBlanking (s : State) : State :=
  let p := s.control.blanking
  match p.state with
  | .idle => s
  | .pending =>
    if p.count ≤ 1 then activateBlanking p.width s
    else s.setControl { s.control with blanking := { p with count := p.count - 1 } }
  | .active =>
    if p.count ≤ 1 then endBlanking s
    else s.setControl { s.control with blanking := { p with count := p.count - 1 } }

/-- R137: the dip monitor's count at a local tick. -/
def tickDip (s : State) : State :=
  match s.control.dipState with
  | .timing =>
    if s.control.dipCount ≤ 1 then dipInterruption s
    else s.setControl { s.control with dipCount := s.control.dipCount - 1 }
  | .unarmed | .watching | .spent => s

/-! ## Debounce and edges (R152, R153) -/

/-- R153: the WAKE action at an active edge. -/
def wakeAction (s : State) : State :=
  if s.control.mode = .quiescent then changeMode .waking (some (s.permitted s.params.wakeTarget)) s else s

/-- Run an action of a record if it has it. -/
def actIf (has : Bool) (f : State → State) (s : State) : State := if has then f s else s

/-- R153: the BLOCK action at an active edge: an EDGE record's latch is set; the block cause is evaluated (R145). -/
def blockAction (n : Index4) (s : State) : State :=
  let r := s.control.aux.get n
  evalBase (if r.kind = .edge then s.setAux n { r with blockLatch := true } else s)

/-- R153: an active edge of a record, its debounced state already written. -/
def activeEdge (n : Index4) (s : State) : State :=
  let r := s.control.aux.get n
  let a := r.actions
  let s0 := s.countControl fun c => { c with activeEdges := c.activeEdges.set n (bump (c.activeEdges.get n)) }
  actIf a.notice (raise .aux)
    (actIf a.capture (trigger (.aux n))
      (actIf a.blank (startBlanking r.blankDelay r.blankWidth)
        (actIf a.block (blockAction n)
          (actIf a.wake wakeAction s0))))

/-- R153: an inactive edge of a record, its debounced state already written. -/
def inactiveEdge (n : Index4) (s : State) : State :=
  let r := s.control.aux.get n
  actIf (r.actions.notice && decide (r.kind = .level)) (raise .aux) (actIf r.actions.block evalBase s)

/-- R152: the flag value as the record reads it. -/
def AuxRec.reads (r : AuxRec) (flag : Bool) : Bool :=
  match r.polarity with
  | .activeHigh => flag
  | .activeLow => !flag

/-- R152: the hand-over makes the record's debounced state change. -/
def AuxRec.turns (r : AuxRec) (flag : Bool) : Bool :=
  decide (r.reads flag ≠ r.active) && decide (r.debounce < r.pendingCount + 1)

/-- R152: one record at a hand-over of its flag. -/
def debounceAux (flags : Four Bool) (s : State) (n : Index4) : State :=
  let r := s.control.aux.get n
  let v := r.reads (flags.get n)
  if v = r.active then s.setAux n { r with pendingCount := 0 }
  else if r.debounce < r.pendingCount + 1 then
    let s' := s.setAux n { r with active := v, pendingCount := 0 }
    if v then activeEdge n s' else inactiveEdge n s'
  else s.setAux n { r with pendingCount := r.pendingCount + 1 }

/-- Some record's debounced state changes at the hand-over. -/
def State.auxTurns (s : State) (flags : Four Bool) : Bool :=
  Index4.all.any fun n => (s.control.aux.get n).turns (flags.get n)

/-- The debounced states of at least two records change at the hand-over (log 31). -/
def State.auxContended (s : State) (flags : Four Bool) : Bool :=
  let turns := fun n => (s.control.aux.get n).turns (flags.get n)
  twoOf (turns .i0) (turns .i1) (turns .i2) (turns .i3)

/-- R20, R152: a hand-over of the four aux flags; each record is debounced separately, in a free order where two of
them act. -/
def handAux (flags : Four Bool) (s : State) : State :=
  s.inTurn (s.auxContended flags) (Index4.all.map fun n t => debounceAux flags t n)

end Sys2Proof.Machine
end

