-- ==== Sys2Proof/Machine/Demand.lean ====
section
/-! DEFINITION. The Demand Unit (section 3): formation, load estimate, trim, limit, carry, angle, gaps, hand-off. -/

namespace Sys2Proof.Machine

/-! ## Branch quantities (Table 3-2) -/

/-- The two logical currents of i1. -/
def Branch.currents : Branch → Quantity × Quantity
  | .ab => (.ia, .ib)
  | .bc => (.ib, .ic)
  | .ca => (.ic, .ia)

/-- The two logical currents of i2. -/
def Branch.currents2 : Branch → Quantity × Quantity
  | .ab => (.ia2, .ib2)
  | .bc => (.ib2, .ic2)
  | .ca => (.ic2, .ia2)

/-- The branch voltage. -/
def Branch.voltage : Branch → Quantity
  | .ab => .vab
  | .bc => .vbc
  | .ca => .vca

/-- R47: an entry of a current difference. -/
def WindowEntry.sub (a b : WindowEntry) : WindowEntry :=
  ⟨match a.value, b.value with
    | some x, some y => some (x - y)
    | _, _ => none, a.held || b.held⟩

/-- The entries of a logical quantity's window, newest first. -/
def State.entries (s : State) (q : Quantity) : List WindowEntry := (s.asm.windows.get q).entries

/-- R47: the newest 32 entries of a current difference. -/
def State.difference (s : State) (q : Quantity × Quantity) : List WindowEntry :=
  List.zipWith WindowEntry.sub ((s.entries q.1).take 32) ((s.entries q.2).take 32)

/-- The voltage entries of age 16 to 47 (R48, R51). -/
def State.delayedVoltage (s : State) (b : Branch) : List WindowEntry :=
  ((s.entries b.voltage).drop 16).take 32

/-- The number of invalid entries (R48). -/
def invalidCount (l : List WindowEntry) : Nat := l.countP fun e => e.value.isNone

/-! ## Formation (3.2) and load estimate (3.3) -/

/-- R48, R49: the newest 32 entries of both logical currents pass HALF_INVALID_LIMIT. -/
def State.currentsPass (s : State) (q : Quantity × Quantity) : Bool :=
  decide (invalidCount ((s.entries q.1).take 32) ≤ s.params.halfInvalidLimit) &&
    decide (invalidCount ((s.entries q.2).take 32) ≤ s.params.halfInvalidLimit)

/-- R48: demand is formed. -/
def State.demandForms (s : State) (b : Branch) : Bool :=
  s.currentsPass b.currents && decide (invalidCount (s.delayedVoltage b) ≤ s.params.halfInvalidLimit)

/-- R49: the second-load term takes part in a formed demand. -/
def State.load2Takes (s : State) (b : Branch) : Bool := s.secondLoadMapped && s.currentsPass b.currents2

/-- One term of a correlation sum (R51). -/
def correlationTerm (i v : WindowEntry) : Int :=
  match i.value, v.value with
  | some x, some y => x * y
  | _, _ => 0

/-- R51: a correlation sum. -/
def correlate (i v : List WindowEntry) : Int := (List.zipWith correlationTerm i v).foldl (· + ·) 0

/-- R52: the load estimate L_b of a formed demand. -/
def State.loadEstimate (s : State) (b : Branch) : Int :=
  let q1 := correlate (s.difference b.currents) (s.delayedVoltage b)
  let q2 := if s.load2Takes b then correlate (s.difference b.currents2) (s.delayedVoltage b) else 0
  clip (floorDiv (q1 * s.params.loadGain.get b + q2 * s.params.load2Gain.get b) (2 ^ 24)) (-32767) 32767

/-- R50: a held entry is read by the correlation. -/
def State.substituted (s : State) (b : Branch) : Bool :=
  (s.difference b.currents).any WindowEntry.held || (s.delayedVoltage b).any WindowEntry.held ||
    (s.load2Takes b && (s.difference b.currents2).any WindowEntry.held)

/-! ## Trim, limit, carry, clamp (3.4 to 3.6) -/

/-- R53: the trim after a POS event with magnitude updated. -/
def trimUpdate (t : Int) (magnitude vRef gain : Nat) : Int :=
  clip (t + floorDiv (((magnitude : Int) - vRef) * gain) 4096) (-512) 512

/-- The limit of Table 3-3 applied to a raw demand. -/
inductive LimitCase where
  | high | low | within
  deriving DecidableEq, Repr

/-- Table 3-3: which case a raw demand falls under. -/
def limitCase (r : Int) : LimitCase := if 4095 < r then .high else if r < 0 then .low else .within

/-- Table 3-3: the demand D. -/
def limitedDemand (r : Int) : Nat := (clip r 0 4095).toNat

/-- Table 3-3: the new carry. -/
def newCarry (r : Int) (limit : Nat) : Int :=
  match limitCase r with
  | .high => min (r - 4095) limit
  | .low => max r (-(limit : Int))
  | .within => 0

/-- R57: the clamp counter after a formed demand with release RELEASED. -/
def newClamp (c : Int) : LimitCase → Int
  | .high => if c < 127 then c + 1 else c
  | .low => if -128 < c then c - 1 else c
  | .within => if 0 < c then c - 1 else if c < 0 then c + 1 else 0

/-- The demand counters after a formed demand (R49, R55). -/
def DemandCounters.countFormed (c : DemandCounters) (k : LimitCase) (omitted : Bool) : DemandCounters :=
  { c with
    formed := bump c.formed
    clampHigh := if k = .high then bump c.clampHigh else c.clampHigh
    clampLow := if k = .low then bump c.clampLow else c.clampLow
    load2Omitted := if omitted then bump c.load2Omitted else c.load2Omitted }

/-! ## Angle (3.8) -/

/-- R60: the firing angle of a demand, from the ACTIVE bank and the branch's offset. -/
def firingAngle (bank : List Nat) (offset : Int) (d : Nat) : Nat :=
  let a := bank.getD (d / 8) Config.blockAngle
  if a = Config.blockAngle then Config.blockAngle else (clip (a + offset) 4096 8191).toNat

/-- R60, R62: the angle that the ACTIVE bank gives a half-cycle with demand d or none, whatever the release state. -/
def State.tableAngle (s : State) (b : Branch) (d : Option Nat) : Nat :=
  match d with
  | none => Config.blockAngle
  | some d => firingAngle s.tables.active (s.params.angleOffset.get b) d

/-- R61: the order angle of a half-cycle with demand d or none. -/
def State.orderAngle (s : State) (b : Branch) (d : Option Nat) : Nat :=
  if s.control.release = .released then s.tableAngle b d else Config.blockAngle

/-! ## The event (3.1) -/

/-- What stages 2 and 3 of R46 find: the branch record after them, and what the order and the record carry. -/
structure DemandResult where
  record : DemandRec
  demand : Option Nat
  raw : Option Int
  load : Option Int
  flags : DemandFlags
  deriving DecidableEq, Repr

/-- R54: the raw demand of a formed demand, the trim already updated. -/
def State.rawDemand (s : State) (b : Branch) : Int :=
  (s.bBank : Int) - s.loadEstimate b + s.params.bias.get b + (s.demand.get b).trim + (s.demand.get b).carry

/-- R46, stage 3, with demand formed (R50 to R57, R63). -/
def State.formDemand (s : State) (b : Branch) : DemandResult :=
  let r := s.demand.get b
  let raw := s.rawDemand b
  let k := limitCase raw
  let d := limitedDemand raw
  let omitted := s.secondLoadMapped && !s.load2Takes b
  let released := decide (s.control.release = .released)
  { record := { r with
      carry := if released && decide (s.params.limitMode = .carry) then newCarry raw s.params.carryLimit else r.carry
      clamp := if released then newClamp r.clamp k else r.clamp
      lastD := some d
      counters := r.counters.countFormed k omitted }
    demand := some d
    raw := some raw
    load := some (s.loadEstimate b)
    flags := {
      clampHigh := decide (k = .high)
      clampLow := decide (k = .low)
      carried := decide (r.carry ≠ 0)
      substituted := s.substituted b
      load2Omitted := omitted } }

/-- R62: a half-cycle without demand. -/
def State.passDemand (s : State) (b : Branch) : DemandResult :=
  let r := s.demand.get b
  let d := match s.params.gapPolicy with
    | .repeatLast => r.lastD
    | .block => none
  { record := { r with counters := { r.counters with notFormed := bump r.counters.notFormed } }
    demand := d
    raw := none
    load := none
    flags := { notFormed := true, repeated := d.isSome } }

/-- R46, stages 2 and 3. -/
def State.demandResult (s : State) (b : Branch) : DemandResult :=
  if s.demandForms b then s.formDemand b else s.passDemand b

/-- R46, stage 1 (R53). -/
def updateTrim (ev : CrossingEvent) (s : State) : State :=
  if ev.polarity = .pos ∧ ev.magnitudeUpdated = true then
    let r := s.demand.get ev.branch
    s.setDemandRec ev.branch { r with
      trim := trimUpdate r.trim (s.trackers.get ev.branch).magnitude s.params.vRef s.params.trimGain }
  else s

/-- R66: the order of an event. -/
def eventOrder (ev : CrossingEvent) (angle : Nat) (flags : DemandFlags) : Order :=
  ⟨ev.branch, ev.polarity, ev.h, ev.crossingTag, angle, flags⟩

/-- R67: the capture record of an event. Its angle is the one looked up, in every release state (R61, R82; log 33). -/
def eventRecord (ev : CrossingEvent) (x : DemandResult) (angle : Nat) (release : ReleaseState) : CaptureRecord where
  branch := ev.branch
  polarity := ev.polarity
  h := ev.h
  crossingTag := ev.crossingTag
  demand := x.demand
  raw := x.raw.map fun r => clip r (-32767) 32767
  load := x.load
  trim := x.record.trim
  carry := x.record.carry
  flags := x.flags
  angle := angle
  release := release

/-- R46, stages 2 to 6, the trim already updated. The unit takes the event whole: a GAP trip cause of stage 5 is
handed when the order and the record have been handed on (R93; log 16). -/
def actOnEvent (ev : CrossingEvent) (s : State) : State :=
  let x := s.demandResult ev.branch
  let trips := x.flags.notFormed && s.gapTripDue ev.branch
  let s1 := s.setDemandRec ev.branch x.record
  let s2 := if x.flags.notFormed then countGap ev.branch s1 else s1
  let record := eventRecord ev x (s.tableAngle ev.branch x.demand) s.control.release
  let s3 := handOrder (eventOrder ev (s.orderAngle ev.branch x.demand) x.flags) (offerRecord record s2)
  if trips then latchTrip (.gap ev.branch) s3 else s3

/-- R46: the Demand Unit at a crossing event; in QUIESCENT the event is passed over. -/
def demandEvent (ev : CrossingEvent) (s : State) : State :=
  if s.control.mode = .quiescent then s else actOnEvent ev (updateTrim ev s)

/-- R81: the Table Store at a crossing event. -/
def tableEvent (ev : CrossingEvent) (s : State) : State :=
  match ev.branch, ev.polarity with
  | .ab, .pos => completeCommit (.abCrossing ev.h) (fun c => { c with crossing := bump c.crossing }) s
  | _, _ => s

end Sys2Proof.Machine
end

