-- ==== Sys2Proof/Machine/Tracking.lean ====
section
/-! DEFINITION. The Phase Trackers (section 2), and the work of the other blocks at a crossing event and at a
released set. -/

namespace Sys2Proof.Machine

/-! ## Detection (2.1) -/

/-- A detection: its polarity and its fraction within the released set (R29, R30). -/
structure Detection where
  polarity : Polarity
  fraction : Nat
  deriving DecidableEq, Repr

/-- R30: the fraction interpolated from the entry before the firing one. -/
def detectionFraction (prev : Option Int) (cur : Int) : Nat :=
  match prev with
  | none => 0
  | some p =>
    if p.natAbs + cur.natAbs = 0 then 0 else min (256 * p.natAbs / (p.natAbs + cur.natAbs)) 255

/-- R29: the newest entry of the branch voltage fires, then arms. -/
def detect (hyst : Nat) (entries : List WindowEntry) (t : Tracker) : Option Detection × Tracker :=
  match (entries.getD 0 ⟨none, false⟩).value with
  | none => (none, t)
  | some v =>
    let fraction := detectionFraction (entries.getD 1 ⟨none, false⟩).value v
    let rises := t.risingArmed && decide (0 ≤ v)
    let falls := t.fallingArmed && decide (v < 0)
    let found : Option Detection :=
      if rises then some ⟨.pos, fraction⟩ else if falls then some ⟨.neg, fraction⟩ else none
    (found, { t with
      risingArmed := decide (v ≤ -(hyst : Int)) || (t.risingArmed && !rises)
      fallingArmed := decide ((hyst : Int) ≤ v) || (t.fallingArmed && !falls) })

/-! ## Time (R28) -/

/-- The time from a crossing to a later point, in sub-set units. -/
def Crossing.elapsed (c : Crossing) (tag : Tag) (fraction : Nat) : Int :=
  256 * (tagDistance c.tag tag : Int) + fraction - c.fraction

/-- The point a duration after a crossing: a synthesized crossing (R37). -/
def Crossing.after (c : Crossing) (x : Nat) : Crossing :=
  ⟨c.tag + BitVec.ofNat 12 ((c.fraction + x) / 256), (c.fraction + x) % 256, false⟩

/-- The opposite polarity. -/
def Polarity.opposite : Polarity → Polarity
  | .pos => .neg
  | .neg => .pos

/-! ## Events (2.3) -/

/-- R42: the mean of |v| over the valid entries, when at least 48 of them are valid. -/
def meanMagnitude (entries : List WindowEntry) : Option Nat :=
  let valid := entries.filterMap WindowEntry.value
  if 48 ≤ valid.length then some ((valid.foldl (fun a v => a + v.natAbs) 0) / valid.length) else none

/-- R40, R42: the tracker emits a crossing event. -/
def emitEvent (b : Branch) (p : Polarity) (tag : Tag) (synthesized : Bool) (entries : List WindowEntry)
    (t : Tracker) : Tracker × CrossingEvent :=
  let m := if p = .pos then meanMagnitude entries else none
  ({ t with h := t.h + 1, lastEventTag := some tag, magnitude := m.getD t.magnitude },
    ⟨b, p, t.h + 1, tag, synthesized, m.isSome⟩)

/-! ## Lock states (2.2) -/

/-- R39: what entering UNLOCKED does to a tracker. -/
def Tracker.unlock (t : Tracker) : Tracker :=
  { t with
    state := .unlocked
    magnitude := 0
    history := []
    holdoverCount := 0
    risingArmed := false
    fallingArmed := false
    expectedPolarity := none
    lastCrossing := none }

/-- The mean of a period history, rounded down (R34, R36). -/
def meanHistory (l : List Nat) : Nat := l.foldl (· + ·) 0 / l.length

/-- A half-period in range (R34). -/
def goodHalfPeriod (x : Int) : Bool := decide (7424 ≤ x) && decide (x ≤ 8960)

/-- The tracker with a real crossing as its last crossing and the expected polarity reversed (R33, R34, R36). -/
def Tracker.takeCrossing (t : Tracker) (d : Detection) (tag : Tag) : Tracker :=
  { t with lastCrossing := some ⟨tag, d.fraction, true⟩, expectedPolarity := some d.polarity.opposite }

/-- R32, R36, R38: a refused detection counts spurious. -/
def Tracker.refuse (t : Tracker) : Tracker := { t with spurious := bump t.spurious }

/-- The period history with one half-period more, at most four long (R36). -/
def pushHistory (l : List Nat) (x : Nat) : List Nat := (l ++ [x]).drop (l.length + 1 - 4)

/-- R36: H after an accepted detection, measured from the last crossing. -/
def Tracker.measure (t : Tracker) (last : Crossing) (elapsed : Int) : Tracker :=
  if last.real then
    let history := pushHistory t.history elapsed.toNat
    { t with history := history, halfPeriod := (clip (meanHistory history) 7424 8960).toNat }
  else t

/-- R34: a detection in CAPTURING that passes the screen. -/
def captureCrossing (b : Branch) (entries : List WindowEntry) (tag : Tag) (d : Detection) (t : Tracker) :
    Tracker × Option CrossingEvent :=
  let good := match t.lastCrossing with
    | none => none
    | some c =>
      let x := c.elapsed tag d.fraction
      if goodHalfPeriod x then some x.toNat else none
  match good with
  | none => ({ t.takeCrossing d tag with history := [] }, none)
  | some x =>
    let history := t.history ++ [x]
    let t' := { t.takeCrossing d tag with history := history }
    if 4 ≤ history.length then
      let r := emitEvent b d.polarity tag false entries
        { t' with state := .locked, halfPeriod := meanHistory history, holdoverCount := 0 }
      (r.1, some r.2)
    else (t', none)

/-- R36, R38: a detection in LOCKED or HOLDOVER that passes the screen. -/
def acceptCrossing (b : Branch) (entries : List WindowEntry) (tag : Tag) (d : Detection) (t : Tracker) :
    Tracker × Option CrossingEvent :=
  match t.lastCrossing with
  | none => (t.refuse, none)
  | some c =>
    let x := c.elapsed tag d.fraction
    if (t.halfPeriod : Int) - Config.acceptWindow ≤ x ∧ x ≤ t.halfPeriod + Config.acceptWindow then
      let r := emitEvent b d.polarity tag false entries
        { (t.measure c x).takeCrossing d tag with state := .locked, holdoverCount := 0 }
      (r.1, some r.2)
    else (t.refuse, none)

/-- R32 to R38: a detection is screened by polarity, then taken by the tracker's state. -/
def takeDetection (b : Branch) (entries : List WindowEntry) (tag : Tag) (d : Detection) (t : Tracker) :
    Tracker × Option CrossingEvent :=
  match t.state with
  | .unlocked => ({ t.takeCrossing d tag with state := .capturing, history := [] }, none)
  | .capturing =>
    if t.expectedPolarity = some d.polarity.opposite then (t.refuse, none) else captureCrossing b entries tag d t
  | .locked | .holdover =>
    if t.expectedPolarity = some d.polarity.opposite then (t.refuse, none) else acceptCrossing b entries tag d t

/-- R37, R38: a crossing is synthesized. -/
def synthesize (b : Branch) (entries : List WindowEntry) (c : Crossing) (t : Tracker) :
    Tracker × Option CrossingEvent :=
  let p := t.expectedPolarity.getD .pos
  let c' := c.after t.halfPeriod
  let r := emitEvent b p c'.tag true entries
    { t with
      state := .holdover
      holdoverCount := t.holdoverCount + 1
      lastCrossing := some c'
      expectedPolarity := some p.opposite }
  (r.1, some r.2)

/-- R35, R37, R38: the deadline stage at the end of the released set. -/
def deadlineStage (b : Branch) (entries : List WindowEntry) (tag : Tag) (t : Tracker) :
    Tracker × Option CrossingEvent :=
  match t.lastCrossing with
  | none => (t, none)
  | some c =>
    let x := c.elapsed tag 256
    match t.state with
    | .unlocked => (t, none)
    | .capturing => if 9472 < x then (t.unlock, none) else (t, none)
    | .locked =>
      if (t.halfPeriod : Int) + Config.acceptWindow < x then synthesize b entries c { t with holdoverCount := 0 }
      else (t, none)
    | .holdover =>
      if (t.halfPeriod : Int) + Config.acceptWindow < x then
        if t.holdoverCount ≤ 1 then synthesize b entries c t else (t.unlock, none)
      else (t, none)

/-- R32 to R38: what the tracker makes of the released set's detection, if there is one. -/
def detectionStage (b : Branch) (entries : List WindowEntry) (tag : Tag) (d : Option Detection) (t : Tracker) :
    Tracker × Option CrossingEvent :=
  match d with
  | none => (t, none)
  | some x => takeDetection b entries tag x t

/-- The deadline stage after a detection stage that emitted no event. After an event the last crossing is at most one
set old, and no deadline passes. -/
def thenDeadline (b : Branch) (entries : List WindowEntry) (tag : Tag) (r : Tracker × Option CrossingEvent) :
    Tracker × Option CrossingEvent :=
  match r.2 with
  | some ev => (r.1, some ev)
  | none => deadlineStage b entries tag r.1

/-- R27: one tracker's handling of one released set. -/
def trackerStep (b : Branch) (hyst : Nat) (entries : List WindowEntry) (tag : Tag) (t : Tracker) :
    Tracker × Option CrossingEvent :=
  let d := detect hyst entries t
  thenDeadline b entries tag (detectionStage b entries tag d.1 d.2)

/-! ## What the other blocks do at an event (R41) -/

/-- The order in which the receivers take an event matters (R46, R58, R60, R81, R96, R135, R147; log 8). -/
def State.eventContended (s : State) (ev : CrossingEvent) : Bool :=
  (decide (ev.branch = .ab) && decide (ev.polarity = .pos) && s.tables.commit.isSome) ||
    controlEventEnds ev s || agingTrips ev s

/-- R41: the event is offered to the Demand Unit, the Order Exchange, the Table Store and the Mode and Release
Controller, in a free order where the order matters. -/
def offerEvent (ev : CrossingEvent) (s : State) : State :=
  s.inTurn (s.eventContended ev) [demandEvent ev, ageOrders ev, tableEvent ev, controlEvent ev]

/-- R43, R134: a tracker has changed state: TRACKER is raised, and branch AB's entry into UNLOCKED clears the waking
count. -/
def trackerChanged (b : Branch) (s : State) : State :=
  let s' := raise .tracker s
  if b = .ab ∧ (s.trackers.get b).state = .unlocked then
    s'.setControl { s'.control with wakingCount := 0 }
  else s'

/-- What a tracker makes of a released set, as the state stands (R27). -/
def State.trackerResult (s : State) (tag : Tag) (b : Branch) : Tracker × Option CrossingEvent :=
  trackerStep b s.params.crossHyst (s.entries b.voltage) tag (s.trackers.get b)

/-- An event recomputed M_b (R42). -/
def magnitudeUpdated : Option CrossingEvent → Bool
  | none => false
  | some ev => ev.magnitudeUpdated

/-- R27, R43, R136, R41: a tracker acts on a released set; the supply is evaluated, with the notices that raises and
the commit that a drop answers, before the event is offered (R42; log 15). -/
def runTracker (tag : Tag) (b : Branch) (s : State) : State :=
  let old := (s.trackers.get b).state
  let r := s.trackerResult tag b
  let s1 := s.setTracker b r.1
  let changed := decide (r.1.state ≠ old)
  let s2 := if changed then trackerChanged b s1 else s1
  let s3 := if changed || magnitudeUpdated r.2 then evalSupply s2 else s2
  match r.2 with
  | none => s3
  | some ev => offerEvent ev (moment s3)

/-- The tracker changes state or emits an event at the released set. -/
def State.trackerActs (s : State) (tag : Tag) (b : Branch) : Bool :=
  let r := s.trackerResult tag b
  decide (r.1.state ≠ (s.trackers.get b).state) || r.2.isSome

/-- Two of the trackers and the deadline check have something to do at the released set (log 9). -/
def State.setContended (s : State) (tag : Tag) : Bool :=
  twoOf (s.trackerActs tag .ab) (s.trackerActs tag .bc) (s.trackerActs tag .ca)
    (s.exchange.queue.any fun f => f.overdue tag)

/-- R15, 5: the released-set event: the trackers (R27) and the deadline check (R91) act on it, in a free order where
two of them have something to do. -/
def releasedSet (tag : Tag) (s : State) : State :=
  s.inTurn (s.setContended tag) [runTracker tag .ab, runTracker tag .bc, runTracker tag .ca, deadlineCheck tag]

/-- R39, R43: a tracker is sent to UNLOCKED. -/
def unlockTracker (b : Branch) (s : State) : State :=
  let t := s.trackers.get b
  let s' := s.setTracker b t.unlock
  if t.state = .unlocked then s' else trackerChanged b s'

/-- R10, R22: all three trackers are sent to UNLOCKED, and the supply is evaluated again (R136). -/
def unlockTrackers (s : State) : State :=
  evalSupply (unlockTracker .ca (unlockTracker .bc (unlockTracker .ab s)))

end Sys2Proof.Machine
end

