-- ==== Sys2Proof/Machine/Assembly.lean ====
section
/-! DEFINITION. The Stream Assembler (section 1): placement, closure, completion, release, windows, silence. -/

namespace Sys2Proof.Machine

/-- Update the assembler's counters (R23). -/
def State.countAsm (s : State) (f : AssemblyCounters → AssemblyCounters) : State :=
  s.setAsm { s.asm with counters := f s.asm.counters }

/-- Update a source's counters (R23). -/
def State.countSource (s : State) (n : Index4) (f : SourceCounters → SourceCounters) : State :=
  let r := s.asm.sources.get n
  s.setSource n { r with counters := f r.counters }

/-! ## Windows (1.5) -/

/-- R17: a new entry becomes entry 0, and the entry that was 63 leaves. -/
def Window.push (w : Window) (e : WindowEntry) : List WindowEntry := (e :: w.entries).take Config.windowLength

/-- R18: one quantity's window at a release, with substitution under HOLD. -/
def pushEntry (sources : Four SourceRec) (m : Option ChannelRef) (v : Option Int) (w : Window) : Window :=
  let invalid := { w with entries := w.push ⟨none, false⟩ }
  match m with
  | none => invalid
  | some c =>
    let r := sources.get c.source
    match v, r.policy, w.lastValid with
    | some x, _, _ => ⟨w.push ⟨some x, false⟩, some x, 0⟩
    | none, .hold, some x =>
      if w.heldRun < r.holdLimit then { w with entries := w.push ⟨some x, true⟩, heldRun := w.heldRun + 1 }
      else invalid
    | none, .hold, none | none, .mark, _ => invalid

/-! ## Completion, closure, release (1.4) -/

/-- R12: every source that is ALIGNED is among the contributors. -/
def completes (sources : Four SourceRec) (contributors : Four Bool) : Bool :=
  Index4.all.all fun n => !decide ((sources.get n).alignment = .aligned) || contributors.get n

/-- R12: an OPEN set becomes COMPLETE when every ALIGNED source has contributed. -/
def completeSet (sources : Four SourceRec) (x : SampleSet) : SampleSet :=
  if x.state = .opened ∧ completes sources x.contributors = true then { x with state := .complete } else x

/-- R12: the completion test on every set of the queue. -/
def completeSets (s : State) : State :=
  s.setAsm { s.asm with queue := s.asm.queue.map (completeSet s.asm.sources) }

/-- R13: a set at least ASSEMBLY_DEPTH behind the placed tag becomes CLOSED, distances taken from the expected tag. -/
def closeSet (depth : Nat) (expected placed : Tag) (x : SampleSet) : SampleSet :=
  if tagDistance expected x.tag + depth ≤ tagDistance expected placed then { x with state := .closed } else x

/-- R13: the closure test on every set of the queue. -/
def closeSets (expected placed : Tag) (s : State) : State :=
  s.setAsm { s.asm with queue := s.asm.queue.map (closeSet s.params.assemblyDepth expected placed) }

/-- R16: miss accounting of one source at a release. -/
def accountMiss (contributors : Four Bool) (s : State) (n : Index4) : State :=
  let r := s.asm.sources.get n
  if r.alignment = .aligned then
    if contributors.get n then s.setSource n { r with missRun := 0 }
    else
      let r' := { r with
        missRun := bump255 r.missRun, counters := { r.counters with miss := bump r.counters.miss } }
      if r'.missLimit ≤ r'.missRun then raise .source (s.setSource n { r' with alignment := .lost })
      else s.setSource n r'
  else s

/-- R15, 3: the counters of a release. -/
def AssemblyCounters.countRelease (c : AssemblyCounters) (isVoid forced : Bool) : AssemblyCounters :=
  { c with
    released := bump c.released
    voids := if isVoid then bump c.voids else c.voids
    forced := if forced then bump c.forced else c.forced }

/-- R15, 1: one entry per quantity is pushed into its window; a void set has every quantity invalid. -/
def pushWindows (found : Option SampleSet) (s : State) : State :=
  let entry := fun q =>
    pushEntry s.asm.sources (s.asm.map.get q) (found.bind fun x => x.values.get q) (s.asm.windows.get q)
  s.setAsm { s.asm with windows := .ofFn entry }

/-- R16: miss accounting of every source at a release. -/
def accountMisses (contributors : Four Bool) (s : State) : State := Index4.all.foldl (accountMiss contributors) s

/-- The contributors of the set of a slot; a slot without a set has none (R15). -/
def contributorsOf : Option SampleSet → Four Bool
  | none => ⟨false, false, false, false⟩
  | some x => x.contributors

/-- R15, 3 and 4, R21: the slot at a tag is over: it is counted, its set leaves the queue, the tags advance, the silence
timer is loaded. -/
def closeSlot (e : Tag) (isVoid forced : Bool) (s : State) : State :=
  s.setAsm { s.asm with
    lastReleased := some e
    expected := some (e + 1)
    queue := s.asm.queue.filter fun x => !decide (x.tag = e)
    counters := s.asm.counters.countRelease isVoid forced
    silence := if s.params.silenceLimit = 0 then none else some s.params.silenceLimit }

/-- The set of the queue with a tag. -/
def setAt (e : Tag) (queue : List SampleSet) : Option SampleSet := queue.find? fun x => decide (x.tag = e)

/-- R15: the slot at the expected tag is released, whatever its set; a slot without a set gives a void set. The notices
of step 2 go before those of step 5, and those of this release before those of the next (R192). The completion test of
R12 follows. -/
def releaseSlot (forced : Bool) (s : State) : State :=
  match s.asm.expected with
  | none => s
  | some e =>
    let found := setAt e s.asm.queue
    moment (completeSets (releasedSet e (closeSlot e found.isNone forced
      (momentAfter [.source] (accountMisses (contributorsOf found) (pushWindows found s))))))

/-- The distance of the newest set of the queue; none for an empty queue (R8). -/
def newestDistance (expected : Tag) : List SampleSet → Option Nat
  | [] => none
  | x :: rest =>
    match newestDistance expected rest with
    | none => some (tagDistance expected x.tag)
    | some d => some (max d (tagDistance expected x.tag))

/-- R14: the release check releases the oldest slot. -/
def State.releaseDue (s : State) : Bool :=
  match s.asm.expected with
  | none => false
  | some e =>
    match setAt e s.asm.queue with
    | some x => decide (x.state ≠ .opened)
    | none =>
      match newestDistance e s.asm.queue with
      | none => false
      | some d => decide (s.params.assemblyDepth ≤ d)

/-- R14: the release check and the chain of releases it brings about, at most as many as given. -/
def releaseChain : Nat → State → State
  | 0, s => s
  | n + 1, s => if s.releaseDue then releaseChain n (releaseSlot false s) else s

/-- R14: the release check; the chain ends when the queue is empty, after at most one release for each slot up to
the newest set. -/
def releaseCheck (s : State) : State :=
  match s.asm.expected with
  | none => s
  | some e =>
    match newestDistance e s.asm.queue with
    | none => s
    | some d => releaseChain (d + 1) s

/-! ## Arrival (1.3) -/

/-- R7: channel value c of a frame, invalid beyond the channel count or at the invalid code. -/
def channelValue (channels : List Half) (c : Nat) : Option Int :=
  match channels[c]? with
  | none => none
  | some w => if w = 0x8000 then none else some w.toInt

/-- R7: the values of a set after a frame of a source is placed. -/
def placeValues (map : PerQuantity (Option ChannelRef)) (n : Index4) (channels : List Half)
    (old : PerQuantity (Option Int)) : PerQuantity (Option Int) :=
  .ofFn fun q =>
    match map.get q with
    | none => old.get q
    | some c => if c.source = n then channelValue channels c.channel else old.get q

/-- R7: a new set. -/
def SampleSet.new (tag : Tag) : SampleSet :=
  ⟨tag, ⟨false, false, false, false⟩, .ofFn fun _ => none, .opened⟩

/-- R8: the queue with a set put in tag order from the expected tag. -/
def insertSet (expected : Tag) (x : SampleSet) : List SampleSet → List SampleSet
  | [] => [x]
  | y :: rest =>
    if tagDistance expected x.tag < tagDistance expected y.tag then x :: y :: rest
    else y :: insertSet expected x rest

/-- R7: the queue has a set with the tag. -/
def hasSet (tag : Tag) (queue : List SampleSet) : Bool := queue.any fun x => decide (x.tag = tag)

/-- R7: the queue with a set for the tag, created where there is none. -/
def withSet (expected tag : Tag) (queue : List SampleSet) : List SampleSet :=
  if hasSet tag queue then queue else insertSet expected (.new tag) queue

/-- R7: the frame's source already contributed to the set of the frame's tag. -/
def isDuplicate (tag : Tag) (n : Index4) (queue : List SampleSet) : Bool :=
  queue.any fun x => decide (x.tag = tag) && x.contributors.get n

/-- R7: a frame is placed in its set, its source aligned and counted. -/
def placeFrame (expected tag : Tag) (n : Index4) (channels : List Half) (s : State) : State :=
  let r := s.asm.sources.get n
  let r' := { r with counters := { r.counters with accepted := bump r.counters.accepted } }
  let aligned := match r.alignment with
    | .seeking | .lost => { r' with alignment := .aligned, missRun := 0 }
    | .aligned | .disabled => r'
  let put := fun (x : SampleSet) =>
    if x.tag = tag then
      { x with
        contributors := x.contributors.set n true
        values := placeValues s.asm.map n channels x.values }
    else x
  (s.setAsm { s.asm with queue := (withSet expected tag s.asm.queue).map put }).setSource n aligned

/-- The aux flags of a status byte (Table 11-2). -/
def auxFlags (status : Byte) : Four Bool := ⟨status.getLsbD 0, status.getLsbD 1, status.getLsbD 2, status.getLsbD 3⟩

/-- R7, R20: a frame at distance 0 to 7: a duplicate, or placed, followed by closure (R13), completion (R12) and the
release check (R14), and for the status source by the hand-over of its aux flags. Which of the release check and the
hand-over comes first is free when both act (log 10). -/
def acceptFrame (expected tag : Tag) (n : Index4) (f : SampleFrame) (s : State) : State :=
  if isDuplicate tag n s.asm.queue then s.countSource n fun c => { c with duplicate := bump c.duplicate }
  else
    let s1 := completeSets (closeSets expected tag (placeFrame expected tag n f.channels s))
    if s1.params.statusSource = n then
      let flags := auxFlags f.status
      s1.inTurn (s1.releaseDue && s1.auxTurns flags) [releaseCheck, handAux flags]
    else releaseCheck s1

/-- R9: n forced releases; no release check is made between them (log 14). -/
def forceReleases : Nat → State → State
  | 0, s => s
  | n + 1, s => forceReleases n (releaseSlot true s)

/-- R2: an enabled source goes to SEEKING with consecutive-miss count 0. -/
def SourceRec.seek (r : SourceRec) : SourceRec :=
  match r.alignment with
  | .disabled => r
  | .seeking | .aligned | .lost => { r with alignment := .seeking, missRun := 0 }

/-- R2: every enabled source goes to SEEKING. -/
def seekAll (s : State) : State := s.setAsm { s.asm with sources := .ofFn fun n => (s.asm.sources.get n).seek }

/-- R10, steps 1 to 5: a discontinuity caused by a source. Its notices go before those of the frame's placement. -/
def discontinuity (tag : Tag) (n : Index4) (s : State) : State :=
  let s1 := seekAll (s.setAsm { s.asm with queue := [], expected := some tag })
  let s2 := s1.setSource n { s1.asm.sources.get n with alignment := .aligned, missRun := 0 }
  moment (raise .tracker ((moment (unlockTrackers s2)).countAsm fun c =>
    { c with discontinuity := bump c.discontinuity }))

/-- R6: a frame that passed the checks of R5 is handled by its tag distance. -/
def handleFrame (expected tag : Tag) (n : Index4) (f : SampleFrame) (s : State) : State :=
  let d := tagDistance expected tag
  if d ≤ 7 then acceptFrame expected tag n f s
  else if d ≤ 63 then
    acceptFrame (expected + BitVec.ofNat 12 (d - 7)) tag n f (forceReleases (d - 7) s)
  else if d ≤ 2047 then acceptFrame tag tag n f (discontinuity tag n s)
  else s.countSource n fun c => { c with late := bump c.late }

/-- A source, bank or aux number 0 to 3 from its byte. -/
def index4? (b : Byte) : Option Index4 :=
  match b.toNat with
  | 0 => some .i0
  | 1 => some .i1
  | 2 => some .i2
  | 3 => some .i3
  | _ => none

/-- R5: the checks of a sample frame, in order. -/
def takeSample (f : SampleFrame) (s : State) : State :=
  match index4? f.source with
  | none => s.countM PortCounters.badFormat
  | some n =>
    if f.channels.length = 0 ∨ 8 < f.channels.length ∨ 4095 < f.tag.toNat then s.countM PortCounters.badFormat
    else if (s.asm.sources.get n).alignment = .disabled then
      s.countM fun c => { c with unsolicited := bump c.unsolicited }
    else if f.status.getLsbD 7 then s.countSource n fun c => { c with testDiscarded := bump c.testDiscarded }
    else
      let tag : Tag := f.tag.setWidth 12
      match s.asm.expected with
      | none => handleFrame tag tag n f (s.setAsm { s.asm with expected := some tag })
      | some e => handleFrame e tag n f s

/-! ## Silence (1.7) -/

/-- R19: every window is cleared. -/
def clearWindows (s : State) : State := s.setAsm { s.asm with windows := .ofFn fun _ => .cleared }

/-- R22: the silence timer expires. The notices of step 5 go before those of steps 6 and 7. -/
def expireSilence (s : State) : State :=
  let s1 := seekAll (s.setAsm { s.asm with queue := [], expected := none, silence := none })
  let s2 := streamInterruption (moment (unlockTrackers (clearWindows s1)))
  (raise .stream s2).countAsm fun c => { c with streamLoss := bump c.streamLoss }

/-- R21: a local sample period ends. -/
def endSamplePeriod (s : State) : State :=
  match s.asm.silence with
  | none => s
  | some k => if k ≤ 1 then expireSilence s else s.setAsm { s.asm with silence := some (k - 1) }

end Sys2Proof.Machine
end

