-- ==== Sys2Proof/Machine/Banks.lean ====
section
/-! DEFINITION. The Bank Controller (section 6): records, orders, status frames, timers and automatic switching. -/

namespace Sys2Proof.Machine

/-! ## Records -/

/-- The bank is in CLOSING or OPENING (R114). -/
def BankState.transitional : BankState → Bool
  | .closing | .opening => true
  | .absent | .out | .inService | .discharging | .faulted => false

/-- Some bank is in CLOSING or OPENING (R114). -/
def State.anyTransitional (s : State) : Bool :=
  Index4.all.any fun n => (s.bankRec n).state.transitional

/-- R112: a bank record is written; a change of its state raises BANK_CHANGE, an entry into FAULTED BANK_FAULT. -/
def writeBank (n : Index4) (r : BankRec) (s : State) : State :=
  let old := (s.bankRec n).state
  let s' := s.setBankRec n r
  if r.state = old then s'
  else if r.state = .faulted then raise .bankFault (raise .bankChange s')
  else raise .bankChange s'

/-- R124: the dwell timer is loaded with BANK_DWELL. -/
def loadDwell (s : State) : State := s.setBanks { s.banks with dwell := some s.params.bankDwell }

/-- Update a bank's counters (R128). -/
def BankRec.count (r : BankRec) (f : BankCounters → BankCounters) : BankRec := { r with counters := f r.counters }

/-- Update the controller's counters (R128). -/
def State.countBanks (s : State) (f : BankTotals → BankTotals) : State :=
  s.setBanks { s.banks with counters := f s.banks.counters }

/-- R112: the counted flag set at an entry into FAULTED, from the state before it. -/
def BankState.countsWhenFaulted : BankState → Bool
  | .inService | .opening => true
  | .absent | .out | .closing | .discharging | .faulted => false

/-- R119: entry into FAULTED, with the counter of its cause and, for a FAILED status, its code. -/
def faultBank (n : Index4) (code : Option Byte) (count : BankCounters → BankCounters) (s : State) : State :=
  let r := s.bankRec n
  loadDwell (writeBank n { r.count count with
    state := .faulted
    counted := r.state.countsWhenFaulted
    confirmTimer := none
    dischargeTimer := none
    faultCode := code.or r.faultCode } s)

/-- The count a discharge timer is loaded with (R123). -/
def State.dischargeTime (s : State) : Nat := s.params.bankDischarge * 8

/-- The record in IN, both timers stopped and not counted as faulted (R118, R120). -/
def BankRec.enterIn (r : BankRec) : BankRec :=
  { r with state := .inService, counted := false, confirmTimer := none, dischargeTimer := none }

/-- The record in DISCHARGING with its discharge timer loaded (R118, R120, R123). -/
def BankRec.enterDischarging (r : BankRec) (time : Nat) : BankRec :=
  { r with state := .discharging, counted := false, confirmTimer := none, dischargeTimer := some time }

/-! ## Bank orders (6.2) -/

/-- R115: an order is placed for a bank: its state changes, with BANK_CHANGE raised, and its confirmation timer is loaded
before the order is handed over. The timer runs whether or not a status comes, and faults the bank when none does
(R116, R122: tickConfirmation, expireConfirmation). -/
def placeBankOrder (n : Index4) (a : BankAction) (s : State) : State :=
  let r := s.bankRec n
  let state := match a with
    | .close => BankState.closing
    | .opening => BankState.opening
  handBankOrder n a (momentAfter [.bankChange]
    (writeBank n { r with state := state, confirmTimer := some s.params.bankConfirmTimeout } s))

/-! ## Bank status frames (6.3) -/

/-- R118: a confirmation. -/
def confirmBank (n : Index4) (r : BankRec) (s : State) : State :=
  zeroClamps (loadDwell (writeBank n r s))

/-- R120: a move without an order. -/
def moveBank (n : Index4) (r : BankRec) (s : State) : State :=
  loadDwell (writeBank n (r.count fun c => { c with unsolicited := bump c.unsolicited }) s)

/-- R120: a contrary status. -/
def contraryStatus (n : Index4) (s : State) : State :=
  s.setBankRec n ((s.bankRec n).count fun c => { c with contrary := bump c.contrary })

/-- R120: a status that agrees; a FAILED status for a FAULTED bank also writes its code. -/
def agreeingStatus (n : Index4) (code : Option Byte) (s : State) : State :=
  let r := s.bankRec n
  s.setBankRec n { r.count fun c => { c with agreeing := bump c.agreeing } with faultCode := code.or r.faultCode }

/-- R119: a FAILED status that faults the bank. -/
def failedStatus (n : Index4) (code : Byte) (s : State) : State :=
  faultBank n (some code) (fun c => { c with failed := bump c.failed }) s

/-- Table 6-3: a bank status frame is taken against the bank's state. -/
def takeBankStatus (n : Index4) (st : BankStatus) (code : Byte) (s : State) : State :=
  let r := s.bankRec n
  match r.state, st with
  | .absent, _ => s.countBanks fun c => { c with stray := bump c.stray }
  | .closing, .closed =>
    confirmBank n (r.enterIn.count fun c => { c with closeConfirmed := bump c.closeConfirmed }) s
  | .opening, .opened =>
    confirmBank n ((r.enterDischarging s.dischargeTime).count fun c =>
      { c with openConfirmed := bump c.openConfirmed }) s
  | .out, .closed | .discharging, .closed | .faulted, .closed => moveBank n r.enterIn s
  | .inService, .opened | .faulted, .opened => moveBank n (r.enterDischarging s.dischargeTime) s
  | .closing, .opened | .opening, .closed => contraryStatus n s
  | .inService, .closed | .out, .opened | .discharging, .opened => agreeingStatus n none s
  | .faulted, .failed => agreeingStatus n (some code) s
  | .out, .failed | .closing, .failed | .inService, .failed | .opening, .failed | .discharging, .failed =>
    failedStatus n code s

/-! ## Timers (6.4) -/

/-- R122: the confirmation timer of a transitional bank expires, no status having come for its order (R116). -/
def expireConfirmation (n : Index4) (s : State) : State :=
  faultBank n none (fun c => { c with timeout := bump c.timeout }) s

/-- R121, stage 1, for one bank: the confirmation timer that bounds the wait for a status (R116, R122). -/
def tickConfirmation (s : State) (n : Index4) : State :=
  let r := s.bankRec n
  match r.state.transitional, r.confirmTimer with
  | true, some k => if k = 1 then expireConfirmation n s else s.setBankRec n { r with confirmTimer := some (k - 1) }
  | _, _ => s

/-- R123: the discharge timer of a bank expires. -/
def expireDischarge (n : Index4) (s : State) : State :=
  writeBank n { s.bankRec n with state := .out, dischargeTimer := none } s

/-- R121, stage 2, for one bank. -/
def tickDischarge (s : State) (n : Index4) : State :=
  let r := s.bankRec n
  match r.state, r.dischargeTimer with
  | .discharging, some k =>
    if k ≤ 1 then expireDischarge n s else s.setBankRec n { r with dischargeTimer := some (k - 1) }
  | _, _ => s

/-- R124: the dwell timer reaches 0. -/
def expireDwell (s : State) : State := s.setBanks { s.banks with dwell := none }

/-- R121, stage 3. -/
def tickDwell (s : State) : State :=
  match s.banks.dwell with
  | none => s
  | some k => if k ≤ 1 then expireDwell s else s.setBanks { s.banks with dwell := some (k - 1) }

/-! ## Automatic switching (6.5) -/

/-- The sum S of the three clamp counters (R125). -/
def State.clampSum (s : State) : Int := s.demand.ab.clamp + s.demand.bc.clamp + s.demand.ca.clamp

/-- R125: the conditions under which automatic switching is evaluated. -/
def State.switchingEvaluated (s : State) : Bool :=
  s.params.autoBanks && decide (s.control.release = .released) && !s.anyTransitional && s.banks.dwell.isNone

/-- R125: the lowest-numbered bank in a state. -/
def State.lowestBank (s : State) (st : BankState) : Option Index4 :=
  Index4.all.find? fun n => decide ((s.bankRec n).state = st)

/-- R125: the highest-numbered bank in a state. -/
def State.highestBank (s : State) (st : BankState) : Option Index4 :=
  Index4.all.reverse.find? fun n => decide ((s.bankRec n).state = st)

/-- R125: automatic switching at stage 4 of a local tick. -/
def autoSwitch (s : State) : State :=
  if s.switchingEvaluated then
    if s.clampSum ≤ -(s.params.bankInThreshold : Int) then
      match s.lowestBank .out with
      | some n => placeBankOrder n .close (s.countBanks fun c => { c with autoClose := bump c.autoClose })
      | none => raise .clamp s
    else if (s.params.bankOutThreshold : Int) ≤ s.clampSum then
      match s.highestBank .inService with
      | some n => placeBankOrder n .opening (s.countBanks fun c => { c with autoOpen := bump c.autoOpen })
      | none => raise .clamp s
    else s
  else s

/-- Stage 1 of a local tick makes a confirmation timer expire (R121, R122). -/
def State.confirmationExpires (s : State) : Bool :=
  Index4.all.any fun n =>
    (s.bankRec n).state.transitional && decide ((s.bankRec n).confirmTimer = some 1)

/-- R121: what the Bank Controller does at a local tick, in its four stages, the notices of one before those of the next.
A dwell timer loaded at stage 1 is not decreased at stage 3 of the same tick. -/
def tickBanks (s : State) : State :=
  let s1 := momentAfter [.bankChange, .bankFault] (Index4.all.foldl tickConfirmation s)
  let s2 := momentAfter [.bankChange] (Index4.all.foldl tickDischarge s1)
  autoSwitch (if s.confirmationExpires then s2 else tickDwell s2)

end Sys2Proof.Machine
end

