-- ==== Sys2Proof/Machine/Operands.lean ====
section
/-! DEFINITION. The operand forms: codes of names and flags (R196), the parameter table (Table 9-3), and a directive's
operands read from the bytes of its frame (R172, Table 11-3). -/

namespace Sys2Proof.Machine

/-! ## Names, flags and numbers from bytes (R196) -/

def flag? (b : Byte) : Option Bool :=
  match b.toNat with
  | 0 => some false
  | 1 => some true
  | _ => none

def branch? (b : Byte) : Option Branch :=
  match b.toNat with
  | 0 => some .ab
  | 1 => some .bc
  | 2 => some .ca
  | _ => none

def polarity? (b : Byte) : Option Polarity :=
  match b.toNat with
  | 0 => some .pos
  | 1 => some .neg
  | _ => none

def valveOutcome? (b : Byte) : Option ValveOutcome :=
  match b.toNat with
  | 0 => some .fired
  | 1 => some .withheld
  | 2 => some .notFired
  | 3 => some .fault
  | _ => none

def bankStatus? (b : Byte) : Option BankStatus :=
  match b.toNat with
  | 0 => some .closed
  | 1 => some .opened
  | 2 => some .failed
  | _ => none

def quantity? (b : Byte) : Option Quantity := Quantity.all[b.toNat]?

def noticeSource? (b : Byte) : Option NoticeSource := NoticeSource.all[b.toNat]?

def gapPolicy? (b : Byte) : Option GapPolicy :=
  match b.toNat with
  | 0 => some .hold
  | 1 => some .mark
  | _ => none

def auxPolarity? (b : Byte) : Option AuxPolarity :=
  match b.toNat with
  | 0 => some .activeHigh
  | 1 => some .activeLow
  | _ => none

def auxType? (b : Byte) : Option AuxType :=
  match b.toNat with
  | 0 => some .edge
  | 1 => some .level
  | _ => none

/-- The action set of an AUX_SET; bits that name no action make it an operand outside its list. -/
def auxActions? (b : Byte) : Option AuxActions :=
  if b.toNat < 32 then
    some ⟨b.getLsbD 0, b.getLsbD 1, b.getLsbD 2, b.getLsbD 3, b.getLsbD 4⟩
  else none

def bankAction? (b : Byte) : Option BankAction :=
  match b.toNat with
  | 0 => some .close
  | 1 => some .opening
  | _ => none

/-- The state operand of BANK_SET, IN or OUT (R127). -/
def bankSetState? (b : Byte) : Option BankState :=
  match b.toNat with
  | 0 => some .inService
  | 1 => some .out
  | _ => none

def tableBank? (b : Byte) : Option TableBank :=
  match b.toNat with
  | 0 => some .active
  | 1 => some .staged
  | _ => none

/-- The operand of MODE: RUN, PARK or QUIESCENT (R132). -/
def modeOperand? (b : Byte) : Option Mode :=
  match b.toNat with
  | 0 => some .run
  | 1 => some .park
  | 2 => some .quiescent
  | _ => none

/-- The operand of BLOCK: SET or CLEAR (R144). -/
def blockOperand? (b : Byte) : Option Bool :=
  match b.toNat with
  | 0 => some true
  | 1 => some false
  | _ => none

def captureMode? (b : Byte) : Option CaptureMode :=
  match b.toNat with
  | 0 => some .bypass
  | 1 => some .stream
  | 2 => some .stopOnFull
  | _ => none

def resetScope? (b : Byte) : Option ResetScope :=
  match b.toNat with
  | 0 => some .engine
  | 1 => some .full
  | _ => none

/-- A number operand within a range. -/
def within? (lo hi n : Nat) : Option Nat := if lo ≤ n ∧ n ≤ hi then some n else none

/-! ## Parameters (Table 9-3) -/

/-- The parameters of Table 9-3, one name each; per-branch parameters by branch. -/
inductive Param where
  | assemblyDepth | silenceLimit | statusSource | crossHyst
  | loadGain (b : Branch) | load2Gain (b : Branch) | bias (b : Branch) | angleOffset (b : Branch)
  | trimGain | vRef | halfInvalidLimit | carryLimit | gapLimit | limitMode | gapPolicy
  | timeoutLimit | misfireLimit | angleTolerance
  | autoBanks | bankInThreshold | bankOutThreshold | bankDwell | bankConfirmTimeout | bankDischarge
  | settleCode | wakeTarget | vValid | vDip | dipTolerance | releaseBase | releaseExtra | blockSelect
  | resumePolicy | resumePreset | noticeMask
  deriving DecidableEq, Repr

/-- The parameter an identifier names (Table 9-3). -/
def param? (ident : Byte) : Option Param :=
  match ident.toNat with
  | 1 => some .assemblyDepth
  | 2 => some .silenceLimit
  | 3 => some .statusSource
  | 8 => some .crossHyst
  | 16 => some (.loadGain .ab)
  | 17 => some (.loadGain .bc)
  | 18 => some (.loadGain .ca)
  | 19 => some (.load2Gain .ab)
  | 20 => some (.load2Gain .bc)
  | 21 => some (.load2Gain .ca)
  | 22 => some (.bias .ab)
  | 23 => some (.bias .bc)
  | 24 => some (.bias .ca)
  | 25 => some (.angleOffset .ab)
  | 26 => some (.angleOffset .bc)
  | 27 => some (.angleOffset .ca)
  | 28 => some .trimGain
  | 29 => some .vRef
  | 30 => some .halfInvalidLimit
  | 31 => some .carryLimit
  | 32 => some .gapLimit
  | 33 => some .limitMode
  | 34 => some .gapPolicy
  | 40 => some .timeoutLimit
  | 41 => some .misfireLimit
  | 42 => some .angleTolerance
  | 48 => some .autoBanks
  | 49 => some .bankInThreshold
  | 50 => some .bankOutThreshold
  | 51 => some .bankDwell
  | 52 => some .bankConfirmTimeout
  | 53 => some .bankDischarge
  | 64 => some .settleCode
  | 65 => some .wakeTarget
  | 66 => some .vValid
  | 67 => some .vDip
  | 68 => some .dipTolerance
  | 69 => some .releaseBase
  | 70 => some .releaseExtra
  | 71 => some .blockSelect
  | 72 => some .resumePolicy
  | 73 => some .resumePreset
  | 80 => some .noticeMask
  | _ => none

/-- The class of a parameter (R175, Table 9-3): true for parked-only. -/
def Param.parkedOnly : Param → Bool
  | .assemblyDepth | .statusSource | .limitMode | .gapPolicy | .releaseBase | .releaseExtra | .blockSelect => true
  | _ => false

/-- The range or list of a parameter's value (Table 9-3). -/
def Param.inRange (p : Param) (v : Int) : Bool :=
  let span := fun (lo hi : Int) => decide (lo ≤ v) && decide (v ≤ hi)
  match p with
  | .assemblyDepth => span 1 6
  | .silenceLimit => span 0 255
  | .statusSource => span 0 3
  | .crossHyst => span 0 4095
  | .loadGain _ | .load2Gain _ => span 0 65535
  | .bias _ => span (-4096) 4095
  | .angleOffset _ => span (-256) 255
  | .trimGain => span 0 4095
  | .vRef => span 0 32767
  | .halfInvalidLimit => span 0 16
  | .carryLimit => span 0 1024
  | .gapLimit => span 1 255
  | .limitMode | .gapPolicy => span 0 1
  | .timeoutLimit | .misfireLimit => span 1 15
  | .angleTolerance => span 0 255
  | .autoBanks => span 0 1
  | .bankInThreshold | .bankOutThreshold => span 1 381
  | .bankDwell | .bankConfirmTimeout | .bankDischarge => span 1 255
  | .settleCode => span 0 4
  | .wakeTarget => span 0 1
  | .vValid | .vDip => span 0 32767
  | .dipTolerance => span 0 15
  | .releaseBase => decide (v = 25) || decide (v = 50)
  | .releaseExtra => decide (v = 0) || decide (v = 5) || decide (v = 15) || decide (v = 40)
  | .blockSelect => span 0 2
  | .resumePolicy => span 0 3
  | .resumePreset => span 0 1
  | .noticeMask => span 0 2

/-- PARK 0, RUN 1: the codes of WAKE_TARGET and RESUME_PRESET (Table 9-3). -/
def Target.code : Target → Int
  | .park => 0
  | .run => 1

/-- The value of a parameter as GET and SET carry it (R176). -/
def Params.value (q : Params) : Param → Int
  | .assemblyDepth => q.assemblyDepth
  | .silenceLimit => q.silenceLimit
  | .statusSource => Index4.toNat q.statusSource
  | .crossHyst => q.crossHyst
  | .loadGain b => q.loadGain.get b
  | .load2Gain b => q.load2Gain.get b
  | .bias b => q.bias.get b
  | .angleOffset b => q.angleOffset.get b
  | .trimGain => q.trimGain
  | .vRef => q.vRef
  | .halfInvalidLimit => q.halfInvalidLimit
  | .carryLimit => q.carryLimit
  | .gapLimit => q.gapLimit
  | .limitMode => match q.limitMode with
    | .clip => 0
    | .carry => 1
  | .gapPolicy => match q.gapPolicy with
    | .block => 0
    | .repeatLast => 1
  | .timeoutLimit => q.timeoutLimit
  | .misfireLimit => q.misfireLimit
  | .angleTolerance => q.angleTolerance
  | .autoBanks => if q.autoBanks then 1 else 0
  | .bankInThreshold => q.bankInThreshold
  | .bankOutThreshold => q.bankOutThreshold
  | .bankDwell => q.bankDwell
  | .bankConfirmTimeout => q.bankConfirmTimeout
  | .bankDischarge => q.bankDischarge
  | .settleCode => q.settleCode
  | .wakeTarget => q.wakeTarget.code
  | .vValid => q.vValid
  | .vDip => q.vDip
  | .dipTolerance => q.dipTolerance
  | .releaseBase => q.releaseBase
  | .releaseExtra => q.releaseExtra
  | .blockSelect => match q.blockSelect with
    | .directed => 0
    | .aux => 1
    | .merged => 2
  | .resumePolicy => match q.resumePolicy with
    | .alwaysPark => 0
    | .alwaysRun => 1
    | .previous => 2
    | .preset => 3
  | .resumePreset => q.resumePreset.code
  | .noticeMask => q.noticeMask

/-- The target a code names (Table 9-3). -/
def targetOfCode (v : Int) : Target := if v = 1 then .run else .park

/-- The parameters with one written, for a value in its range (R177). -/
def Params.write (q : Params) (p : Param) (v : Int) : Params :=
  let n := v.toNat
  match p with
  | .assemblyDepth => { q with assemblyDepth := n }
  | .silenceLimit => { q with silenceLimit := n }
  | .statusSource => { q with statusSource := if n = 0 then .i0 else if n = 1 then .i1 else if n = 2 then .i2 else .i3 }
  | .crossHyst => { q with crossHyst := n }
  | .loadGain b => { q with loadGain := q.loadGain.set b n }
  | .load2Gain b => { q with load2Gain := q.load2Gain.set b n }
  | .bias b => { q with bias := q.bias.set b v }
  | .angleOffset b => { q with angleOffset := q.angleOffset.set b v }
  | .trimGain => { q with trimGain := n }
  | .vRef => { q with vRef := n }
  | .halfInvalidLimit => { q with halfInvalidLimit := n }
  | .carryLimit => { q with carryLimit := n }
  | .gapLimit => { q with gapLimit := n }
  | .limitMode => { q with limitMode := if n = 0 then .clip else .carry }
  | .gapPolicy => { q with gapPolicy := if n = 0 then .block else .repeatLast }
  | .timeoutLimit => { q with timeoutLimit := n }
  | .misfireLimit => { q with misfireLimit := n }
  | .angleTolerance => { q with angleTolerance := n }
  | .autoBanks => { q with autoBanks := decide (n = 1) }
  | .bankInThreshold => { q with bankInThreshold := n }
  | .bankOutThreshold => { q with bankOutThreshold := n }
  | .bankDwell => { q with bankDwell := n }
  | .bankConfirmTimeout => { q with bankConfirmTimeout := n }
  | .bankDischarge => { q with bankDischarge := n }
  | .settleCode => { q with settleCode := n }
  | .wakeTarget => { q with wakeTarget := targetOfCode v }
  | .vValid => { q with vValid := n }
  | .vDip => { q with vDip := n }
  | .dipTolerance => { q with dipTolerance := n }
  | .releaseBase => { q with releaseBase := n }
  | .releaseExtra => { q with releaseExtra := n }
  | .blockSelect => { q with blockSelect := if n = 0 then .directed else if n = 1 then .aux else .merged }
  | .resumePolicy =>
    { q with resumePolicy :=
        if n = 0 then .alwaysPark else if n = 1 then .alwaysRun else if n = 2 then .previous else .preset }
  | .resumePreset => { q with resumePreset := targetOfCode v }
  | .noticeMask => { q with noticeMask := n }

/-- R177, check 4 (R136): V_DIP does not exceed V_VALID. -/
def Params.crossCheck (q : Params) (p : Param) (v : Int) : Bool :=
  match p with
  | .vDip => decide (v ≤ q.vValid)
  | .vValid => decide ((q.vDip : Int) ≤ v)
  | _ => true

/-! ## A directive's operands (R172, Table 11-3) -/

/-- Two bytes, most significant first (0.7). -/
def half (hi lo : Byte) : Half := hi ++ lo

/-- Four bytes, most significant first (0.7). -/
def word (a b c d : Byte) : Word := a ++ b ++ (c ++ d)

/-- Two-byte values from bytes, as many as there are whole pairs. -/
def halves : List Byte → List Half
  | a :: b :: rest => half a b :: halves rest
  | _ => []

/-- R172, step 2, for TABLE_WRITE: the operand length that its fill and N require, given the number of bytes after
the fixed operands; with a fill that is neither yes nor no any such number will do. -/
def tableWriteLengthOk (n fill : Byte) (rest : Nat) : Bool :=
  match flag? fill with
  | some true => decide (rest = 2)
  | some false => decide (rest = 2 * (n.toNat + 1))
  | none => true

/-- A TABLE_WRITE with its values as carried (R73, R172). -/
def tableWriteRequest (start : Half) (n fill : Byte) (rest : Nat) (values : List Half) : Request :=
  if tableWriteLengthOk n fill rest then .tableWrite start n fill values else .malformed

/-! R172, step 2: the request of a kind whose operands have a fixed length, from the operands given. -/

def noOperands (r : Request) : List Byte → Request
  | [] => r
  | _ => .malformed

def oneOperand (f : Byte → Request) : List Byte → Request
  | [a] => f a
  | _ => .malformed

def twoOperands (f : Byte → Byte → Request) : List Byte → Request
  | [a, b] => f a b
  | _ => .malformed

def threeOperands (f : Byte → Byte → Byte → Request) : List Byte → Request
  | [a, b, c] => f a b c
  | _ => .malformed

def fourOperands (f : Byte → Byte → Byte → Byte → Request) : List Byte → Request
  | [a, b, c, d] => f a b c d
  | _ => .malformed

def fiveOperands (f : Byte → Byte → Byte → Byte → Byte → Request) : List Byte → Request
  | [a, b, c, d, e] => f a b c d e
  | _ => .malformed

def sevenOperands (f : Byte → Byte → Byte → Byte → Byte → Byte → Byte → Request) : List Byte → Request
  | [a, b, c, d, e, g, h] => f a b c d e g h
  | _ => .malformed

/-- A TABLE_WRITE from its operand bytes. -/
def tableWriteOperands : List Byte → Request
  | hi :: lo :: n :: fill :: rest => tableWriteRequest (half hi lo) n fill rest.length (halves rest)
  | _ => .malformed

/-- The request of a directive frame: by its kind byte (Table 11-3), MALFORMED where the number of operand bytes is
not what the kind and the operands require, UNKNOWN_KIND where the kind names no directive (R172). -/
def decodeRequest (kind : Byte) (ops : List Byte) : Request :=
  match kind.toNat with
  | 1 => noOperands .identify ops
  | 2 => noOperands .status ops
  | 3 => twoOperands .counters ops
  | 4 => noOperands .stamp ops
  | 5 => oneOperand .get ops
  | 6 => fiveOperands (fun ident a b c d => .set ident (word a b c d)) ops
  | 7 => threeOperands .mapSet ops
  | 8 => fiveOperands .sourceSet ops
  | 9 => sevenOperands .auxSet ops
  | 10 => fiveOperands (fun bank present hi lo state => .bankSet bank present (half hi lo) state) ops
  | 11 => twoOperands .bankForce ops
  | 12 => tableWriteOperands ops
  | 13 => fourOperands (fun bank hi lo n => .tableRead bank (half hi lo) n) ops
  | 14 => noOperands .tableCopy ops
  | 15 => noOperands .tableCommit ops
  | 16 => oneOperand .mode ops
  | 17 => oneOperand .block ops
  | 18 => noOperands .tripClear ops
  | 19 => threeOperands (fun mode hi lo => .captureSet mode (half hi lo)) ops
  | 20 => noOperands .captureTrigger ops
  | 21 => oneOperand .captureRead ops
  | 22 => noOperands .captureFlush ops
  | 23 => threeOperands .noticeSet ops
  | 24 => twoOperands (fun hi lo => .noticeClear (half hi lo)) ops
  | 25 => oneOperand .reset ops
  | _ => .unknownKind

end Sys2Proof.Machine
end

