-- ==== Sys2Proof/Machine/Reports.lean ====
section
/-! DEFINITION. What the FL6 reports: the STATUS, COUNTERS and STAMP reply data and the notice snapshots. -/

namespace Sys2Proof.Machine

def State.trackerReports (s : State) : PerBranch TrackerReport :=
  .ofFn fun b => ⟨(s.trackers.get b).state, (s.trackers.get b).h⟩

def State.auxReports (s : State) : Four AuxReport :=
  .ofFn fun n => ⟨(s.control.aux.get n).active, (s.control.aux.get n).blockLatch⟩

/-- R180, Table 9-4: the STATUS snapshot. -/
def State.statusReport (s : State) : StatusReport where
  mode := s.control.mode
  wakingTarget := s.control.wakingTarget
  wakingCount := s.control.wakingCount
  release := s.control.release
  qualifyCount := s.control.qualifyCount
  supplyValid := s.control.supplyValid
  dip := s.control.dip
  dipState := s.control.dipState
  resume := s.control.resume
  trips := s.control.trips
  directedBlock := s.control.directedBlock
  aux := s.auxReports
  blankState := s.control.blanking.state
  blankCount := s.control.blanking.count
  valveReady := s.control.valveReady
  trackers := s.trackerReports
  magnitudes := .ofFn fun b => (s.trackers.get b).magnitude
  banks := .ofFn fun n => ⟨(s.bankRec n).state, (s.bankRec n).counted, (s.bankRec n).faultCode⟩
  bBank := s.bBank
  dwell := s.banks.dwell
  commitPending := s.tables.commit.isSome
  captureState := s.capture.state
  notices := .ofFn fun n => (s.notices.records.get n).status
  queuedDirectives := s.processor.queue.length
  heldReplies := s.processor.replies.length
  reservedSlot := s.reservedSlot

/-- R44, R181: a branch's h and the sets elapsed since its last crossing event, or none. -/
def State.stampReport (s : State) (b : Branch) : StampReport :=
  ⟨(s.trackers.get b).h,
    match s.asm.lastReleased, (s.trackers.get b).lastEventTag with
    | some r, some e => some (tagDistance e r)
    | _, _ => none⟩

/-- The counter groups (Table 9-5). -/
inductive CounterGroup where
  | assembly | tracking | demand | tables | exchange | banks | control | capture | directives | ports
  deriving DecidableEq, Repr

/-- The group a code names (Table 9-5). -/
def counterGroup? (b : Byte) : Option CounterGroup :=
  match b.toNat with
  | 0 => some .assembly
  | 1 => some .tracking
  | 2 => some .demand
  | 3 => some .tables
  | 4 => some .exchange
  | 5 => some .banks
  | 6 => some .control
  | 7 => some .capture
  | 8 => some .directives
  | 9 => some .ports
  | _ => none

/-- R23. -/
def SourceRec.report (r : SourceRec) : SourceReport := ⟨r.counters, r.alignment, r.missRun⟩

/-- R68. -/
def DemandRec.report (r : DemandRec) : DemandReport := ⟨r.counters, r.gapCount, r.clamp, r.carry, r.trim⟩

/-- R110. -/
def ExchangeRec.report (r : ExchangeRec) : ExchangeReport :=
  ⟨r.counters, r.outstanding.length, r.ready, r.timeoutRun, r.misfireRun⟩

/-- R128. -/
def BankRec.report (r : BankRec) : BankReport := ⟨r.counters, r.state, r.susceptance⟩

/-- R182: a group's counters and reported states, as they stand. -/
def State.counterReport (s : State) : CounterGroup → CounterReport
  | .assembly => .assembly (.ofFn fun n => (s.asm.sources.get n).report) s.asm.counters
  | .tracking => .tracking (.ofFn fun b => (s.trackers.get b).spurious)
  | .demand => .demand (.ofFn fun b => (s.demand.get b).report)
  | .tables => .tables s.tables.counters s.tables.commit.isSome
  | .exchange =>
    .exchange (.ofFn fun b => (s.exchange.branches.get b).report) s.exchange.counters s.exchange.queue.length
  | .banks => .banks (.ofFn fun n => (s.bankRec n).report) s.banks.counters s.bBank
  | .control => .control s.control.counters
  | .capture =>
    .capture s.capture.counters s.capture.mode s.capture.state s.capture.post s.capture.postCount s.capture.trigger
      s.capture.buffer.length
  | .directives =>
    .directives s.processor.counters s.processor.queue.length s.processor.replies.length s.reservedSlot
  | .ports => .ports s.ports

/-- R182: a group's counters are set to 0; its reported states stay. -/
def clearCounters (s : State) : CounterGroup → State
  | .assembly =>
    s.setAsm { s.asm with
      sources := .ofFn fun n => { s.asm.sources.get n with counters := {} }
      counters := {} }
  | .tracking => s.setTrackers (.ofFn fun b => { s.trackers.get b with spurious := 0 })
  | .demand => s.setDemand (.ofFn fun b => { s.demand.get b with counters := {} })
  | .tables => s.setTables { s.tables with counters := {} }
  | .exchange =>
    s.setExchange { s.exchange with
      branches := .ofFn fun b => { s.exchange.branches.get b with counters := {} }
      counters := {} }
  | .banks =>
    s.setBanks { s.banks with
      banks := .ofFn fun n => { s.bankRec n with counters := {} }
      counters := {} }
  | .control => s.setControl { s.control with counters := {} }
  | .capture => s.setCapture { s.capture with counters := {} }
  | .directives => s.setProcessor { s.processor with counters := {} }
  | .ports => s.setPorts ⟨{}, {}⟩

/-- R191, Table 10-3: the snapshot of a notice source. -/
def State.snapshot (s : State) : NoticeSource → Snapshot
  | .trip => .trip s.control.trips
  | .release => .release s.control.release s.control.qualifyCount s.control.valveReady s.control.mode
  | .tracker => .tracker s.trackerReports
  | .stream => .stream s.asm.expected s.asm.counters.streamLoss s.asm.counters.discontinuity
  | .source => .source (.ofFn fun n => (s.asm.sources.get n).alignment)
  | .dip => .dip s.control.dipState s.control.supplyValid s.control.dip s.control.resume
  | .bankFault => .bankFault (.ofFn fun n => (s.bankRec n).state) (.ofFn fun n => (s.bankRec n).faultCode)
  | .bankChange => .bankChange (.ofFn fun n => (s.bankRec n).state) s.bBank
  | .mode => .mode s.control.mode s.control.wakingTarget
  | .aux => .aux s.auxReports s.control.blanking.state
  | .capture => .capture s.capture.state s.capture.buffer.length s.capture.postCount s.capture.trigger
  | .clamp => .clamp (.ofFn fun b => (s.demand.get b).clamp)

end Sys2Proof.Machine
end

