-- ==== Sys2Proof/Machine/Directives.lean ====
section
/-! DEFINITION. What each directive does at the block that owns it, and the result it gives. -/

namespace Sys2Proof.Machine

/-- The result of a directive: its code and data, or none while the reply is deferred (R79). -/
abbrev Answer := Option (ResultCode × ReplyData)

/-- DONE with data. -/
def State.done (s : State) (data : ReplyData) : State × Answer := (s, some (.done, data))

/-- A refusal carries no data and leaves the state as it stands (R174). -/
def State.refuse (s : State) (code : ResultCode) : State × Answer := (s, some (code, .empty))

/-! ## Identity, state, time, counters (9.5) -/

/-- R179. -/
def actIdentify (s : State) : State × Answer := s.done (.identify s.straps)

/-- R180. -/
def actStatus (s : State) : State × Answer := s.done (.status s.statusReport)

/-- R182. -/
def actCounters (group clear : Byte) (s : State) : State × Answer :=
  match counterGroup? group, flag? clear with
  | some g, some c =>
    (if c then clearCounters s g else s).done (.counters group c (s.counterReport g))
  | _, _ => s.refuse .range

/-- R181. -/
def actStamp (s : State) : State × Answer :=
  s.done (.stamp s.asm.lastReleased s.asm.expected (.ofFn s.stampReport) s.processor.ticks)

/-! ## Parameters (9.4) -/

/-- R178. -/
def actGet (ident : Byte) (s : State) : State × Answer :=
  match param? ident with
  | none => s.refuse .range
  | some p => s.done (.get ident (s.params.value p) p.parkedOnly)

/-- R56: each carry is clipped to the new CARRY_LIMIT. -/
def clipCarries (s : State) : State :=
  let limit : Int := s.params.carryLimit
  s.setDemand (.ofFn fun b => { s.demand.get b with carry := clip (s.demand.get b).carry (-limit) limit })

/-- What a parameter's owner does at once when it is written (R175); the new value is already written. -/
def afterWrite (p : Param) (s : State) : State :=
  match p with
  | .silenceLimit => if s.params.silenceLimit = 0 then s.setAsm { s.asm with silence := none } else s
  | .carryLimit => clipCarries s
  | .limitMode => zeroCarries s
  | .vValid | .vDip => evalSupply s
  | .blockSelect => evalBase s
  | _ => s

/-- R177. -/
def actSet (ident : Byte) (value : Word) (s : State) : State × Answer :=
  match param? ident with
  | none => s.refuse .range
  | some p =>
    if p.parkedOnly && !s.parked then s.refuse .wrongMode
    else if p.inRange value.toInt && s.params.crossCheck p value.toInt then
      let written := s.setParams (s.params.write p value.toInt)
      (afterWrite p written).done (.set ident (s.params.value p) (written.params.value p))
    else s.refuse .range

/-! ## Configuration (parked-only) -/

/-- The channel map entry that MAP_SET's operands name: source 255 is the ABSENT mark (R3). -/
def mapEntry? (source channel : Byte) : Option (Option ChannelRef) :=
  if source = 255 then some none
  else
    match index4? source with
    | none => none
    | some n => if h : channel.toNat < 8 then some (some ⟨n, ⟨channel.toNat, h⟩⟩) else none

/-- R3. -/
def actMapSet (quantity source channel : Byte) (s : State) : State × Answer :=
  if !s.parked then s.refuse .wrongMode
  else
    match quantity? quantity, mapEntry? source channel with
    | some q, some e => (s.setAsm { s.asm with map := s.asm.map.set q e }).done .empty
    | _, _ => s.refuse .range

/-- R1: the source record after a SOURCE_SET. -/
def SourceRec.configure (r : SourceRec) (enabled : Bool) (policy : GapPolicy) (hold miss : Nat) : SourceRec :=
  let r' := { r with policy := policy, holdLimit := hold, missLimit := miss }
  match enabled, r.alignment with
  | true, .disabled => { r' with alignment := .seeking, missRun := 0 }
  | true, _ => r'
  | false, .disabled => r'
  | false, _ => { r' with alignment := .disabled, missRun := 0 }

/-- R1. -/
def actSourceSet (source enabled policy holdLimit missLimit : Byte) (s : State) : State × Answer :=
  if !s.parked then s.refuse .wrongMode
  else
    match index4? source, flag? enabled, gapPolicy? policy, within? 0 15 holdLimit.toNat,
      within? 1 255 missLimit.toNat with
    | some n, some e, some p, some hold, some miss =>
      (releaseCheck (completeSets (s.setSource n ((s.asm.sources.get n).configure e p hold miss)))).done .empty
    | _, _, _, _, _ => s.refuse .range

/-- R151. -/
def actAuxSet (aux polarity kind debounce actions delay width : Byte) (s : State) : State × Answer :=
  if !s.parked then s.refuse .wrongMode
  else
    match index4? aux, auxPolarity? polarity, auxType? kind, auxActions? actions, within? 0 63 delay.toNat,
      within? 1 63 width.toNat with
    | some n, some p, some k, some a, some d, some w =>
      (evalBase (s.setAux n ⟨p, k, debounce.toNat, a, d, w, false, 0, false⟩)).done .empty
    | _, _, _, _, _, _ => s.refuse .range

/-- The susceptance of a bank that is not ABSENT (R113). -/
def BankRec.present (r : BankRec) : Nat := if r.state = .absent then 0 else r.susceptance

/-- The susceptances of all banks that are not ABSENT but one, summed (R127). -/
def State.otherSusceptance (s : State) (n : Index4) : Nat :=
  Index4.all.foldl (fun a m => if m = n then a else a + (s.bankRec m).present) 0

/-- R127: the record is written, the dwell timer loaded. -/
def setBankRecord (n : Index4) (state : BankState) (susceptance : Nat) (s : State) : State × Answer :=
  let r := s.bankRec n
  let s' := loadDwell (writeBank n { r with
    state := state, susceptance := susceptance, counted := false, faultCode := none
    confirmTimer := none, dischargeTimer := none } s)
  s'.done (.bankSet s'.bBank)

/-- R127, check 3: a bank is transitional, or the named bank is discharging. -/
def State.bankSetBusy (s : State) (n : Index4) : Bool :=
  s.anyTransitional || decide ((s.bankRec n).state = .discharging)

/-- R127. -/
def actBankSet (bank present : Byte) (susceptance : Half) (state : Byte) (s : State) : State × Answer :=
  if !s.parked then s.refuse .wrongMode
  else
    match index4? bank, flag? present with
    | some n, some false => if s.bankSetBusy n then s.refuse .busy else setBankRecord n .absent 0 s
    | some n, some true =>
      match within? 0 4095 susceptance.toNat, bankSetState? state with
      | some x, some st =>
        if s.bankSetBusy n then s.refuse .busy
        else if Config.susceptanceLimit < s.otherSusceptance n + x then s.refuse .range
        else setBankRecord n st x s
      | _, _ => s.refuse .range
    | _, _ => s.refuse .range

/-- R126: the state a bank must be in for an action. -/
def BankAction.needs : BankAction → BankState
  | .close => .out
  | .opening => .inService

/-- R126. -/
def actBankForce (bank action : Byte) (s : State) : State × Answer :=
  match index4? bank, bankAction? action with
  | some n, some a =>
    if s.anyTransitional then s.refuse .busy
    else if (s.bankRec n).state ≠ a.needs then s.refuse .range
    else
      let s' := (placeBankOrder n a s).countBanks fun c => { c with forced := bump c.forced }
      s'.done (.bankForce n (s'.bankRec n).state)
  | _, _ => s.refuse .range

/-! ## Firing tables (4.2, 4.3) -/

/-- A firing-angle entry in range (R71). -/
def entryInRange (v : Half) : Bool := decide (4096 ≤ v.toNat) && decide (v.toNat ≤ 8192)

/-- R73: entries start to start + n of a bank overwritten. -/
def writeEntries (bank : List Nat) (start : Nat) (values : List Nat) : List Nat :=
  bank.take start ++ values ++ bank.drop (start + values.length)

/-- R73. -/
def actTableWrite (start : Half) (n fill : Byte) (values : List Half) (s : State) : State × Answer :=
  if s.tables.commit.isSome then s.refuse .busy
  else
    match flag? fill, within? 0 63 n.toNat with
    | some f, some count =>
      if 511 < start.toNat + count then s.refuse .range
      else if values.all entryInRange then
        let written := if f then List.replicate (count + 1) ((values.headD 0).toNat) else values.map BitVec.toNat
        (s.setTables { s.tables with staged := writeEntries s.tables.staged start.toNat written }).done
          (.tableWrite start.toNat (count + 1))
      else s.refuse .range
    | _, _ => s.refuse .range

/-- The entries of a bank (R71). -/
def TableStore.bank (t : TableStore) : TableBank → List Nat
  | .active => t.active
  | .staged => t.staged

/-- R74. -/
def actTableRead (bank : Byte) (start : Half) (n : Byte) (s : State) : State × Answer :=
  match tableBank? bank, within? 0 63 n.toNat with
  | some b, some count =>
    if 511 < start.toNat + count then s.refuse .range
    else
      s.done (.tableRead b start.toNat (count + 1) (((s.tables.bank b).drop start.toNat).take (count + 1))
        s.tables.commit.isSome)
  | _, _ => s.refuse .range

/-- R75. -/
def actTableCopy (s : State) : State × Answer :=
  if s.tables.commit.isSome then s.refuse .busy
  else (s.setTables { s.tables with staged := s.tables.active }).done .empty

/-- R77: the smallest index whose entry is greater than the entry before it, the first entry having the index
given. -/
def firstRise : Nat → List Nat → Option Nat
  | i, a :: b :: rest => if a < b then some (i + 1) else firstRise (i + 1) (b :: rest)
  | _, _ => none

/-- R77, R78, R79: tag is the directive's tag. -/
def actTableCommit (tag : Byte) (s : State) : State × Answer :=
  if s.tables.commit.isSome then s.refuse .busy
  else
    match firstRise 0 s.tables.staged with
    | some i =>
      (s.setTables { s.tables with
        counters := { s.tables.counters with notMonotonic := bump s.tables.counters.notMonotonic } },
        some (.notMonotonic, .notMonotonic i))
    | none =>
      if s.control.release = .released then (s.setTables { s.tables with commit := some tag }, none)
      else
        (s.setTables { s.tables.swapped with
          counters := { s.tables.counters with immediate := bump s.tables.counters.immediate } }).done
          (.commit .immediate)

/-! ## Mode, block, trips (section 7) -/

/-- R132: a pending resume is cancelled. -/
def cancelResume (s : State) : State := s.setControl { s.control with resume := none }

/-- R132: operand RUN or PARK, by the mode in which it is taken. -/
def requestMode (t : Target) (s : State) : State :=
  match s.control.mode with
  | .run | .park => evalBase (changeMode t.mode none s)
  | .quiescent => changeMode .waking (some t) s
  | .waking => s.setControl { s.control with wakingTarget := some t }

/-- R132, the part of a directive that is taken. -/
def takeMode (m : Mode) (s : State) : State :=
  match m with
  | .run => requestMode .run (cancelResume s)
  | .park => requestMode .park (cancelResume s)
  | .quiescent | .waking =>
    if s.control.mode = .quiescent then cancelResume s else enterQuiescent s

/-- R132. -/
def actMode (operand : Byte) (s : State) : State × Answer :=
  match modeOperand? operand with
  | none => s.refuse .range
  | some m =>
    if m = .run ∧ s.primaryMapped = false then s.refuse .unmapped
    else
      let s' := takeMode m s
      s'.done (.mode s'.control.mode s'.control.wakingTarget)

/-- R144. -/
def actBlock (operand : Byte) (s : State) : State × Answer :=
  match blockOperand? operand with
  | none => s.refuse .range
  | some v =>
    let s' := evalBase (s.setControl { s.control with directedBlock := v })
    s'.done (.block s'.control.directedBlock s'.control.release)

/-- R64, R143: each branch's consecutive-gap count becomes 0. -/
def zeroGaps (s : State) : State := s.setDemand (.ofFn fun b => { s.demand.get b with gapCount := 0 })

/-- R143: the aux block latches are cleared. -/
def clearLatches (s : State) : State :=
  s.setControl { s.control with aux := .ofFn fun n => { s.control.aux.get n with blockLatch := false } }

/-- R143. -/
def actTripClear (s : State) : State × Answer :=
  (evalBase (zeroRuns (zeroGaps (clearLatches
    (s.setControl { s.control with trips := .empty }))))).done .empty

/-! ## Capture (8.4) -/

/-- R164. -/
def actCaptureSet (mode : Byte) (post : Half) (s : State) : State × Answer :=
  match captureMode? mode, within? 0 1023 post.toNat with
  | some m, some p =>
    if m ≠ .bypass ∧ (s.capture.state = .running ∨ s.capture.state = .triggered) then s.refuse .busy
    else
      let st := if m = .bypass then CaptureState.off else .running
      (s.setCapture { s.capture with
        mode := m, state := st, buffer := [], post := p, postCount := 0, trigger := none }).done
        (.captureSet m p st)
  | _, _ => s.refuse .range

/-- R163. -/
def actCaptureTrigger (s : State) : State × Answer :=
  if s.capture.state = .running then
    let s' := trigger .directive s
    s'.done (.captureTrigger s'.capture.state)
  else (s, some (.ignored, .empty))

/-- R165. -/
def actCaptureRead (n : Byte) (s : State) : State × Answer :=
  match within? 1 12 n.toNat with
  | none => s.refuse .range
  | some k =>
    let c := s.capture
    (s.setCapture { c with buffer := c.buffer.drop k }).done
      (.captureRead (c.buffer.drop k).length c.state c.postCount c.trigger (c.buffer.take k))

/-- R166: the state after a flush. -/
def CaptureState.flushed : CaptureState → CaptureState
  | .off => .off
  | .running | .triggered | .frozen => .running

/-- R166. -/
def actCaptureFlush (s : State) : State × Answer :=
  let c := s.capture
  (s.setCapture { c with buffer := [], state := c.state.flushed, postCount := 0, trigger := none }).done
    (.captureFlush c.buffer.length c.state.flushed)

/-! ## Notices (10.1) -/

/-- R189. -/
def actNoticeSet (source enable level : Byte) (s : State) : State × Answer :=
  match noticeSource? source, flag? enable, within? 0 1 level.toNat with
  | some n, some e, some l =>
    let r := { s.notices.records.get n with enable := e, level := l }
    (s.setNotices { s.notices with records := s.notices.records.set n r }).done (.noticeSet r)
  | _, _, _ => s.refuse .range

/-- The number of a notice source (Table 10-2). -/
def NoticeSource.number : NoticeSource → Nat
  | .trip => 0
  | .release => 1
  | .tracker => 2
  | .stream => 3
  | .source => 4
  | .dip => 5
  | .bankFault => 6
  | .bankChange => 7
  | .mode => 8
  | .aux => 9
  | .capture => 10
  | .clamp => 11

/-- R190: the record of a source that a clear names. -/
def NoticeRec.clear (r : NoticeRec) : NoticeRec := { r with status := false, sent := false }

/-- R190. -/
def actNoticeClear (sources : Half) (s : State) : State × Answer :=
  if 4096 ≤ sources.toNat then s.refuse .range
  else
    let named := fun n => sources.getLsbD (NoticeSource.number n)
    (s.setNotices { s.notices with
      records := .ofFn fun n =>
        if named n then (s.notices.records.get n).clear else s.notices.records.get n }).done
      (.noticeClear (.ofFn fun n => named n && (s.notices.records.get n).status))

/-! ## Resets (9.6) -/

/-- R26: an ENGINE reset in the Stream Assembler. -/
def engineResetAssembly (s : State) : State :=
  clearWindows (seekAll (s.setAsm { s.asm with
    queue := [], expected := none, lastReleased := none, silence := none }))

/-- R45: an ENGINE reset of a tracker. -/
def Tracker.engineReset (t : Tracker) : Tracker := { Tracker.initial with spurious := t.spurious }

/-- R45: some tracker is other than UNLOCKED. -/
def State.someTracking (s : State) : Bool :=
  Branch.all.any fun b => decide ((s.trackers.get b).state ≠ .unlocked)

/-- R45: an ENGINE reset of the trackers, with TRACKER raised for those that were not UNLOCKED. -/
def engineResetTrackers (s : State) : State :=
  let s' := s.setTrackers (.ofFn fun b => (s.trackers.get b).engineReset)
  if s.someTracking then raise .tracker s' else s'

/-- R70: an ENGINE reset in the Demand Unit. -/
def engineResetDemand (s : State) : State :=
  s.setDemand (.ofFn fun b =>
    { s.demand.get b with carry := 0, clamp := 0, trim := 0, gapCount := 0, lastD := none })

/-- R85: an ENGINE reset cancels a pending commit with the reply ABORTED. -/
def abortCommit (s : State) : State :=
  match s.tables.commit with
  | none => s
  | some tag =>
    (s.setTables { s.tables with
      commit := none
      counters := { s.tables.counters with aborted := bump s.tables.counters.aborted } }).appendReply
      tag commitKind .aborted .empty

/-- R157: an ENGINE reset in the Mode and Release Controller; the trackers are already reset, so that the supply is
not valid and the dip condition is present (R136). -/
def engineResetControl (s : State) : State :=
  let s' := s.setControl { s.control with
    release := .held
    qualifyCount := 0
    dipState := .unarmed
    dipCount := 0
    wakingCount := 0
    supplyValid := s.supplyIsValid
    dip := s.dipPresent }
  if s.control.release = .held then s' else raise .release s'

/-- R108: an ENGINE reset in the Order Exchange. -/
def engineResetExchange (s : State) : State := zeroRuns (exchangeQuiescent s)

/-- R185, Table 9-7: an ENGINE reset. The release state is HELD before readiness is cleared, so that no departure
from RELEASED is handed over (R157). -/
def engineReset (s : State) : State :=
  engineResetExchange (engineResetControl (abortCommit (engineResetDemand
    (engineResetTrackers (engineResetAssembly s)))))

/-- R186, stage 3: a FULL reset; every block takes its power-on values and the straps are not latched again. -/
def fullReset (s : State) : State := State.powerOn s.straps s.rstn s.pending s.freeCount

/-- R184: RESET. The ENGINE scope acts before its reply is created, so that what the reset raises and the reply of a
commit it cancels go before that reply (R185, R192). The FULL scope acts at the transmit completion of its reply
(R186). -/
def actReset (scope : Byte) (s : State) : State × Answer :=
  match resetScope? scope with
  | none => s.refuse .range
  | some .engine => (moment (engineReset s)).done (.reset .engine)
  | some .full => (s.setProcessor { s.processor with resetWait := true }).done (.reset .full)

/-! ## Every directive (Table 9-6) -/

/-- R172, step 1. -/
def actUnknownKind (s : State) : State × Answer :=
  (s.setProcessor { s.processor with
    counters := { s.processor.counters with unknownKind := bump s.processor.counters.unknownKind } }).refuse
    .unknownKind

/-- R172, step 2. -/
def actMalformed (s : State) : State × Answer :=
  (s.setProcessor { s.processor with
    counters := { s.processor.counters with malformed := bump s.processor.counters.malformed } }).refuse .malformed

/-- R172, step 3: a directive taken from the queue is handed to the block that owns it. -/
def act (d : Directive) (s : State) : State × Answer :=
  match d.request with
  | .identify => actIdentify s
  | .status => actStatus s
  | .counters group clear => actCounters group clear s
  | .stamp => actStamp s
  | .get ident => actGet ident s
  | .set ident value => actSet ident value s
  | .mapSet quantity source channel => actMapSet quantity source channel s
  | .sourceSet source enabled policy hold miss => actSourceSet source enabled policy hold miss s
  | .auxSet aux polarity kind debounce actions delay width =>
    actAuxSet aux polarity kind debounce actions delay width s
  | .bankSet bank present susceptance state => actBankSet bank present susceptance state s
  | .bankForce bank action => actBankForce bank action s
  | .tableWrite start n fill values => actTableWrite start n fill values s
  | .tableRead bank start n => actTableRead bank start n s
  | .tableCopy => actTableCopy s
  | .tableCommit => actTableCommit d.tag s
  | .mode operand => actMode operand s
  | .block operand => actBlock operand s
  | .tripClear => actTripClear s
  | .captureSet mode post => actCaptureSet mode post s
  | .captureTrigger => actCaptureTrigger s
  | .captureRead n => actCaptureRead n s
  | .captureFlush => actCaptureFlush s
  | .noticeSet source enable level => actNoticeSet source enable level s
  | .noticeClear sources => actNoticeClear sources s
  | .reset scope => actReset scope s
  | .unknownKind => actUnknownKind s
  | .malformed => actMalformed s

end Sys2Proof.Machine
end

