-- ==== Sys2Proof/Machine/Station.lean ====
section
/-! DEFINITION. The station side of the M port: the transmit arbiter (10.3), admission and taking of directives (9.1,
9.2), and what ends every step. -/

namespace Sys2Proof.Machine

/-! ## The arbiter (R192) -/

/-- The place of the pacing reply once the oldest reply has left the list (R173). -/
def nextPacing : Option Nat → Option Nat
  | some (k + 1) => some k
  | some 0 | none => none

/-- R173, R192, 1: the oldest reply begins its transmission and leaves the list. -/
def beginReply (s : State) : State :=
  match s.processor.replies with
  | [] => s
  | r :: rest =>
    (s.setProcessor { s.processor with replies := rest, pacing := nextPacing s.processor.pacing }).setNotices
      { s.notices with transmitter := some (.reply r), front := none }

/-- R191, R192, 2: a notice begins its transmission: its sent flag becomes yes and its snapshot is taken. -/
def beginNotice (n : NoticeSource) (s : State) : State :=
  let r := s.notices.records.get n
  s.setNotices { s.notices with
    records := s.notices.records.set n { r with sent := true }
    transmitter := some (.notice ⟨s.straps.unit, n, r.level, s.snapshot n⟩)
    front := none }

/-- R192 at a transmit completion: replies before notices, then the best eligible source. -/
def chooseNext (s : State) : State :=
  if s.notices.transmitter.isSome then s
  else if s.processor.replies.isEmpty then
    match s.bestNotice s.eligible with
    | none => s
    | some n => beginNotice n s
  else beginReply s

/-- The ways to begin one of the frames offered (R192). -/
def Offered.begins (o : Offered) : List (State → State) :=
  (if o.reply then [beginReply] else []) ++ o.notices.map beginNotice

/-- R192 when frames become available while the transmitter is idle: one of those offered begins. They became available
together, so that any may be taken first, and with more than one the choice is free (log 13). -/
def offer (o : Offered) (s : State) : State :=
  if s.notices.transmitter.isSome then s
  else
    let d := s.ordered (decide (2 ≤ o.begins.length)) o.begins
    match d.1 with
    | [] => d.2
    | f :: _ => f d.2

/-! ## Taking directives (R172) -/

/-- R172: the taking check. -/
def State.canTake (s : State) : Bool :=
  !s.processor.queue.isEmpty && s.processor.pacing.isNone && s.hasFreePlace && !s.processor.resetWait

/-- A reply now created joins what was offered before: it is created in the same step as the directive it answers acts,
and the manual does not order the two (R172, R192). It does so only where it is the oldest reply, the one that would begin:
a reply that stands before it was created as the directive acted, and was offered then or came after what was offered. -/
def State.offerReply (s : State) : State :=
  s.setNotices { s.notices with
    front := s.notices.front.map fun o => { o with reply := o.reply || decide (s.processor.replies.length = 1) } }

/-- The manual creates the directive's reply after the directive has acted: a RESET with scope ENGINE (R184). -/
def Request.answeredAfter : Request → Bool
  | .reset scope => decide (resetScope? scope = some .engine)
  | _ => false

/-- What is offered when a directive is answered: a SET of NOTICE_MASK changes the eligibility of all sources at once, so
that beside the reply only the best of them is offered (R189, R192). -/
def State.offeredAfter (s : State) (r : Request) : Offered :=
  match r with
  | .set ident _ =>
    if param? ident = some .noticeMask then { s.candidates with notices := (s.bestNotice s.candidates.notices).toList }
    else s.candidates
  | _ => s.candidates

/-- R172: a directive's reply is created, appended and becomes the pacing reply, and the arbiter may begin it. -/
def replyTo (d : Directive) (code : ResultCode) (data : ReplyData) (s : State) : State :=
  let s1 := s.setProcessor { s.processor with pacing := some s.processor.replies.length }
  let answered := s1.appendReply d.tag d.kind code data
  let s2 := if d.request.answeredAfter then answered else answered.offerReply
  offer (s2.offeredAfter d.request) s2

/-- R172: the head of the directive queue is taken: it leaves the queue, is counted, acts, and is answered, unless
its reply is deferred (R79). -/
def takeHead (s : State) : State :=
  match s.processor.queue with
  | [] => s
  | d :: rest =>
    let s1 := s.setProcessor { s.processor with
      queue := rest, counters := { s.processor.counters with taken := bump s.processor.counters.taken } }
    let x := act d s1
    match x.2 with
    | none => x.1
    | some (code, data) => replyTo d code data x.1

/-- R172: the taking check, repeated after each taking, at most as often as given. -/
def takeLoop : Nat → State → State
  | 0, s => s
  | n + 1, s => if s.canTake then takeLoop n (takeHead s) else s

/-- R172: the taking check and the takings it brings about: at most the directives in the queue. -/
def takeAll (s : State) : State := takeLoop s.processor.queue.length s

/-- What ends every step: the frames that became available in it are offered to the arbiter (R192), then the taking
check is made (R172). -/
def settle (s : State) : State := takeAll (offer s.candidates s)

/-! ## Admission (R170) -/

/-- R170: a directive frame of a unit is admitted, answered QUEUE_FULL, or discarded. -/
def admission (unit : Byte) (d : Directive) (s : State) : State :=
  let p := s.processor
  if unit ≠ s.straps.unit.setWidth 8 then
    s.setProcessor { p with counters := { p.counters with wrongUnit := bump p.counters.wrongUnit } }
  else if p.queue.length < Config.directiveQueueLimit then s.setProcessor { p with queue := p.queue ++ [d] }
  else if s.hasFreePlace then
    (s.setProcessor { p with counters := { p.counters with queueFull := bump p.counters.queueFull } }).appendReply
      d.tag d.kind .queueFull .empty
  else s.setProcessor { p with counters := { p.counters with discarded := bump p.counters.discarded } }

/-! ## Reception at the ports (R194) -/

/-- R194, check 1, and the received count: a frame of a length at the M port, handed on if it is not oversize. -/
def receiveM (length : Nat) (f : State → State) (s : State) : State :=
  if Config.frameLimit < length then s.countM fun c => { c with oversize := bump c.oversize }
  else f (s.countM PortCounters.receive)

/-- A directive frame arrives at the M port while RSTN is high (R170, R172, R194). -/
def directiveArrives (unit tag kind : Byte) (length : Nat) (r : Request) (s : State) : State :=
  settle (receiveM length (admission unit ⟨tag, kind, r⟩) s)

/-- R98, R117: the fields of a valve report, where they lie in their lists and range. -/
def valveReport? (r : ReportFrame) : Option ValveReport :=
  match branch? r.branch, polarity? r.polarity, valveOutcome? r.outcome with
  | some b, some p, some o =>
    if o = .fired ∧ ¬(4096 ≤ r.firedAngle.toNat ∧ r.firedAngle.toNat ≤ 8191) then none
    else some ⟨b, p, r.h, o, r.firedAngle.toNat, r.ready.getLsbD 0, r.faultCode⟩
  | _, _, _ => none

/-- R98, R99: a valve report handed on by the V port; its format is checked before the mode (log 18). -/
def receiveReport (r : ReportFrame) (s : State) : State :=
  match valveReport? r with
  | none => s.countV PortCounters.badFormat
  | some v => takeReport v s

/-- R117: a bank status frame handed on by the V port. -/
def receiveBankStatus (bank status code : Byte) (s : State) : State :=
  match index4? bank, bankStatus? status with
  | some n, some st => takeBankStatus n st code s
  | _, _ => s.countV PortCounters.badFormat

end Sys2Proof.Machine
end

