-- ==== Sys2Proof/Machine/Frames.lean ====
section
/-! DEFINITION. Frames as bytes (section 11): the check code, the frames the FL6 sends, and the checks a port makes on
the bytes it receives. -/

namespace Sys2Proof.Machine

/-! ## The check code (R195) -/

/-- One bit of the generator polynomial x^16 + x^12 + x^5 + 1. -/
def crcBit (r : Half) : Half := if r.getLsbD 15 then (r <<< 1) ^^^ 0x1021 else r <<< 1

/-- One byte, most significant bit first. -/
def crcByte (r : Half) (b : Byte) : Half :=
  crcBit (crcBit (crcBit (crcBit (crcBit (crcBit (crcBit (crcBit (r ^^^ (b.setWidth 16 <<< 8)))))))))

/-- R195: the check code of a frame's bytes before the code. -/
def checkCode (bytes : List Byte) : Half := bytes.foldl crcByte 0xFFFF

/-- A two-byte field, most significant byte first (0.7). -/
def halfBytes (w : Half) : List Byte := [w.extractLsb' 8 8, w.extractLsb' 0 8]

/-- The bytes of a frame with its check code behind them (R195). -/
def withCheckCode (bytes : List Byte) : List Byte := bytes ++ halfBytes (checkCode bytes)

/-! ## Field coding (R196) -/

def byteOf (n : Nat) : List Byte := [BitVec.ofNat 8 n]
def halfOf (n : Nat) : List Byte := halfBytes (BitVec.ofNat 16 n)
def signedHalf (x : Int) : List Byte := halfBytes (BitVec.ofInt 16 x)
def signedWord (x : Int) : List Byte :=
  halfBytes ((BitVec.ofInt 32 x).extractLsb' 16 16) ++ halfBytes ((BitVec.ofInt 32 x).extractLsb' 0 16)
/-- A flag: 0 for no, 1 for yes. States of two values are sent so too (log 23). -/
def flagByte (b : Bool) : List Byte := byteOf (if b then 1 else 0)

/-- An unsigned item of one byte, all ones when it is none. -/
def optByte : Option Nat → List Byte
  | none => byteOf 255
  | some n => byteOf n

/-- An unsigned item of two bytes, all ones when it is none. -/
def optHalf : Option Nat → List Byte
  | none => halfOf 65535
  | some n => halfOf n

/-- A signed item of two bytes, −32768 when it is absent. -/
def optSigned : Option Int → List Byte
  | none => signedHalf (-32768)
  | some x => signedHalf x

def perBranch {α : Type} (f : α → List Byte) (p : PerBranch α) : List Byte := f p.ab ++ f p.bc ++ f p.ca

def perFour {α : Type} (f : α → List Byte) (p : Four α) : List Byte := f p.n0 ++ f p.n1 ++ f p.n2 ++ f p.n3

/-- A set of notice sources as a bit field of two bytes. -/
def noticeField (p : PerNotice Bool) : List Byte :=
  halfOf (NoticeSource.all.foldl (fun a n => if p.get n then a + 2 ^ n.number else a) 0)

/-! Codes of names: the position in the list where the field is specified (log 22). -/

def Branch.code : Branch → Nat
  | .ab => 0
  | .bc => 1
  | .ca => 2

def Polarity.code : Polarity → Nat
  | .pos => 0
  | .neg => 1

def Mode.code : Mode → Nat
  | .run => 0
  | .park => 1
  | .quiescent => 2
  | .waking => 3

/-- A waking target or a remembered mode, coded as the mode it names. -/
def Target.modeCode (t : Target) : Nat := t.mode.code

/-- The strap's two names by their places in R179's list, not by the mode codes of R196 (log 23, DESIGN CHOICE). -/
def BootMode.code : BootMode → Nat
  | .park => 0
  | .quiescent => 1

def Frequency.hertz : Frequency → Nat
  | .hz50 => 50
  | .hz60 => 60

def Alignment.code : Alignment → Nat
  | .disabled => 0
  | .seeking => 1
  | .aligned => 2
  | .lost => 3

def TrackerState.code : TrackerState → Nat
  | .unlocked => 0
  | .capturing => 1
  | .locked => 2
  | .holdover => 3

def ReleaseState.code : ReleaseState → Nat
  | .held => 0
  | .qualifying => 1
  | .awaitingReady => 2
  | .released => 3

def DipState.code : DipState → Nat
  | .unarmed => 0
  | .watching => 1
  | .timing => 2
  | .spent => 3

def BlankState.code : BlankState → Nat
  | .idle => 0
  | .pending => 1
  | .active => 2

def BankState.code : BankState → Nat
  | .absent => 0
  | .out => 1
  | .closing => 2
  | .inService => 3
  | .opening => 4
  | .discharging => 5
  | .faulted => 6

def BankAction.code : BankAction → Nat
  | .close => 0
  | .opening => 1

def CaptureMode.code : CaptureMode → Nat
  | .bypass => 0
  | .stream => 1
  | .stopOnFull => 2

def CaptureState.code : CaptureState → Nat
  | .off => 0
  | .running => 1
  | .triggered => 2
  | .frozen => 3

def TableBank.code : TableBank → Nat
  | .active => 0
  | .staged => 1

def ResetScope.code : ResetScope → Nat
  | .engine => 0
  | .full => 1

/-- Table 9-2. -/
def ResultCode.code : ResultCode → Nat
  | .done => 0
  | .queueFull => 1
  | .unknownKind => 2
  | .malformed => 3
  | .range => 4
  | .wrongMode => 5
  | .busy => 6
  | .notMonotonic => 7
  | .unmapped => 8
  | .aborted => 9
  | .ignored => 10

/-- R165: an aux number, 4 for DIRECTIVE, 255 for none. The manual gives this code for the CAPTURE_READ reply; that the
COUNTERS reply of group CAPTURE (R167) and the CAPTURE notice (Table 10-3) carry the trigger source so too is the model's
choice (log 23, DESIGN CHOICE). -/
def triggerCode : Option TriggerSource → Nat
  | none => 255
  | some .directive => 4
  | some (.aux n) => Index4.toNat n

/-! ## V-port frames sent (Table 11-5) -/

def VFrame.bytes : VFrame → List Byte
  | .order o =>
    withCheckCode (byteOf 0xC1 ++ byteOf o.branch.code ++ byteOf o.polarity.code ++ [o.h] ++ halfOf o.angle ++
      [o.flags.byte])
  | .bank n a => withCheckCode (byteOf 0xC2 ++ byteOf (Index4.toNat n) ++ byteOf a.code)

/-! ## Reply data (R174, R196; orders the manual leaves open, the coding of IDENTIFY's revision and of an expired dwell
timer, the width of the part code, the code of BOOT, the trigger source outside CAPTURE_READ, and states of two values sent
as flags: log 23) -/

/-- Table 11-6. -/
def CaptureRecord.bytes (r : CaptureRecord) : List Byte :=
  byteOf (r.branch.code + 4 * r.polarity.code + 8 * r.release.code) ++ [r.h] ++ halfOf r.crossingTag.toNat ++
    optHalf r.demand ++ optSigned r.raw ++ optSigned r.load ++ signedHalf r.trim ++ signedHalf r.carry ++
    [r.flags.byte] ++ halfOf r.angle

/-- R142: the trip record, the first VALVE cause with branch, h, polarity, kind (unordered firing 0, fault 1) and
fault code. -/
def TripRecord.bytes (t : TripRecord) : List Byte :=
  [t.gap.setByte, t.report.setByte, t.misfire.setByte] ++ flagByte t.valve.isSome ++
    optByte (t.valve.map fun c => c.branch.code) ++ optByte (t.valve.map fun c => c.h.toNat) ++
    optByte (t.valve.map fun c => c.polarity.code) ++
    optByte (t.valve.map fun c => if c.fault.isSome then 1 else 0) ++
    optByte ((t.valve.bind ValveCause.fault).map BitVec.toNat) ++ byteOf t.valveCount

/-- Resume pending with the remembered mode. -/
def resumeBytes (r : Option Target) : List Byte := flagByte r.isSome ++ optByte (r.map Target.modeCode)

/-- A record's debounced state and block latch. Whether a state of two values is a flag or a name coded by its place
(active 0, inactive 1) is left open: it is a flag here, 1 for active and for a set latch (log 23, DESIGN CHOICE). -/
def AuxReport.bytes (r : AuxReport) : List Byte := flagByte r.active ++ flagByte r.blockLatch

def TrackerReport.bytes (r : TrackerReport) : List Byte := byteOf r.state.code ++ [r.h]

/-- Table 9-4. -/
def StatusReport.bytes (r : StatusReport) : List Byte :=
  byteOf r.mode.code ++ optByte (r.wakingTarget.map Target.modeCode) ++ byteOf r.wakingCount ++
    byteOf r.release.code ++ byteOf r.qualifyCount ++ flagByte r.supplyValid ++ flagByte r.dip ++
    byteOf r.dipState.code ++ resumeBytes r.resume ++ r.trips.bytes ++ flagByte r.directedBlock ++
    perFour AuxReport.bytes r.aux ++ byteOf r.blankState.code ++ byteOf r.blankCount ++ flagByte r.valveReady ++
    perBranch (fun x => x) (.ofFn fun b => (r.trackers.get b).bytes ++ halfOf (r.magnitudes.get b)) ++
    perFour (fun x => byteOf x.state.code ++ flagByte x.counted ++ optByte (x.faultCode.map BitVec.toNat)) r.banks ++
    halfOf r.bBank ++ byteOf (r.dwell.getD 0) ++ flagByte r.commitPending ++ byteOf r.captureState.code ++
    noticeField r.notices ++ byteOf r.queuedDirectives ++ byteOf r.heldReplies ++ flagByte r.reservedSlot

def SourceReport.bytes (r : SourceReport) : List Byte :=
  halfOf r.counters.accepted ++ halfOf r.counters.late ++ halfOf r.counters.duplicate ++
    halfOf r.counters.testDiscarded ++ halfOf r.counters.miss ++ byteOf r.alignment.code ++ byteOf r.missRun

def AssemblyCounters.bytes (c : AssemblyCounters) : List Byte :=
  halfOf c.released ++ halfOf c.voids ++ halfOf c.forced ++ halfOf c.discontinuity ++ halfOf c.streamLoss

/-- R68: a branch's counters. -/
def DemandCounters.bytes (c : DemandCounters) : List Byte :=
  halfOf c.formed ++ halfOf c.notFormed ++ halfOf c.clampHigh ++ halfOf c.clampLow ++ halfOf c.load2Omitted

/-- R68: what a branch reports besides its counters. -/
def DemandReport.stateBytes (r : DemandReport) : List Byte :=
  byteOf r.gapCount ++ signedHalf r.clamp ++ signedHalf r.carry ++ signedHalf r.trim

def TableCounters.bytes (c : TableCounters) : List Byte :=
  halfOf c.immediate ++ halfOf c.crossing ++ halfOf c.drop ++ halfOf c.aborted ++ halfOf c.notMonotonic

/-- R110: a branch's counters. -/
def ExchangeCounters.bytes (c : ExchangeCounters) : List Byte :=
  halfOf c.queued ++ halfOf c.missed ++ halfOf c.late ++ halfOf c.sent ++ halfOf c.timeout ++ halfOf c.matched ++
    halfOf c.stray ++ halfOf c.correct ++ halfOf c.misfire ++ halfOf c.valve

/-- R110: a branch's readiness and runs. -/
def ExchangeReport.stateBytes (r : ExchangeReport) : List Byte :=
  flagByte r.ready ++ byteOf r.timeoutRun ++ byteOf r.misfireRun

def QueueCounters.bytes (c : QueueCounters) : List Byte :=
  halfOf c.rewritten ++ halfOf c.bankQueued ++ halfOf c.bankSent ++ halfOf c.bankRefused

/-- Table 6-5: a bank's counters. -/
def BankCounters.bytes (c : BankCounters) : List Byte :=
  halfOf c.closeConfirmed ++ halfOf c.openConfirmed ++ halfOf c.failed ++ halfOf c.timeout ++ halfOf c.unsolicited ++
    halfOf c.contrary ++ halfOf c.agreeing

/-- R128: what a bank reports besides its counters. -/
def BankReport.stateBytes (r : BankReport) : List Byte := byteOf r.state.code ++ halfOf r.susceptance

def BankTotals.bytes (c : BankTotals) : List Byte :=
  halfOf c.stray ++ halfOf c.autoClose ++ halfOf c.autoOpen ++ halfOf c.forced

def ControlCounters.bytes (c : ControlCounters) : List Byte :=
  halfOf c.releaseGained ++ halfOf c.releaseLost ++ halfOf c.qualifyRestart ++ halfOf c.dipInterruption ++
    halfOf c.streamInterruption ++ halfOf c.recoveries ++ halfOf c.gapCauses ++ halfOf c.reportCauses ++
    halfOf c.valveCauses ++ halfOf c.misfireCauses ++ halfOf c.blankingPulses ++ halfOf c.ignoredEdges ++
    perFour halfOf c.activeEdges

def DirectiveCounters.bytes (c : DirectiveCounters) : List Byte :=
  halfOf c.taken ++ halfOf c.wrongUnit ++ halfOf c.queueFull ++ halfOf c.discarded ++ halfOf c.unknownKind ++
    halfOf c.malformed

/-- R194: the M port's counters, then the V port's, which has no unsolicited counter. -/
def Ports.bytes (p : Ports) : List Byte :=
  halfOf p.m.received ++ halfOf p.m.checkFailure ++ halfOf p.m.unknownKind ++ halfOf p.m.oversize ++
    halfOf p.m.formatError ++ halfOf p.m.unsolicited ++ halfOf p.m.sent ++ halfOf p.v.received ++
    halfOf p.v.checkFailure ++ halfOf p.v.unknownKind ++ halfOf p.v.oversize ++ halfOf p.v.formatError ++
    halfOf p.v.sent

/-- The data of a COUNTERS reply in the order the owner's rule lists them (R196): first the counters as its table lists
them, then what it says is also reported (R23, R68, R86, R110, R128, R155, R167, R183, R194). The trigger source of group
CAPTURE has the code of R165 (log 23, DESIGN CHOICE). -/
def CounterReport.bytes : CounterReport → List Byte
  | .assembly sources counters => perFour SourceReport.bytes sources ++ counters.bytes
  | .tracking spurious => perBranch halfOf spurious
  | .demand branches =>
    perBranch (fun r => r.counters.bytes) branches ++ perBranch DemandReport.stateBytes branches
  | .tables counters pending => counters.bytes ++ flagByte pending
  | .exchange branches counters queued =>
    perBranch (fun r => r.counters.bytes) branches ++ counters.bytes ++ byteOf queued ++
      perBranch (fun r => byteOf r.outstanding) branches ++ perBranch ExchangeReport.stateBytes branches
  | .banks four counters bBank =>
    perFour (fun r => r.counters.bytes) four ++ counters.bytes ++ perFour BankReport.stateBytes four ++ halfOf bBank
  | .control counters => counters.bytes
  | .capture counters m state post postCount trigger held =>
    halfOf counters.accepted ++ halfOf counters.overwritten ++ halfOf counters.refused ++ byteOf m.code ++
      byteOf state.code ++ halfOf post ++ halfOf postCount ++ byteOf (triggerCode trigger) ++ halfOf held
  | .directives counters queued replies reserved =>
    counters.bytes ++ byteOf queued ++ byteOf replies ++ flagByte reserved
  | .ports both => both.bytes

/-- R83: the completion, with the h of the completing event for AB_CROSSING. -/
def Completion.bytes : Completion → List Byte
  | .immediate => byteOf 0
  | .abCrossing h => byteOf 1 ++ [h]
  | .releaseDrop => byteOf 2

/-- R181: the h and the sets elapsed of a branch. -/
def StampReport.bytes (r : StampReport) : List Byte := [r.h] ++ optHalf r.elapsed

/-- R189: a source's four fields. The status, set or clear, is sent as a flag, 1 for set (log 23, DESIGN CHOICE). -/
def NoticeRec.bytes (r : NoticeRec) : List Byte :=
  flagByte r.status ++ flagByte r.enable ++ byteOf r.level ++ flagByte r.sent

/-- The vendor code, part code and revision of R179. The manual gives the part code 0x0F6 no range, by which R196 would
give it one byte or two: it is two bytes here, and the revision is the byte 0x42 (log 23, DESIGN CHOICE, unsafe). -/
def identityBytes : List Byte := halfOf 0x4A6B ++ halfOf 0x0F6 ++ byteOf 0x42

/-- The result data of a reply as bytes. The directed block flag, set or clear, and the reserved slot, held or
not, are sent as flags, 1 for set and for held (log 23, DESIGN CHOICE). -/
def ReplyData.bytes : ReplyData → List Byte
  | .empty => []
  | .identify straps =>
    identityBytes ++ byteOf straps.fsel.hertz ++ byteOf straps.unit.toNat ++ byteOf straps.boot.code
  | .status report => report.bytes
  | .counters group clear report => [group] ++ flagByte clear ++ report.bytes
  | .stamp lastReleased expected branches ticks =>
    optHalf (lastReleased.map BitVec.toNat) ++ optHalf (expected.map BitVec.toNat) ++
      perBranch StampReport.bytes branches ++ halfBytes ticks
  | .get ident value parkedOnly => [ident] ++ signedWord value ++ flagByte parkedOnly
  | .set ident before after => [ident] ++ signedWord before ++ signedWord after
  | .bankSet bBank => halfOf bBank
  | .bankForce bank state => byteOf (Index4.toNat bank) ++ byteOf state.code
  | .tableWrite start count => halfOf start ++ byteOf count
  | .tableRead bank start count entries pending =>
    byteOf bank.code ++ halfOf start ++ byteOf count ++ entries.flatMap halfOf ++ flagByte pending
  | .commit completion => completion.bytes
  | .notMonotonic index => halfOf index
  | .mode m target => byteOf m.code ++ optByte (target.map Target.modeCode)
  | .block directed release => flagByte directed ++ byteOf release.code
  | .captureSet m post state => byteOf m.code ++ halfOf post ++ byteOf state.code
  | .captureTrigger state => byteOf state.code
  | .captureRead remaining state postCount trigger records =>
    byteOf records.length ++ halfOf remaining ++ byteOf state.code ++ halfOf postCount ++
      byteOf (triggerCode trigger) ++ records.flatMap CaptureRecord.bytes
  | .captureFlush discarded state => halfOf discarded ++ byteOf state.code
  | .noticeSet record => record.bytes
  | .noticeClear cleared => noticeField cleared
  | .reset scope => byteOf scope.code

/-- Table 10-3: a snapshot as bytes. The trigger source of CAPTURE has the code of R165 (log 23, DESIGN CHOICE). -/
def Snapshot.bytes : Snapshot → List Byte
  | .trip record => record.bytes
  | .release state qualifyCount valveReady m =>
    byteOf state.code ++ byteOf qualifyCount ++ flagByte valveReady ++ byteOf m.code
  | .tracker three => perBranch TrackerReport.bytes three
  | .stream expected streamLoss discontinuity =>
    optHalf (expected.map BitVec.toNat) ++ halfOf streamLoss ++ halfOf discontinuity
  | .source alignments => perFour (fun a => byteOf (Alignment.code a)) alignments
  | .dip state supplyValid dipNow resume =>
    byteOf state.code ++ flagByte supplyValid ++ flagByte dipNow ++ resumeBytes resume
  | .bankFault states faultCodes =>
    perFour (fun x => x)
      (.ofFn fun n => byteOf (states.get n).code ++ optByte ((faultCodes.get n).map BitVec.toNat))
  | .bankChange states bBank => perFour (fun x => byteOf (BankState.code x)) states ++ halfOf bBank
  | .mode m target => byteOf m.code ++ optByte (target.map Target.modeCode)
  | .aux records blank => perFour AuxReport.bytes records ++ byteOf blank.code
  | .capture state held postCount trigger =>
    byteOf state.code ++ halfOf held ++ halfOf postCount ++ byteOf (triggerCode trigger)
  | .clamp counters => perBranch signedHalf counters

/-- Table 11-4. -/
def Reply.bytes (r : Reply) : List Byte :=
  withCheckCode (byteOf 0xB1 ++ byteOf r.unit.toNat ++ [r.tag, r.kind] ++ byteOf r.result.code ++
    byteOf r.data.bytes.length ++ r.data.bytes)

/-- Table 11-4. -/
def Notice.bytes (n : Notice) : List Byte :=
  withCheckCode (byteOf 0xB2 ++ byteOf n.unit.toNat ++ byteOf n.source.number ++ byteOf n.level ++
    byteOf n.snapshot.bytes.length ++ n.snapshot.bytes)

/-- The bytes of a frame of the M transmitter. -/
def MFrame.bytes : MFrame → List Byte
  | .reply r => r.bytes
  | .notice n => n.bytes

/-! ## Frames received as bytes (R194) -/

/-- What the port's checks make of a frame. -/
inductive PortVerdict where
  | oversize | checkFailure | unknownKind | formatError | passed
  deriving DecidableEq, Repr

/-- R194, check 2: the last two bytes are the check code of those before them. -/
def checkCodeHolds (bytes : List Byte) : Bool :=
  decide (bytes.drop (bytes.length - 2) = halfBytes (checkCode (bytes.take (bytes.length - 2))))

/-- R194, check 4: the length Table 11-1 gives for an inbound kind of a port, from the frame's count field; the outer
none for a kind that is no inbound kind of the port, the inner none where the frame has no count field. -/
def requiredLength (port : Port) (bytes : List Byte) : Option (Option Nat) :=
  match port, (bytes.headD 0).toNat with
  | .m, 0xA1 => some ((bytes[5]?).map fun c => 8 + 2 * c.toNat)
  | .m, 0xA2 => some ((bytes[4]?).map fun c => 7 + c.toNat)
  | .v, 0xD1 => some (some 11)
  | .v, 0xD2 => some (some 6)
  | _, _ => none

/-- R194: the checks in order; the first that fails decides. -/
def portVerdict (port : Port) (bytes : List Byte) : PortVerdict :=
  if Config.frameLimit < bytes.length then .oversize
  else if bytes.length < 3 ∨ checkCodeHolds bytes = false then .checkFailure
  else
    match requiredLength port bytes with
    | none => .unknownKind
    | some n => if n = some bytes.length then .passed else .formatError

/-- R194: the counter a verdict increases. -/
def PortCounters.count (c : PortCounters) : PortVerdict → PortCounters
  | .oversize => { c with oversize := bump c.oversize }
  | .checkFailure => { c with checkFailure := bump c.checkFailure }
  | .unknownKind => { c with unknownKind := bump c.unknownKind }
  | .formatError => c.badFormat
  | .passed => c.receive

/-- The sample frame in bytes that passed the port's checks (Table 11-2). -/
def sampleOf (bytes : List Byte) : SampleFrame :=
  ⟨bytes.getD 1 0, half (bytes.getD 2 0) (bytes.getD 3 0), bytes.getD 4 0,
    halves ((bytes.drop 6).take (2 * (bytes.getD 5 0).toNat))⟩

/-- The operand bytes of a directive frame that passed the port's checks (Table 11-3). -/
def operandsOf (bytes : List Byte) : List Byte := (bytes.drop 5).take (bytes.getD 4 0).toNat

/-- The valve report in bytes that passed the port's checks (Table 11-5). -/
def reportOf (bytes : List Byte) : ReportFrame :=
  ⟨bytes.getD 1 0, bytes.getD 2 0, bytes.getD 3 0, bytes.getD 4 0, half (bytes.getD 5 0) (bytes.getD 6 0),
    bytes.getD 7 0, bytes.getD 8 0⟩

/-- R194: a frame that passed is handed on by its kind. -/
def handOn (port : Port) (bytes : List Byte) (s : State) : State :=
  match port, (bytes.headD 0).toNat with
  | .m, 0xA1 => takeSample (sampleOf bytes) s
  | .m, 0xA2 =>
    admission (bytes.getD 1 0) ⟨bytes.getD 2 0, bytes.getD 3 0, decodeRequest (bytes.getD 3 0) (operandsOf bytes)⟩ s
  | .v, 0xD1 => receiveReport (reportOf bytes) s
  | .v, 0xD2 => receiveBankStatus (bytes.getD 1 0) (bytes.getD 2 0) (bytes.getD 3 0) s
  | _, _ => s

/-- Update the counters of a port. -/
def State.countPort (s : State) (port : Port) (f : PortCounters → PortCounters) : State :=
  match port with
  | .m => s.countM f
  | .v => s.countV f

/-- R194: a frame arrives as bytes: it is checked and counted, and handed on if it passed (log 26). -/
def receiveBytes (port : Port) (bytes : List Byte) (s : State) : State :=
  let v := portVerdict port bytes
  let s' := s.countPort port fun c => c.count v
  if v = .passed then handOn port bytes s' else s'

end Sys2Proof.Machine
end

