-- ==== Sys2Proof/Machine/Arrivals.lean ====
section
/-! DEFINITION. What a frame's arrival at a port and the completion of a frame sent do: the commands of the measurement
units, the valve controller and the line. -/

namespace Sys2Proof.Machine

/-- SAMPLE_FRAME (R5, R194). -/
def execSampleFrame (frame : SampleFrame) (s : State) : Host.Outcome State Fault Refusal :=
  whileReleased s fun s => settle (receiveM (8 + 2 * frame.channels.length) (takeSample frame) s)

/-- VALVE_REPORT (R98, R99, R194). -/
def execValveReport (report : ReportFrame) (s : State) : Host.Outcome State Fault Refusal :=
  whileReleased s fun s => settle (receiveReport report (s.countV PortCounters.receive))

/-- BANK_STATUS_FRAME (R117, R194). -/
def execBankStatusFrame (bank status faultCode : Byte) (s : State) : Host.Outcome State Fault Refusal :=
  whileReleased s fun s => settle (receiveBankStatus bank status faultCode (s.countV PortCounters.receive))

/-- V_TRANSMIT_COMPLETION (R94). -/
def execVTransmitCompletion (s : State) : Host.Outcome State Fault Refusal :=
  whileReleased s fun s => settle (completeV s)

/-- DIRECTIVE_FRAME (R170, R172, R194). -/
def execDirectiveFrame (unit tag kind : Byte) (operands : List Byte) (s : State) : Host.Outcome State Fault Refusal :=
  whileReleased s (directiveArrives unit tag kind (7 + operands.length) (decodeRequest kind operands))

/-- FRAME_REJECTED (R194, R195). -/
def execFrameRejected (port : Port) (bytes : List Byte) (s : State) : Host.Outcome State Fault Refusal :=
  whileReleased s fun s => settle (receiveBytes port bytes s)

/-- R186: the frame is the reply that the reset wait awaits. -/
def awaitedReply (s : State) (f : MFrame) : Bool :=
  match f with
  | .notice _ => false
  | .reply r => s.processor.resetWait && decide (r.result = .done) && decide (r.data = .reset .full)

/-- R192: the M transmitter completes its frame and the arbiter chooses again, followed by the taking check (R172);
at the completion of a RESET FULL reply the reset acts instead (R186). An idle transmitter has nothing to complete
(log 24). -/
def completeM (s : State) : State :=
  match s.notices.transmitter with
  | none => s
  | some f =>
    let s1 := (s.setNotices { s.notices with transmitter := none }).countM fun c => { c with sent := bump c.sent }
    if awaitedReply s f then fullReset s1 else takeAll (chooseNext s1)

/-- M_TRANSMIT_COMPLETION (R192). -/
def execMTransmitCompletion (s : State) : Host.Outcome State Fault Refusal := whileReleased s completeM

end Sys2Proof.Machine
end

