-- ==== Sys2Proof/Machine/DirectiveRows.lean ====
section
/-! DEFINITION. The directive rows: each is the arrival of that directive's frame at the M port, with its kind byte and
length (Table 11-3), admitted by R170 and taken by R172 (log 2). -/

namespace Sys2Proof.Machine

/-- IDENTIFY (R179). -/
def execIdentify (unit tag : Byte) (s : State) : Host.Outcome State Fault Refusal :=
  whileReleased s (directiveArrives unit tag 1 7 .identify)

/-- STATUS (R180). -/
def execStatus (unit tag : Byte) (s : State) : Host.Outcome State Fault Refusal :=
  whileReleased s (directiveArrives unit tag 2 7 .status)

/-- COUNTERS (R182). -/
def execCounters (unit tag group clear : Byte) (s : State) : Host.Outcome State Fault Refusal :=
  whileReleased s (directiveArrives unit tag 3 9 (.counters group clear))

/-- STAMP (R181). -/
def execStamp (unit tag : Byte) (s : State) : Host.Outcome State Fault Refusal :=
  whileReleased s (directiveArrives unit tag 4 7 .stamp)

/-- GET (R178). -/
def execGet (unit tag ident : Byte) (s : State) : Host.Outcome State Fault Refusal :=
  whileReleased s (directiveArrives unit tag 5 8 (.get ident))

/-- SET (R177). -/
def execSet (unit tag ident : Byte) (value : Word) (s : State) : Host.Outcome State Fault Refusal :=
  whileReleased s (directiveArrives unit tag 6 12 (.set ident value))

/-- MAP_SET (R3). -/
def execMapSet (unit tag quantity source channel : Byte) (s : State) : Host.Outcome State Fault Refusal :=
  whileReleased s (directiveArrives unit tag 7 10 (.mapSet quantity source channel))

/-- SOURCE_SET (R1). -/
def execSourceSet (unit tag source enabled policy holdLimit missLimit : Byte) (s : State) :
    Host.Outcome State Fault Refusal :=
  whileReleased s (directiveArrives unit tag 8 12 (.sourceSet source enabled policy holdLimit missLimit))

/-- AUX_SET (R151). -/
def execAuxSet (unit tag aux polarity kind debounce actions delay width : Byte) (s : State) :
    Host.Outcome State Fault Refusal :=
  whileReleased s (directiveArrives unit tag 9 14 (.auxSet aux polarity kind debounce actions delay width))

/-- BANK_SET (R127). -/
def execBankSet (unit tag bank present : Byte) (susceptance : Half) (state : Byte) (s : State) :
    Host.Outcome State Fault Refusal :=
  whileReleased s (directiveArrives unit tag 10 12 (.bankSet bank present susceptance state))

/-- BANK_FORCE (R126). -/
def execBankForce (unit tag bank action : Byte) (s : State) : Host.Outcome State Fault Refusal :=
  whileReleased s (directiveArrives unit tag 11 9 (.bankForce bank action))

/-- TABLE_WRITE (R73). -/
def execTableWrite (unit tag : Byte) (start : Half) (n fill : Byte) (values : List Half) (s : State) :
    Host.Outcome State Fault Refusal :=
  whileReleased s (directiveArrives unit tag 12 (11 + 2 * values.length)
      (tableWriteRequest start n fill (2 * values.length) values))

/-- TABLE_READ (R74). -/
def execTableRead (unit tag bank : Byte) (start : Half) (n : Byte) (s : State) : Host.Outcome State Fault Refusal :=
  whileReleased s (directiveArrives unit tag 13 11 (.tableRead bank start n))

/-- TABLE_COPY (R75). -/
def execTableCopy (unit tag : Byte) (s : State) : Host.Outcome State Fault Refusal :=
  whileReleased s (directiveArrives unit tag 14 7 .tableCopy)

/-- TABLE_COMMIT (R77, R78, R79). -/
def execTableCommit (unit tag : Byte) (s : State) : Host.Outcome State Fault Refusal :=
  whileReleased s (directiveArrives unit tag commitKind 7 .tableCommit)

/-- MODE (R132). -/
def execMode (unit tag operand : Byte) (s : State) : Host.Outcome State Fault Refusal :=
  whileReleased s (directiveArrives unit tag 16 8 (.mode operand))

/-- BLOCK (R144). -/
def execBlock (unit tag operand : Byte) (s : State) : Host.Outcome State Fault Refusal :=
  whileReleased s (directiveArrives unit tag 17 8 (.block operand))

/-- TRIP_CLEAR (R143). -/
def execTripClear (unit tag : Byte) (s : State) : Host.Outcome State Fault Refusal :=
  whileReleased s (directiveArrives unit tag 18 7 .tripClear)

/-- CAPTURE_SET (R164). -/
def execCaptureSet (unit tag mode : Byte) (post : Half) (s : State) : Host.Outcome State Fault Refusal :=
  whileReleased s (directiveArrives unit tag 19 10 (.captureSet mode post))

/-- CAPTURE_TRIGGER (R163). -/
def execCaptureTrigger (unit tag : Byte) (s : State) : Host.Outcome State Fault Refusal :=
  whileReleased s (directiveArrives unit tag 20 7 .captureTrigger)

/-- CAPTURE_READ (R165). -/
def execCaptureRead (unit tag n : Byte) (s : State) : Host.Outcome State Fault Refusal :=
  whileReleased s (directiveArrives unit tag 21 8 (.captureRead n))

/-- CAPTURE_FLUSH (R166). -/
def execCaptureFlush (unit tag : Byte) (s : State) : Host.Outcome State Fault Refusal :=
  whileReleased s (directiveArrives unit tag 22 7 .captureFlush)

/-- NOTICE_SET (R189). -/
def execNoticeSet (unit tag source enable level : Byte) (s : State) : Host.Outcome State Fault Refusal :=
  whileReleased s (directiveArrives unit tag 23 10 (.noticeSet source enable level))

/-- NOTICE_CLEAR (R190). -/
def execNoticeClear (unit tag : Byte) (sources : Half) (s : State) : Host.Outcome State Fault Refusal :=
  whileReleased s (directiveArrives unit tag 24 9 (.noticeClear sources))

/-- RESET with scope ENGINE (R184, R185). -/
def execResetEngine (unit tag : Byte) (s : State) : Host.Outcome State Fault Refusal :=
  whileReleased s (directiveArrives unit tag 25 8 (.reset 0))

/-- RESET with scope FULL (R184, R186). -/
def execResetFull (unit tag : Byte) (s : State) : Host.Outcome State Fault Refusal :=
  whileReleased s (directiveArrives unit tag 25 8 (.reset 1))

end Sys2Proof.Machine
end

