-- ==== Sys2Proof/Machine/Resets.lean ====
section
/-! DEFINITION. The reset line (R197). -/

namespace Sys2Proof.Machine

/-- POWER_ON_RESET (R197): RSTN is asserted. The straps are latched again when RSTN returns high; until then those
latched last stand (log 5). Frames in transmission are cut short, so both transmitters are idle. -/
def execPowerOnReset (s : State) : Host.Outcome State Fault Refusal :=
  .next (State.powerOn s.straps false s.pending s.freeCount)

/-- The straps that the line levels give (Table 11-7). -/
def strapsOf (fsel : Bool) (unit : BitVec 4) (boot : Bool) : Straps :=
  ⟨if fsel then .hz60 else .hz50, unit, if boot then .quiescent else .park⟩

/-- RSTN_RELEASE (R197): RSTN returns high and the straps are latched; a high line has no return (log 5). -/
def execRstnRelease (fsel : Bool) (unit : BitVec 4) (boot : Bool) (s : State) : Host.Outcome State Fault Refusal :=
  if s.rstn then .next s else .next (State.powerOn (strapsOf fsel unit boot) true s.pending s.freeCount)

end Sys2Proof.Machine
end

