-- ==== Sys2Proof/Machine/Timers.lean ====
section
/-! DEFINITION. What the FL6's own time base does: the local sample period, the local tick and the expiries (log 3,
log 4). -/

namespace Sys2Proof.Machine

/-- LOCAL_SAMPLE_PERIOD (R21). -/
def execLocalSamplePeriod (s : State) : Host.Outcome State Fault Refusal :=
  whileReleased s fun s => settle (endSamplePeriod s)

/-- R22, for an armed timer; an unarmed one cannot expire (log 3). -/
def silenceExpires (s : State) : State :=
  match s.asm.silence with
  | none => s
  | some _ => expireSilence s

/-- SILENCE_TIMER_EXPIRY (R22). -/
def execSilenceTimerExpiry (s : State) : Host.Outcome State Fault Refusal :=
  whileReleased s fun s => settle (silenceExpires s)

/-- R181: the local tick count. -/
def countTick (s : State) : State := s.setProcessor { s.processor with ticks := s.processor.ticks + 1 }

/-- At this tick the blanking pulse would end release while it is RELEASED, which automatic switching reads (R125,
R154; log 12). -/
def State.tickContended (s : State) : Bool :=
  decide (s.control.blanking.state = .pending) && decide (s.control.blanking.count ≤ 1) &&
    decide (s.control.release = .released)

/-- R121, R137, R154, R181: a local tick. -/
def localTick (s : State) : State :=
  let s1 := tickDip (countTick s)
  s1.inTurn s1.tickContended [tickBlanking, tickBanks]

/-- LOCAL_TICK (R121). -/
def execLocalTick (s : State) : Host.Outcome State Fault Refusal := whileReleased s fun s => settle (localTick s)

/-- R122, for a bank whose confirmation timer runs (log 3). -/
def confirmationExpiresAt (s : State) (n : Index4) : State :=
  if (s.bankRec n).state.transitional && (s.bankRec n).confirmTimer.isSome then expireConfirmation n s else s

/-- CONFIRMATION_TIMER_EXPIRY (R122). -/
def execConfirmationTimerExpiry (s : State) : Host.Outcome State Fault Refusal :=
  whileReleased s fun s => settle (Index4.all.foldl confirmationExpiresAt s)

/-- R123, for a bank in DISCHARGING (log 3). -/
def dischargeExpires (n : Index4) (s : State) : State :=
  if (s.bankRec n).state = .discharging then expireDischarge n s else s

/-- DISCHARGE_TIMER_EXPIRY (R123). -/
def execDischargeTimerExpiry (bank : Index4) (s : State) : Host.Outcome State Fault Refusal :=
  whileReleased s fun s => settle (dischargeExpires bank s)

/-- DWELL_TIMER_EXPIRY (R124). -/
def execDwellTimerExpiry (s : State) : Host.Outcome State Fault Refusal :=
  whileReleased s fun s => settle (expireDwell s)

/-- R137, in TIMING (log 3). -/
def dipToleranceExpires (s : State) : State := if s.control.dipState = .timing then dipInterruption s else s

/-- DIP_TOLERANCE_EXPIRY (R137). -/
def execDipToleranceExpiry (s : State) : Host.Outcome State Fault Refusal :=
  whileReleased s fun s => settle (dipToleranceExpires s)

/-- R154, in PENDING (log 3). -/
def blankingDelayExpires (s : State) : State :=
  if s.control.blanking.state = .pending then activateBlanking s.control.blanking.width s else s

/-- BLANKING_DELAY_EXPIRY (R154). -/
def execBlankingDelayExpiry (s : State) : Host.Outcome State Fault Refusal :=
  whileReleased s fun s => settle (blankingDelayExpires s)

/-- R154, in ACTIVE (log 3). -/
def blankingPulseEnds (s : State) : State := if s.control.blanking.state = .active then endBlanking s else s

/-- BLANKING_PULSE_END (R154). -/
def execBlankingPulseEnd (s : State) : Host.Outcome State Fault Refusal :=
  whileReleased s fun s => settle (blankingPulseEnds s)

end Sys2Proof.Machine
end

