-- ==== Sys2Proof/Machine/Dispatch.lean ====
section
/-! DEFINITION. The meaning of every command, one arm per constructor of Instr. -/

namespace Sys2Proof.Machine

def exec (i : Instr) (s : State) : Host.Outcome State Fault Refusal :=
  match i with
  | .sampleFrame frame => Sys2Proof.Machine.execSampleFrame frame s
  | .localSamplePeriod => Sys2Proof.Machine.execLocalSamplePeriod s
  | .silenceTimerExpiry => Sys2Proof.Machine.execSilenceTimerExpiry s
  | .localTick => Sys2Proof.Machine.execLocalTick s
  | .confirmationTimerExpiry => Sys2Proof.Machine.execConfirmationTimerExpiry s
  | .dischargeTimerExpiry bank => Sys2Proof.Machine.execDischargeTimerExpiry bank s
  | .dwellTimerExpiry => Sys2Proof.Machine.execDwellTimerExpiry s
  | .dipToleranceExpiry => Sys2Proof.Machine.execDipToleranceExpiry s
  | .blankingDelayExpiry => Sys2Proof.Machine.execBlankingDelayExpiry s
  | .blankingPulseEnd => Sys2Proof.Machine.execBlankingPulseEnd s
  | .valveReport report => Sys2Proof.Machine.execValveReport report s
  | .bankStatusFrame bank status faultCode => Sys2Proof.Machine.execBankStatusFrame bank status faultCode s
  | .vTransmitCompletion => Sys2Proof.Machine.execVTransmitCompletion s
  | .directiveFrame unit tag kind operands => Sys2Proof.Machine.execDirectiveFrame unit tag kind operands s
  | .frameRejected port bytes => Sys2Proof.Machine.execFrameRejected port bytes s
  | .mTransmitCompletion => Sys2Proof.Machine.execMTransmitCompletion s
  | .identify unit tag => Sys2Proof.Machine.execIdentify unit tag s
  | .status unit tag => Sys2Proof.Machine.execStatus unit tag s
  | .counters unit tag group clear => Sys2Proof.Machine.execCounters unit tag group clear s
  | .stamp unit tag => Sys2Proof.Machine.execStamp unit tag s
  | .get unit tag ident => Sys2Proof.Machine.execGet unit tag ident s
  | .set unit tag ident value => Sys2Proof.Machine.execSet unit tag ident value s
  | .mapSet unit tag quantity source channel => Sys2Proof.Machine.execMapSet unit tag quantity source channel s
  | .sourceSet unit tag source enabled policy holdLimit missLimit => Sys2Proof.Machine.execSourceSet unit tag source enabled policy holdLimit missLimit s
  | .auxSet unit tag aux polarity kind debounce actions delay width => Sys2Proof.Machine.execAuxSet unit tag aux polarity kind debounce actions delay width s
  | .bankSet unit tag bank present susceptance state => Sys2Proof.Machine.execBankSet unit tag bank present susceptance state s
  | .bankForce unit tag bank action => Sys2Proof.Machine.execBankForce unit tag bank action s
  | .tableWrite unit tag start n fill values => Sys2Proof.Machine.execTableWrite unit tag start n fill values s
  | .tableRead unit tag bank start n => Sys2Proof.Machine.execTableRead unit tag bank start n s
  | .tableCopy unit tag => Sys2Proof.Machine.execTableCopy unit tag s
  | .tableCommit unit tag => Sys2Proof.Machine.execTableCommit unit tag s
  | .mode unit tag operand => Sys2Proof.Machine.execMode unit tag operand s
  | .block unit tag operand => Sys2Proof.Machine.execBlock unit tag operand s
  | .tripClear unit tag => Sys2Proof.Machine.execTripClear unit tag s
  | .captureSet unit tag mode post => Sys2Proof.Machine.execCaptureSet unit tag mode post s
  | .captureTrigger unit tag => Sys2Proof.Machine.execCaptureTrigger unit tag s
  | .captureRead unit tag n => Sys2Proof.Machine.execCaptureRead unit tag n s
  | .captureFlush unit tag => Sys2Proof.Machine.execCaptureFlush unit tag s
  | .noticeSet unit tag source enable level => Sys2Proof.Machine.execNoticeSet unit tag source enable level s
  | .noticeClear unit tag sources => Sys2Proof.Machine.execNoticeClear unit tag sources s
  | .resetEngine unit tag => Sys2Proof.Machine.execResetEngine unit tag s
  | .resetFull unit tag => Sys2Proof.Machine.execResetFull unit tag s
  | .powerOnReset => Sys2Proof.Machine.execPowerOnReset s
  | .rstnRelease fsel unit boot => Sys2Proof.Machine.execRstnRelease fsel unit boot s

end Sys2Proof.Machine
end

