-- ==== Sys2Proof/WellFormed.lean ====
section
/-! DEFINITION. What a command the links can deliver looks like: the frame it stands for fits in 160 bytes (R194). -/

namespace Sys2Proof

/-- The length in bytes of the frame that a frame command stands for (Table 11-1, Table 11-3); 0 for a command
that is no inbound frame. -/
def Instr.frameLength : Instr → Nat
  | .sampleFrame f => 8 + 2 * f.channels.length
  | .directiveFrame _ _ _ ops => 7 + ops.length
  | .tableWrite _ _ _ _ _ values => 11 + 2 * values.length
  | .frameRejected _ bytes => bytes.length
  | .valveReport _ => 11
  | .bankStatusFrame _ _ _ => 6
  | .identify _ _ | .status _ _ | .stamp _ _ | .tableCopy _ _ | .tableCommit _ _ | .tripClear _ _
  | .captureTrigger _ _ | .captureFlush _ _ => 7
  | .get _ _ _ | .mode _ _ _ | .block _ _ _ | .captureRead _ _ _ | .resetEngine _ _ | .resetFull _ _ => 8
  | .counters _ _ _ _ | .bankForce _ _ _ _ | .noticeClear _ _ _ => 9
  | .mapSet _ _ _ _ _ | .captureSet _ _ _ _ | .noticeSet _ _ _ _ _ => 10
  | .tableRead _ _ _ _ _ => 11
  | .set _ _ _ _ | .sourceSet _ _ _ _ _ _ _ | .bankSet _ _ _ _ _ _ => 12
  | .auxSet _ _ _ _ _ _ _ _ _ => 14
  | .localSamplePeriod | .silenceTimerExpiry | .localTick | .confirmationTimerExpiry | .dischargeTimerExpiry _
  | .dwellTimerExpiry | .dipToleranceExpiry | .blankingDelayExpiry | .blankingPulseEnd | .vTransmitCompletion
  | .mTransmitCompletion | .powerOnReset | .rstnRelease _ _ _ => 0

/-- A command is well formed when its frame is one the port does not count oversize (R194, check 1). A
frameRejected command carries any bytes: finding what is wrong with them is its meaning. -/
def Instr.wellFormed : Instr → Bool
  | .frameRejected _ _ => true
  | i => decide (i.frameLength ≤ Config.frameLimit)

end Sys2Proof
end

