-- ==== Sys2Proof/Safety.lean ====
section
/-! DEFINITION. What claims are stated in: when the FL6 can take a command at once, how a step ends at the M
transmitter, and the invariants. -/

namespace Sys2Proof.Machine

/-! ## When a command acts at once -/

/-- RSTN is high and no directive waits, so that a step runs its own command and takes no other directive. -/
structure Free (s : State) : Prop where
  high : s.rstn = true
  queue : s.processor.queue = []

/-- R192: the M transmitter is busy, or no frame is available to it. -/
def AtRest (s : State) : Prop :=
  s.notices.transmitter.isSome = true ∨ (s.processor.replies = [] ∧ s.eligible = [])

/-- R172: a directive that arrives now is taken at once. -/
structure Ready (s : State) : Prop extends Free s where
  pacing : s.processor.pacing = none
  place : s.usedPlaces < Config.replyListLimit
  wait : s.processor.resetWait = false
  rest : AtRest s

/-- The unit byte of a directive frame for this FL6 (R170). -/
def State.unitByte (s : State) : Byte := s.straps.unit.setWidth 8

/-- The state with a frame counted as received at the M port (R194). -/
def State.received (s : State) : State := s.countM PortCounters.receive

/-- The state with a frame counted as received at the V port (R194). -/
def State.receivedV (s : State) : State := s.countV PortCounters.receive

/-- The state with a directive counted as received and as taken (R172, R183, R194). -/
def State.taken (s : State) : State :=
  s.received.setProcessor { s.processor with
    counters := { s.processor.counters with taken := bump s.processor.counters.taken } }

/-- The state with a directive's reply appended as the pacing reply (R172). -/
def State.answered (s : State) (tag kind : Byte) (code : ResultCode) (data : ReplyData) : State :=
  s.setProcessor { s.processor with
    replies := s.processor.replies ++ [⟨s.straps.unit, tag, kind, code, data⟩]
    pacing := some s.processor.replies.length }

/-- The state with a directive's reply appended, and offered with what became available as the directive acted (R192;
log 13). -/
def State.replied (s : State) (tag kind : Byte) (code : ResultCode) (data : ReplyData) : State :=
  (s.answered tag kind code data).offerReply

/-- The state with a notice source's status set (R188). -/
def State.raised (s : State) (n : NoticeSource) : State := raise n s

/-! ## How a step ends (R192) -/

/-- t is u as a step leaves it: u itself while the M transmitter is busy or nothing is available to it, otherwise u
with the transmission of one of the frames offered first begun (R192). Which one of those, and how many free values were
drawn, is left open (log 13). -/
inductive Settled (u : State) : State → Prop where
  | busy : u.notices.transmitter.isSome = true → Settled u u
  | nothing : u.processor.replies = [] → u.eligible = [] → Settled u u
  | reply (k : Nat) : u.notices.transmitter = none → u.candidates.reply = true →
      Settled u { beginReply u with freeCount := k }
  | notice (k : Nat) (n : NoticeSource) : u.notices.transmitter = none → n ∈ u.candidates.notices →
      Settled u { beginNotice n u with freeCount := k }

/-! ## Invariants -/

/-- A bank's entries never rise from one index to the next (R72). -/
def NonIncreasing (bank : List Nat) : Prop := firstRise 0 bank = none

/-- A firing-table bank of the right length and range (R71). -/
structure BankShape (bank : List Nat) : Prop where
  length : bank.length = Config.tableLength
  range : ∀ a ∈ bank, 4096 ≤ a ∧ a ≤ Config.blockAngle

/-- A decoded TABLE_WRITE carries as many values as its N and its fill require, as the decoding at its arrival sees to
(R172, step 2; log 20). -/
def Request.Sized : Request → Prop
  | .tableWrite _ n fill values =>
    (fill = 1 → values.length = 1) ∧ (fill = 0 → values.length = n.toNat + 1)
  | _ => True

/-- R71, R72, R84: both banks have their shape, ACTIVE never rises, and STAGED does not while a commit is pending; the
waiting TABLE_WRITEs carry the values they need. -/
structure TablesInv (s : State) : Prop where
  active : BankShape s.tables.active
  staged : BankShape s.tables.staged
  ordered : NonIncreasing s.tables.active
  checked : s.tables.commit.isSome = true → NonIncreasing s.tables.staged
  waiting : ∀ d ∈ s.processor.queue, d.request.Sized

/-- R188: the sent flag is yes only while the status is set. -/
def SentOnlyWhileSet (s : State) : Prop :=
  ∀ n, (s.notices.records.get n).sent = true → (s.notices.records.get n).status = true

/-- R171, R173, R188, R192: the reply list with the reserved slot, and the directive queue, keep their limits; sent
flags stand only with their status; the M transmitter is idle only while nothing is available to it. -/
structure StationInv (s : State) : Prop where
  places : s.usedPlaces ≤ Config.replyListLimit
  queue : s.processor.queue.length ≤ Config.directiveQueueLimit
  sent : SentOnlyWhileSet s
  rest : AtRest s

/-- R88, R93: the send queue keeps its limit, and is empty while the V transmitter is idle. -/
structure SendInv (s : State) : Prop where
  limit : s.exchange.queue.length ≤ Config.sendQueueLimit
  working : s.exchange.transmitter = none → s.exchange.queue = []

/-- R95: every entry of a branch's outstanding list is 0 to 3 half-cycles old. -/
def AgesInv (s : State) : Prop :=
  ∀ b, ∀ e ∈ (s.exchangeRec b).outstanding, orderAge (s.trackers.get b).h e.h ≤ 3

/-- R131, R146: the release state is other than HELD only in RUN, and there is a waking target exactly in WAKING. -/
structure ModeInv (s : State) : Prop where
  held : s.control.release ≠ .held → s.control.mode = .run
  target : s.control.mode = .waking ↔ s.control.wakingTarget.isSome = true

/-- R56, R57, R61, R82, R92: outside RELEASED nothing is left of released firing: carries and clamp counters are 0,
every queued order is BLOCK, and no commit is pending. -/
structure BlockedInv (s : State) : Prop where
  carry : s.control.release ≠ .released → ∀ b, (s.demand.get b).carry = 0
  clamp : s.control.release ≠ .released → ∀ b, (s.demand.get b).clamp = 0
  orders : s.control.release ≠ .released → ∀ o, VFrame.order o ∈ s.exchange.queue → o.angle = Config.blockAngle
  commit : s.control.release ≠ .released → s.tables.commit = none

/-- R114: at most one filter bank is in CLOSING or OPENING. -/
def OneTransitional (s : State) : Prop :=
  ∀ n m, (s.bankRec n).state.transitional = true → (s.bankRec m).state.transitional = true → n = m

/-- R159, R160: the buffer keeps its limit, the state is OFF exactly while the mode is BYPASS, and a TRIGGERED unit has
a trigger source and records still to take. -/
structure CaptureInv (s : State) : Prop where
  limit : s.capture.buffer.length ≤ Config.captureLimit
  off : s.capture.state = .off ↔ s.capture.mode = .bypass
  wanted : s.capture.state = .triggered → 1 ≤ s.capture.postCount ∧ s.capture.trigger.isSome = true

/-- R17: every window holds exactly 64 entries. -/
def WindowsFull (s : State) : Prop := ∀ q, (s.asm.windows.get q).entries.length = Config.windowLength

/-- The tag distances of the sets of the assembly queue, in queue order. -/
def State.queueDistances (s : State) (expected : Tag) : List Nat :=
  s.asm.queue.map fun x => tagDistance expected x.tag

/-- R8: every tag of the assembly queue lies within the 8 tags from the expected tag, no two alike, in tag order; the
queue is empty while the expected tag is unset. -/
structure AssemblyInv (s : State) : Prop where
  unset : s.asm.expected = none → s.asm.queue = []
  near : ∀ e, s.asm.expected = some e → ∀ d ∈ s.queueDistances e, d ≤ 7
  rising : ∀ e, s.asm.expected = some e → (s.queueDistances e).Pairwise (· < ·)

/-- R176, R136: every parameter holds a value of its range, and V_DIP does not exceed V_VALID. -/
structure ParamsInv (s : State) : Prop where
  range : ∀ p : Param, p.inRange (s.params.value p) = true
  dip : s.params.vDip ≤ s.params.vValid

end Sys2Proof.Machine
end

