-- ==== Sys2Proof/Certificates/Slice0/Obligations.lean ====
section
/-! DEFINITION. The statements for the provers. Each says by its name what it states; u is the state the command leaves
before the M transmitter is served, and Settled says what that serving may do (R192). -/

open Sys2Proof Sys2Proof.Machine

/-! ## The queue, the reset line and the reset values -/

/-- A step runs the command at the front of the queue on the state with the queue's rest; on an empty queue the block
idles (log 1, the model's choice). -/
def Obligations.StepRunsFrontCommand : Prop :=
  (∀ (s : State) (c : Instr) (rest : List Instr),
    s.pending = c :: rest → step s = exec c { s with pending := rest }) ∧
  ∀ s : State, s.pending = [] → step s = .next s

/-- Every command has its effect in every state: none ends in a fault or a refusal, and none touches the commands that
wait behind it. -/
def Obligations.EveryCommandAnswersNext : Prop :=
  ∀ (s : State) (c : Instr), ∃ t, exec c s = .next t ∧ t.pending = s.pending

/-- R197: an assertion of RSTN gives every block its power-on values at once, and the straps stand until it returns
high; then FSEL, UNIT and BOOT are latched, and BOOT gives the mode. A high line has no return, and while the line is low
no other command changes anything (log 5, the model's reading). -/
def Obligations.ResetLineResetsAndLatchesStraps : Prop :=
  (∀ s : State, exec .powerOnReset s = .next (State.powerOn s.straps false s.pending s.freeCount)) ∧
  (∀ (s : State) (fsel : Bool) (unit : BitVec 4) (boot : Bool), s.rstn = false →
    ∃ t, exec (.rstnRelease fsel unit boot) s = .next t ∧ t.rstn = true ∧ t.pending = s.pending ∧
      t.straps.fsel = (if fsel then .hz60 else .hz50) ∧ t.straps.unit = unit ∧
      t.straps.boot = (if boot then .quiescent else .park) ∧
      t.control.mode = (if boot then .quiescent else .park) ∧
      t = State.powerOn t.straps true s.pending s.freeCount) ∧
  (∀ (s : State) (fsel : Bool) (unit : BitVec 4) (boot : Bool), s.rstn = true →
    exec (.rstnRelease fsel unit boot) s = .next s) ∧
  (∀ (s : State) (c : Instr), s.rstn = false → c ≠ .powerOnReset →
    (∀ fsel unit boot, c ≠ .rstnRelease fsel unit boot) → exec c s = .next s)

/-- R25, R45, R69: the power-on values of the Stream Assembler, the Phase Trackers and the Demand Unit. -/
def Obligations.PowerOnValuesOfStreamPath : Prop :=
  ∀ (straps : Straps) (rstn : Bool) (p : List Instr) (k : Nat), let t := State.powerOn straps rstn p k
    (∀ n, (t.asm.sources.get n).alignment = .disabled ∧ (t.asm.sources.get n).policy = .mark ∧
      (t.asm.sources.get n).holdLimit = 0 ∧ (t.asm.sources.get n).missLimit = 8 ∧
      (t.asm.sources.get n).missRun = 0 ∧ (t.asm.sources.get n).counters = ⟨0, 0, 0, 0, 0⟩) ∧
    (∀ q, t.asm.map.get q = none ∧ (t.asm.windows.get q).entries = List.replicate 64 ⟨none, false⟩ ∧
      (t.asm.windows.get q).lastValid = none ∧ (t.asm.windows.get q).heldRun = 0) ∧
    t.asm.queue = [] ∧ t.asm.expected = none ∧ t.asm.lastReleased = none ∧ t.asm.silence = none ∧
    t.asm.counters = ⟨0, 0, 0, 0, 0⟩ ∧ t.params.assemblyDepth = 3 ∧ t.params.silenceLimit = 16 ∧
    t.params.statusSource = .i0 ∧
    (∀ b, (t.trackers.get b).state = .unlocked ∧ (t.trackers.get b).halfPeriod = 8192 ∧
      (t.trackers.get b).history = [] ∧ (t.trackers.get b).holdoverCount = 0 ∧
      (t.trackers.get b).risingArmed = false ∧ (t.trackers.get b).fallingArmed = false ∧
      (t.trackers.get b).expectedPolarity = none ∧ (t.trackers.get b).lastCrossing = none ∧
      (t.trackers.get b).h = 0 ∧ (t.trackers.get b).lastEventTag = none ∧ (t.trackers.get b).magnitude = 0 ∧
      (t.trackers.get b).spurious = 0) ∧
    t.params.crossHyst = 256 ∧
    (∀ b, (t.demand.get b).carry = 0 ∧ (t.demand.get b).clamp = 0 ∧ (t.demand.get b).trim = 0 ∧
      (t.demand.get b).gapCount = 0 ∧ (t.demand.get b).lastD = none ∧
      (t.demand.get b).counters = ⟨0, 0, 0, 0, 0⟩ ∧ t.params.loadGain.get b = 0 ∧ t.params.load2Gain.get b = 0 ∧
      t.params.bias.get b = 0 ∧ t.params.angleOffset.get b = 0) ∧
    t.params.trimGain = 0 ∧ t.params.vRef = 0 ∧ t.params.halfInvalidLimit = 4 ∧ t.params.carryLimit = 256 ∧
    t.params.gapLimit = 6 ∧ t.params.limitMode = .clip ∧ t.params.gapPolicy = .block

/-- R87, R109, R129, R156, R168, R187, R193, R194: the power-on values of the Table Store, the Order Exchange, the Bank
Controller, the Mode and Release Controller, the Capture Unit, the Directive Processor, the Notice Unit and the ports. -/
def Obligations.PowerOnValuesOfOtherBlocks : Prop :=
  ∀ (straps : Straps) (rstn : Bool) (p : List Instr) (k : Nat), let t := State.powerOn straps rstn p k
    t.tables.active = List.replicate 512 8192 ∧ t.tables.staged = List.replicate 512 8192 ∧
    t.tables.commit = none ∧ t.tables.counters = ⟨0, 0, 0, 0, 0⟩ ∧
    t.exchange.queue = [] ∧ t.exchange.transmitter = none ∧ t.exchange.counters = ⟨0, 0, 0, 0⟩ ∧
    (∀ b, (t.exchangeRec b).outstanding = [] ∧ (t.exchangeRec b).ready = false ∧
      (t.exchangeRec b).timeoutRun = 0 ∧ (t.exchangeRec b).misfireRun = 0 ∧
      (t.exchangeRec b).counters = ⟨0, 0, 0, 0, 0, 0, 0, 0, 0, 0⟩) ∧
    t.params.timeoutLimit = 3 ∧ t.params.misfireLimit = 3 ∧ t.params.angleTolerance = 64 ∧
    (∀ n, (t.bankRec n).state = .absent ∧ (t.bankRec n).susceptance = 0 ∧ (t.bankRec n).counted = false ∧
      (t.bankRec n).faultCode = none ∧ (t.bankRec n).confirmTimer = none ∧ (t.bankRec n).dischargeTimer = none ∧
      (t.bankRec n).counters = ⟨0, 0, 0, 0, 0, 0, 0⟩) ∧
    t.bBank = 0 ∧ t.banks.dwell = none ∧ t.banks.counters = ⟨0, 0, 0, 0⟩ ∧
    t.params.autoBanks = false ∧ t.params.bankInThreshold = 96 ∧ t.params.bankOutThreshold = 96 ∧
    t.params.bankDwell = 50 ∧ t.params.bankConfirmTimeout = 25 ∧ t.params.bankDischarge = 38 ∧
    t.control.mode = (match straps.boot with
      | .park => .park
      | .quiescent => .quiescent) ∧
    t.control.wakingTarget = none ∧ t.control.wakingCount = 0 ∧ t.control.release = .held ∧
    t.control.qualifyCount = 0 ∧ t.control.trips = ⟨⟨false, false, false⟩, ⟨false, false, false⟩,
      ⟨false, false, false⟩, none, 0⟩ ∧
    t.control.directedBlock = false ∧
    (∀ n, t.control.aux.get n = ⟨.activeHigh, .level, 0, ⟨false, false, false, false, false⟩, 0, 1, false, 0,
      false⟩) ∧
    t.control.blanking.state = .idle ∧ t.control.dipState = .unarmed ∧ t.control.resume = none ∧
    t.control.counters = ⟨0, 0, 0, 0, 0, 0, 0, 0, 0, 0, 0, 0, ⟨0, 0, 0, 0⟩⟩ ∧
    t.params.settleCode = 2 ∧ t.params.wakeTarget = .park ∧ t.params.vValid = 0 ∧ t.params.vDip = 0 ∧
    t.params.dipTolerance = 3 ∧ t.params.releaseBase = 50 ∧ t.params.releaseExtra = 0 ∧
    t.params.blockSelect = .merged ∧ t.params.resumePolicy = .alwaysPark ∧ t.params.resumePreset = .park ∧
    t.capture = ⟨.bypass, .off, [], 0, 0, none, ⟨0, 0, 0⟩⟩ ∧
    t.processor = ⟨[], [], none, false, 0, ⟨0, 0, 0, 0, 0, 0⟩⟩ ∧ t.reservedSlot = false ∧
    (∀ n, t.notices.records.get n = ⟨false, false, 0, false⟩) ∧ t.notices.transmitter = none ∧
    t.params.noticeMask = 0 ∧ t.ports = ⟨⟨0, 0, 0, 0, 0, 0, 0⟩, ⟨0, 0, 0, 0, 0, 0, 0⟩⟩

/-! ## Directives that read -/

/-- R180, Table 9-4: STATUS answers a snapshot of the state, and changes nothing else. -/
def Obligations.StatusAnswersSnapshot : Prop :=
  ∀ (s : State) (tag : Byte), Ready s →
    ∃ (t : State) (r : StatusReport), exec (.status s.unitByte tag) s = .next t ∧ Settled (s.taken.replied tag 2 .done (.status r)) t ∧
      r.mode = s.control.mode ∧ r.wakingTarget = s.control.wakingTarget ∧ r.wakingCount = s.control.wakingCount ∧
      r.release = s.control.release ∧ r.qualifyCount = s.control.qualifyCount ∧
      r.supplyValid = s.control.supplyValid ∧ r.dip = s.control.dip ∧ r.dipState = s.control.dipState ∧
      r.resume = s.control.resume ∧ r.trips = s.control.trips ∧ r.directedBlock = s.control.directedBlock ∧
      (∀ n, r.aux.get n = ⟨(s.control.aux.get n).active, (s.control.aux.get n).blockLatch⟩) ∧
      r.blankState = s.control.blanking.state ∧ r.blankCount = s.control.blanking.count ∧
      r.valveReady = s.control.valveReady ∧
      (∀ b, r.trackers.get b = ⟨(s.trackers.get b).state, (s.trackers.get b).h⟩ ∧
        r.magnitudes.get b = (s.trackers.get b).magnitude) ∧
      (∀ n, r.banks.get n = ⟨(s.bankRec n).state, (s.bankRec n).counted, (s.bankRec n).faultCode⟩) ∧
      r.bBank = s.bBank ∧ r.dwell = s.banks.dwell ∧ r.commitPending = s.tables.commit.isSome ∧
      r.captureState = s.capture.state ∧ (∀ n, r.notices.get n = (s.notices.records.get n).status) ∧
      r.queuedDirectives = 0 ∧ r.heldReplies = s.processor.replies.length ∧
      r.reservedSlot = s.tables.commit.isSome

/-- R179, R181: IDENTIFY answers the identity and the latched straps, and STAMP the tags, each branch's h and sets
elapsed, and the local tick count; neither changes anything else. IDENTIFY's first four bytes are the vendor code and the
part code in two bytes each: the width of the part code is the model's choice (log 23). -/
def Obligations.IdentifyAndStampAnswer : Prop :=
  ∀ (s : State) (tag : Byte), Ready s →
    (∃ t, exec (.identify s.unitByte tag) s = .next t ∧
      Settled (s.taken.replied tag 1 .done (.identify s.straps)) t) ∧
    (ReplyData.identify s.straps).bytes.take 4 = [0x4A, 0x6B, 0x00, 0xF6] ∧
    ∃ (t : State) (r : PerBranch StampReport), exec (.stamp s.unitByte tag) s = .next t ∧
      Settled (s.taken.replied tag 4 .done (.stamp s.asm.lastReleased s.asm.expected r s.processor.ticks)) t ∧
      ∀ b, (r.get b).h = (s.trackers.get b).h ∧
        (∀ last e, s.asm.lastReleased = some last → (s.trackers.get b).lastEventTag = some e →
          (r.get b).elapsed = some (last - e).toNat) ∧
        ((s.asm.lastReleased = none ∨ (s.trackers.get b).lastEventTag = none) → (r.get b).elapsed = none)

/-- R178: GET answers a parameter's value and class, RANGE for an identifier of no parameter, and changes nothing
else. R175, R176, Table 9-3: which identifier names which parameter, its class, and its value as a number. -/
def Obligations.GetAnswersParameter : Prop :=
  ((List.range 256).filterMap (fun i => (param? (BitVec.ofNat 8 i)).map fun p => (i, p)) =
    [(1, .assemblyDepth), (2, .silenceLimit), (3, .statusSource), (8, .crossHyst), (16, .loadGain .ab),
     (17, .loadGain .bc), (18, .loadGain .ca), (19, .load2Gain .ab), (20, .load2Gain .bc), (21, .load2Gain .ca),
     (22, .bias .ab), (23, .bias .bc), (24, .bias .ca), (25, .angleOffset .ab), (26, .angleOffset .bc),
     (27, .angleOffset .ca), (28, .trimGain), (29, .vRef), (30, .halfInvalidLimit), (31, .carryLimit),
     (32, .gapLimit), (33, .limitMode), (34, .gapPolicy), (40, .timeoutLimit), (41, .misfireLimit),
     (42, .angleTolerance), (48, .autoBanks), (49, .bankInThreshold), (50, .bankOutThreshold), (51, .bankDwell),
     (52, .bankConfirmTimeout), (53, .bankDischarge), (64, .settleCode), (65, .wakeTarget), (66, .vValid),
     (67, .vDip), (68, .dipTolerance), (69, .releaseBase), (70, .releaseExtra), (71, .blockSelect),
     (72, .resumePolicy), (73, .resumePreset), (80, .noticeMask)]) ∧
  (∀ p : Param, p.parkedOnly = true ↔ p ∈ ([.assemblyDepth, .statusSource, .limitMode, .gapPolicy, .releaseBase,
    .releaseExtra, .blockSelect] : List Param)) ∧
  (∀ q : Params, q.value .assemblyDepth = q.assemblyDepth ∧ q.value .silenceLimit = q.silenceLimit ∧
    q.value .crossHyst = q.crossHyst ∧ q.value .trimGain = q.trimGain ∧ q.value .vRef = q.vRef ∧
    q.value .halfInvalidLimit = q.halfInvalidLimit ∧ q.value .carryLimit = q.carryLimit ∧
    q.value .gapLimit = q.gapLimit ∧ q.value .timeoutLimit = q.timeoutLimit ∧
    q.value .misfireLimit = q.misfireLimit ∧ q.value .angleTolerance = q.angleTolerance ∧
    q.value .bankInThreshold = q.bankInThreshold ∧ q.value .bankOutThreshold = q.bankOutThreshold ∧
    q.value .bankDwell = q.bankDwell ∧ q.value .bankConfirmTimeout = q.bankConfirmTimeout ∧
    q.value .bankDischarge = q.bankDischarge ∧ q.value .settleCode = q.settleCode ∧ q.value .vValid = q.vValid ∧
    q.value .vDip = q.vDip ∧ q.value .dipTolerance = q.dipTolerance ∧ q.value .releaseBase = q.releaseBase ∧
    q.value .releaseExtra = q.releaseExtra ∧ q.value .noticeMask = q.noticeMask ∧
    q.value .statusSource = Index4.toNat q.statusSource ∧
    (∀ b, q.value (.loadGain b) = q.loadGain.get b ∧ q.value (.load2Gain b) = q.load2Gain.get b ∧
      q.value (.bias b) = q.bias.get b ∧ q.value (.angleOffset b) = q.angleOffset.get b) ∧
    q.value .limitMode = (if q.limitMode = .carry then 1 else 0) ∧
    q.value .gapPolicy = (if q.gapPolicy = .repeatLast then 1 else 0) ∧
    q.value .autoBanks = (if q.autoBanks then 1 else 0) ∧
    q.value .wakeTarget = (if q.wakeTarget = .run then 1 else 0) ∧
    q.value .resumePreset = (if q.resumePreset = .run then 1 else 0) ∧
    q.value .blockSelect = (match q.blockSelect with
      | .directed => 0
      | .aux => 1
      | .merged => 2) ∧
    q.value .resumePolicy = (match q.resumePolicy with
      | .alwaysPark => 0
      | .alwaysRun => 1
      | .previous => 2
      | .preset => 3)) ∧
  ∀ (s : State) (tag ident : Byte), Ready s →
    (∀ p, param? ident = some p →
      ∃ t, exec (.get s.unitByte tag ident) s = .next t ∧
        Settled (s.taken.replied tag 5 .done (.get ident (s.params.value p) p.parkedOnly)) t) ∧
    (param? ident = none →
      ∃ t, exec (.get s.unitByte tag ident) s = .next t ∧ Settled (s.taken.replied tag 5 .range .empty) t)

/-- R23, R68, R86, R110, R128, R155, R167, R182, R183, R194, Table 9-5: COUNTERS answers a group as it stands, its
counters and reported states as their owners list them, and with the clear flag sets the group's counters, and nothing
else, to 0 afterwards; another group code or clear flag is answered RANGE. 0.7: a counter stops at 65535. -/
def Obligations.CountersReadsThenClears : Prop :=
  (∀ n, n < 65535 → bump n = n + 1) ∧
  bump 65535 = 65535 ∧
  (∀ (s : State) (tag group clear : Byte), Ready s →
    (∀ g, counterGroup? group = some g → clear = 0 →
      ∃ t, exec (.counters s.unitByte tag group clear) s = .next t ∧
        Settled (s.taken.replied tag 3 .done (.counters group false (s.taken.counterReport g))) t) ∧
    (∀ g, counterGroup? group = some g → clear = 1 →
      ∃ t, exec (.counters s.unitByte tag group clear) s = .next t ∧
        Settled ((clearCounters s.taken g).replied tag 3 .done (.counters group true (s.taken.counterReport g)))
          t) ∧
    ((9 < group.toNat ∨ 1 < clear.toNat) →
      ∃ t, exec (.counters s.unitByte tag group clear) s = .next t ∧
        Settled (s.taken.replied tag 3 .range .empty) t)) ∧
  (counterGroup? 0 = some .assembly ∧ counterGroup? 1 = some .tracking ∧ counterGroup? 2 = some .demand ∧
    counterGroup? 3 = some .tables ∧ counterGroup? 4 = some .exchange ∧ counterGroup? 5 = some .banks ∧
    counterGroup? 6 = some .control ∧ counterGroup? 7 = some .capture ∧ counterGroup? 8 = some .directives ∧
    counterGroup? 9 = some .ports) ∧
  (∀ s : State,
    (∃ x, s.counterReport .assembly = .assembly x s.asm.counters ∧
      ∀ n, x.get n = ⟨(s.asm.sources.get n).counters, (s.asm.sources.get n).alignment,
        (s.asm.sources.get n).missRun⟩) ∧
    (∃ x, s.counterReport .tracking = .tracking x ∧ ∀ b, x.get b = (s.trackers.get b).spurious) ∧
    (∃ x, s.counterReport .demand = .demand x ∧
      ∀ b, x.get b = ⟨(s.demand.get b).counters, (s.demand.get b).gapCount, (s.demand.get b).clamp,
        (s.demand.get b).carry, (s.demand.get b).trim⟩) ∧
    s.counterReport .tables = .tables s.tables.counters s.tables.commit.isSome ∧
    (∃ x, s.counterReport .exchange = .exchange x s.exchange.counters s.exchange.queue.length ∧
      ∀ b, x.get b = ⟨(s.exchangeRec b).counters, (s.exchangeRec b).outstanding.length, (s.exchangeRec b).ready,
        (s.exchangeRec b).timeoutRun, (s.exchangeRec b).misfireRun⟩) ∧
    (∃ x, s.counterReport .banks = .banks x s.banks.counters s.bBank ∧
      ∀ n, x.get n = ⟨(s.bankRec n).counters, (s.bankRec n).state, (s.bankRec n).susceptance⟩) ∧
    s.counterReport .control = .control s.control.counters ∧
    s.counterReport .capture = .capture s.capture.counters s.capture.mode s.capture.state s.capture.post
      s.capture.postCount s.capture.trigger s.capture.buffer.length ∧
    s.counterReport .directives = .directives s.processor.counters s.processor.queue.length
      s.processor.replies.length s.tables.commit.isSome ∧
    s.counterReport .ports = .ports s.ports) ∧
  ∀ s : State,
    (∃ x, clearCounters s .assembly = s.setAsm { s.asm with sources := x, counters := ⟨0, 0, 0, 0, 0⟩ } ∧
      ∀ n, x.get n = { s.asm.sources.get n with counters := ⟨0, 0, 0, 0, 0⟩ }) ∧
    (∃ x, clearCounters s .tracking = s.setTrackers x ∧ ∀ b, x.get b = { s.trackers.get b with spurious := 0 }) ∧
    (∃ x, clearCounters s .demand = s.setDemand x ∧
      ∀ b, x.get b = { s.demand.get b with counters := ⟨0, 0, 0, 0, 0⟩ }) ∧
    clearCounters s .tables = s.setTables { s.tables with counters := ⟨0, 0, 0, 0, 0⟩ } ∧
    (∃ x, clearCounters s .exchange = s.setExchange { s.exchange with branches := x, counters := ⟨0, 0, 0, 0⟩ } ∧
      ∀ b, x.get b = { s.exchangeRec b with counters := ⟨0, 0, 0, 0, 0, 0, 0, 0, 0, 0⟩ }) ∧
    (∃ x, clearCounters s .banks = s.setBanks { s.banks with banks := x, counters := ⟨0, 0, 0, 0⟩ } ∧
      ∀ n, x.get n = { s.bankRec n with counters := ⟨0, 0, 0, 0, 0, 0, 0⟩ }) ∧
    clearCounters s .control = s.setControl { s.control with
      counters := ⟨0, 0, 0, 0, 0, 0, 0, 0, 0, 0, 0, 0, ⟨0, 0, 0, 0⟩⟩ } ∧
    clearCounters s .capture = s.setCapture { s.capture with counters := ⟨0, 0, 0⟩ } ∧
    clearCounters s .directives = s.setProcessor { s.processor with counters := ⟨0, 0, 0, 0, 0, 0⟩ } ∧
    clearCounters s .ports = s.setPorts ⟨⟨0, 0, 0, 0, 0, 0, 0⟩, ⟨0, 0, 0, 0, 0, 0, 0⟩⟩

/-- R74: TABLE_READ answers the entries asked for with the commit state, RANGE for operands out of range, and changes
nothing else. -/
def Obligations.TableReadAnswersEntries : Prop :=
  (∀ t : TableStore, t.bank .active = t.active ∧ t.bank .staged = t.staged) ∧
  ∀ (s : State) (tag bank n : Byte) (start : Half), Ready s →
    (∀ b, tableBank? bank = some b → n.toNat ≤ 63 → start.toNat + n.toNat ≤ 511 →
      ∃ t, exec (.tableRead s.unitByte tag bank start n) s = .next t ∧
        Settled (s.taken.replied tag 13 .done (.tableRead b start.toNat (n.toNat + 1)
          (((s.tables.bank b).drop start.toNat).take (n.toNat + 1)) s.tables.commit.isSome)) t) ∧
    ((tableBank? bank = none ∨ 63 < n.toNat ∨ 511 < start.toNat + n.toNat) →
      ∃ t, exec (.tableRead s.unitByte tag bank start n) s = .next t ∧
        Settled (s.taken.replied tag 13 .range .empty) t)

/-! ## Parameters and configuration -/

/-- R175, R177, Table 9-3: a parameter written with a value of its range reads back that value, and the others keep
theirs; SET refuses in the order of its checks and writes nothing then; otherwise it writes, its owner does at once
what the write asks for, and the reply carries the values before and after. R21, R56, R136, R145: what an owner does
at once, for each parameter with such an owner; the others have none. R177, Table 9-3: the range or list of each
parameter. -/
def Obligations.SetChecksThenWrites : Prop :=
  (∀ (p : Param) (lo hi v : Int), (p, lo, hi) ∈
      ([(.assemblyDepth, 1, 6), (.silenceLimit, 0, 255), (.statusSource, 0, 3), (.crossHyst, 0, 4095),
      (.trimGain, 0, 4095), (.vRef, 0, 32767), (.halfInvalidLimit, 0, 16), (.carryLimit, 0, 1024),
      (.gapLimit, 1, 255), (.limitMode, 0, 1), (.gapPolicy, 0, 1), (.timeoutLimit, 1, 15), (.misfireLimit, 1, 15),
      (.angleTolerance, 0, 255), (.autoBanks, 0, 1), (.bankInThreshold, 1, 381), (.bankOutThreshold, 1, 381),
      (.bankDwell, 1, 255), (.bankConfirmTimeout, 1, 255), (.bankDischarge, 1, 255), (.settleCode, 0, 4),
      (.wakeTarget, 0, 1), (.vValid, 0, 32767), (.vDip, 0, 32767), (.dipTolerance, 0, 15), (.blockSelect, 0, 2),
      (.resumePolicy, 0, 3), (.resumePreset, 0, 1), (.noticeMask, 0, 2)] :
        List (Param × Int × Int)) →
    (p.inRange v = true ↔ lo ≤ v ∧ v ≤ hi)) ∧
  (∀ (b : Branch) (v : Int), ((Param.loadGain b).inRange v = true ↔ 0 ≤ v ∧ v ≤ 65535) ∧
    ((Param.load2Gain b).inRange v = true ↔ 0 ≤ v ∧ v ≤ 65535) ∧
    ((Param.bias b).inRange v = true ↔ -4096 ≤ v ∧ v ≤ 4095) ∧
    ((Param.angleOffset b).inRange v = true ↔ -256 ≤ v ∧ v ≤ 255) ∧
    (Param.releaseBase.inRange v = true ↔ v = 25 ∨ v = 50) ∧
    (Param.releaseExtra.inRange v = true ↔ v = 0 ∨ v = 5 ∨ v = 15 ∨ v = 40)) ∧
  (∀ (q : Params) (p : Param) (v : Int), p.inRange v = true →
    (q.write p v).value p = v ∧ ∀ r, r ≠ p → (q.write p v).value r = q.value r) ∧
  (∀ (s : State) (tag ident : Byte) (value : Word), Ready s →
    (param? ident = none →
      ∃ t, exec (.set s.unitByte tag ident value) s = .next t ∧ Settled (s.taken.replied tag 6 .range .empty) t) ∧
    (∀ p, param? ident = some p →
      (p.parkedOnly = true → ¬(s.control.mode ≠ .run ∧ s.control.release = .held) →
        ∃ t, exec (.set s.unitByte tag ident value) s = .next t ∧
          Settled (s.taken.replied tag 6 .wrongMode .empty) t) ∧
      ((p.parkedOnly = false ∨ (s.control.mode ≠ .run ∧ s.control.release = .held)) →
        (p.inRange value.toInt = false ∨ (p = .vDip ∧ s.params.vValid < value.toInt) ∨
          (p = .vValid ∧ value.toInt < s.params.vDip) →
          ∃ t, exec (.set s.unitByte tag ident value) s = .next t ∧
            Settled (s.taken.replied tag 6 .range .empty) t) ∧
        (p.inRange value.toInt = true → ¬(p = .vDip ∧ s.params.vValid < value.toInt) →
          ¬(p = .vValid ∧ value.toInt < s.params.vDip) →
          ∃ t, exec (.set s.unitByte tag ident value) s = .next t ∧
            Settled ((afterWrite p (s.taken.setParams (s.params.write p value.toInt))).replied tag 6 .done
              (.set ident (s.params.value p) value.toInt)) t)))) ∧
  ∀ s : State,
    (s.params.silenceLimit = 0 → afterWrite .silenceLimit s = s.setAsm { s.asm with silence := none }) ∧
    (s.params.silenceLimit ≠ 0 → afterWrite .silenceLimit s = s) ∧
    (∃ x, afterWrite .carryLimit s = s.setDemand x ∧ ∀ b, x.get b = { s.demand.get b with
      carry := max (-(s.params.carryLimit : Int)) (min (s.demand.get b).carry s.params.carryLimit) }) ∧
    (∃ x, afterWrite .limitMode s = s.setDemand x ∧ ∀ b, x.get b = { s.demand.get b with carry := 0 }) ∧
    afterWrite .vValid s = evalSupply s ∧ afterWrite .vDip s = evalSupply s ∧
    afterWrite .blockSelect s = evalBase s ∧
    ∀ p, p ≠ .silenceLimit → p ≠ .carryLimit → p ≠ .limitMode → p ≠ .vValid → p ≠ .vDip → p ≠ .blockSelect →
      afterWrite p s = s

/-- R1, R3, R127, R151, R175: outside the parked condition MAP_SET, SOURCE_SET, AUX_SET and BANK_SET are answered
WRONG_MODE and write nothing, whatever their operands: that WRONG_MODE comes before RANGE for the first three is the
model's reading (log 19). -/
def Obligations.ConfigurationNeedsParkedCondition : Prop :=
  ∀ (s : State) (tag a b c d e f g : Byte) (w : Half), Ready s →
    ¬(s.control.mode ≠ .run ∧ s.control.release = .held) →
    (∃ t, exec (.mapSet s.unitByte tag a b c) s = .next t ∧
      Settled (s.taken.replied tag 7 .wrongMode .empty) t) ∧
    (∃ t, exec (.sourceSet s.unitByte tag a b c d e) s = .next t ∧
      Settled (s.taken.replied tag 8 .wrongMode .empty) t) ∧
    (∃ t, exec (.auxSet s.unitByte tag a b c d e f g) s = .next t ∧
      Settled (s.taken.replied tag 9 .wrongMode .empty) t) ∧
    (∃ t, exec (.bankSet s.unitByte tag a b w c) s = .next t ∧
      Settled (s.taken.replied tag 10 .wrongMode .empty) t)

/-- R3: MAP_SET in the parked condition writes the quantity's entry, ABSENT for source 255, or is answered RANGE. -/
def Obligations.MapSetWritesEntry : Prop :=
  ∀ (s : State) (tag quantity source channel : Byte), Ready s → s.control.mode ≠ .run → s.control.release = .held →
    (∀ q, quantity? quantity = some q → source = 255 →
      ∃ t, exec (.mapSet s.unitByte tag quantity source channel) s = .next t ∧
        Settled ((s.taken.setAsm { s.asm with map := s.asm.map.set q none }).replied tag 7 .done .empty) t) ∧
    (∀ q n, ∀ c : Fin 8, quantity? quantity = some q → index4? source = some n → channel.toNat = c →
      ∃ t, exec (.mapSet s.unitByte tag quantity source channel) s = .next t ∧
        Settled ((s.taken.setAsm { s.asm with map := s.asm.map.set q (some ⟨n, c⟩) }).replied tag 7 .done .empty)
          t) ∧
    ((8 < quantity.toNat ∨ (source ≠ 255 ∧ (3 < source.toNat ∨ 7 < channel.toNat))) →
      ∃ t, exec (.mapSet s.unitByte tag quantity source channel) s = .next t ∧
        Settled (s.taken.replied tag 7 .range .empty) t)

/-- R1: SOURCE_SET in the parked condition writes the source's record, its alignment by the table of the rule, then
makes the completion test and the release check; an operand out of range is answered RANGE. -/
def Obligations.SourceSetWritesRecord : Prop :=
  ∀ (s : State) (tag source enabled policy hold miss : Byte), Ready s →
    s.control.mode ≠ .run → s.control.release = .held →
    ((3 < source.toNat ∨ 1 < enabled.toNat ∨ 1 < policy.toNat ∨ 15 < hold.toNat ∨ miss.toNat = 0) →
      ∃ t, exec (.sourceSet s.unitByte tag source enabled policy hold miss) s = .next t ∧
        Settled (s.taken.replied tag 8 .range .empty) t) ∧
    (∀ n e g, index4? source = some n → flag? enabled = some e → gapPolicy? policy = some g → hold.toNat ≤ 15 →
      1 ≤ miss.toNat →
      ∃ (t : State) (r : SourceRec), exec (.sourceSet s.unitByte tag source enabled policy hold miss) s = .next t ∧
        Settled ((releaseCheck (completeSets (s.taken.setSource n r))).replied tag 8 .done .empty) t ∧
        r.policy = g ∧ r.holdLimit = hold.toNat ∧ r.missLimit = miss.toNat ∧
        r.counters = (s.asm.sources.get n).counters ∧
        r.alignment = (if e then
            (if (s.asm.sources.get n).alignment = .disabled then .seeking else (s.asm.sources.get n).alignment)
          else .disabled) ∧
        (e = true → (s.asm.sources.get n).alignment ≠ .disabled → r.missRun = (s.asm.sources.get n).missRun) ∧
        (e = true → (s.asm.sources.get n).alignment = .disabled → r.missRun = 0) ∧
        (e = false → (s.asm.sources.get n).alignment ≠ .disabled → r.missRun = 0))

/-- R151, R196: AUX_SET in the parked condition writes the six fields, makes the record inactive with count 0 and
latch clear, and has the block cause evaluated again; an operand out of range or list, such as an action set with a
bit that names no action, is answered RANGE. R152, R153, R154: how a hand-over debounces a record, what its edges do,
and how a blanking pulse starts. R20, R152: a hand-over debounces each of the four records once, in an order that is
the model's free choice where two of them act (log 31). -/
def Obligations.AuxSetWritesRecord : Prop :=
  (∀ (flags : Four Bool) (s : State), ∃ (l : List (State → State)) (k : Nat),
    l.Perm (Index4.all.map fun n t => debounceAux flags t n) ∧
    (handAux flags s = l.foldl (fun t f => f t) s ∨
      handAux flags s = l.foldl (fun t f => moment (f t)) { s with freeCount := k })) ∧
  (∀ (s : State) (tag aux polarity kind debounce actions delay width : Byte), Ready s → s.control.mode ≠ .run →
    s.control.release = .held →
    ((3 < aux.toNat ∨ 1 < polarity.toNat ∨ 1 < kind.toNat ∨ 31 < actions.toNat ∨ 63 < delay.toNat ∨
        width.toNat = 0 ∨ 63 < width.toNat) →
      ∃ t, exec (.auxSet s.unitByte tag aux polarity kind debounce actions delay width) s = .next t ∧
        Settled (s.taken.replied tag 9 .range .empty) t) ∧
    (∀ n p k a, index4? aux = some n → auxPolarity? polarity = some p → auxType? kind = some k →
      auxActions? actions = some a → delay.toNat ≤ 63 → 1 ≤ width.toNat → width.toNat ≤ 63 →
      ∃ t, exec (.auxSet s.unitByte tag aux polarity kind debounce actions delay width) s = .next t ∧
        Settled ((evalBase (s.taken.setAux n ⟨p, k, debounce.toNat, a, delay.toNat, width.toNat, false, 0,
          false⟩)).replied tag 9 .done .empty) t)) ∧
  (∀ (s : State) (flags : Four Bool) (n : Index4) (v : Bool), let r := s.control.aux.get n
    v = (if r.polarity = .activeHigh then flags.get n else !flags.get n) →
    (v = r.active → debounceAux flags s n = s.setAux n { r with pendingCount := 0 }) ∧
    (v ≠ r.active → r.pendingCount + 1 ≤ r.debounce →
      debounceAux flags s n = s.setAux n { r with pendingCount := r.pendingCount + 1 }) ∧
    (v ≠ r.active → r.debounce < r.pendingCount + 1 →
      debounceAux flags s n =
        (if v then activeEdge n else inactiveEdge n) (s.setAux n { r with active := v, pendingCount := 0 })) ∧
    ((handAux flags s).control.aux.get n).active =
      (if v ≠ r.active ∧ r.debounce < r.pendingCount + 1 then v else r.active) ∧
    ((handAux flags s).control.aux.get n).pendingCount =
      (if v = r.active ∨ r.debounce < r.pendingCount + 1 then 0 else r.pendingCount + 1) ∧
    ((handAux flags s).control.aux.get n).blockLatch = (r.blockLatch ||
      (decide (v = true ∧ r.active = false ∧ r.debounce < r.pendingCount + 1) && r.actions.block &&
        decide (r.kind = .edge)))) ∧
  (∀ (s : State) (n : Index4), let r := s.control.aux.get n
    (activeEdge n s).control.counters.activeEdges =
      s.control.counters.activeEdges.set n (bump (s.control.counters.activeEdges.get n)) ∧
    (r.actions.wake = true → s.control.mode = .quiescent →
      (activeEdge n s).control.mode = .waking ∧ (activeEdge n s).control.wakingCount = 0 ∧
      (activeEdge n s).control.wakingTarget =
        some (if s.params.wakeTarget = .run ∧ s.primaryMapped = true then .run else .park) ∧
      ((activeEdge n s).notices.records.get .mode).status = true) ∧
    (r.actions.wake = false ∨ s.control.mode ≠ .quiescent → (activeEdge n s).control.mode = s.control.mode) ∧
    ((activeEdge n s).control.aux.get n).blockLatch =
      (r.blockLatch || (r.actions.block && decide (r.kind = .edge))) ∧
    (r.actions.blank = true → s.control.blanking.state = .idle →
      (activeEdge n s).control.blanking = (if r.blankDelay = 0 then ⟨.active, r.blankWidth, r.blankWidth⟩
        else ⟨.pending, r.blankDelay, r.blankWidth⟩) ∧
      (activeEdge n s).control.counters.blankingPulses = bump s.control.counters.blankingPulses) ∧
    (r.actions.blank = true → s.control.blanking.state ≠ .idle →
      (activeEdge n s).control.counters.ignoredEdges = bump s.control.counters.ignoredEdges) ∧
    (r.actions.blank = false ∨ s.control.blanking.state ≠ .idle →
      (activeEdge n s).control.blanking = s.control.blanking) ∧
    (activeEdge n s).capture = (if r.actions.capture then (trigger (.aux n) s).capture else s.capture) ∧
    (r.actions.notice = true → ((activeEdge n s).notices.records.get .aux).status = true) ∧
    inactiveEdge n s = (if r.actions.notice = true ∧ r.kind = .level then raise .aux else id)
      (if r.actions.block then evalBase s else s)) ∧
  ∀ (s : State) (delay width : Nat),
    (s.control.blanking.state = .idle → ∀ c, c = { s.control.counters with
        blankingPulses := bump s.control.counters.blankingPulses } →
      (delay = 0 → startBlanking delay width s = evalBase (s.setControl { s.control with
        blanking := ⟨.active, width, width⟩, counters := c })) ∧
      (1 ≤ delay → startBlanking delay width s = s.setControl { s.control with
        blanking := ⟨.pending, delay, width⟩, counters := c })) ∧
    (s.control.blanking.state ≠ .idle → startBlanking delay width s = s.setControl { s.control with
      counters := { s.control.counters with ignoredEdges := bump s.control.counters.ignoredEdges } })

/-- R127: BANK_SET in the parked condition answers RANGE for its operands, then BUSY while a bank is transitional or the
named bank discharging, then RANGE for a sum above 12288; otherwise it writes the record, loads the dwell timer, raises
BANK_CHANGE if the state changed, and answers the new B_BANK. R113: which banks B_BANK sums. R114, R127: which banks are
transitional, and which the sum of the check takes. The states are coded by their places in R127's list (R196; log 22). -/
def Obligations.BankSetWritesRecord : Prop :=
  (∀ (s : State) (w : Index4 → Nat),
    (∀ n, w n = if (s.bankRec n).state = .inService ∨ (s.bankRec n).state = .opening ∨
        (s.bankRec n).state = .faulted ∧ (s.bankRec n).counted = true then (s.bankRec n).susceptance else 0) →
    s.bBank = w .i0 + w .i1 + w .i2 + w .i3) ∧
  (∀ (s : State) (n : Index4) (w : Index4 → Nat),
    (∀ m, w m = if m = n ∨ (s.bankRec m).state = .absent then 0 else (s.bankRec m).susceptance) →
    s.otherSusceptance n = w .i0 + w .i1 + w .i2 + w .i3) ∧
  (∀ s : State, s.anyTransitional = true ↔
    ∃ n, (s.bankRec n).state = .closing ∨ (s.bankRec n).state = .opening) ∧
  (bankSetState? 0 = some .inService ∧ bankSetState? 1 = some .out) ∧
  ∀ (s : State) (tag bank present state : Byte) (w : Half), Ready s → s.control.mode ≠ .run →
    s.control.release = .held →
    ((3 < bank.toNat ∨ 1 < present.toNat ∨ (present = 1 ∧ (4095 < w.toNat ∨ 1 < state.toNat))) →
      ∃ t, exec (.bankSet s.unitByte tag bank present w state) s = .next t ∧
        Settled (s.taken.replied tag 10 .range .empty) t) ∧
    (∀ n x, index4? bank = some n →
      ((present = 1 ∧ bankSetState? state = some x ∧ w.toNat ≤ 4095) ∨ (present = 0 ∧ x = .absent)) →
      ((s.anyTransitional = true ∨ (s.bankRec n).state = .discharging) →
        ∃ t, exec (.bankSet s.unitByte tag bank present w state) s = .next t ∧
          Settled (s.taken.replied tag 10 .busy .empty) t) ∧
      (s.anyTransitional = false → (s.bankRec n).state ≠ .discharging → present = 1 →
        12288 < s.otherSusceptance n + w.toNat →
        ∃ t, exec (.bankSet s.unitByte tag bank present w state) s = .next t ∧
          Settled (s.taken.replied tag 10 .range .empty) t) ∧
      (s.anyTransitional = false → (s.bankRec n).state ≠ .discharging →
        (present = 1 → s.otherSusceptance n + w.toNat ≤ 12288) →
        ∃ t u : State, exec (.bankSet s.unitByte tag bank present w state) s = .next t ∧
          Settled (u.replied tag 10 .done (.bankSet u.bBank)) t ∧
          u.banks = { s.banks with
            banks := s.banks.banks.set n ⟨x, if present = 1 then w.toNat else 0, false, none, none, none,
              (s.bankRec n).counters⟩
            dwell := some s.params.bankDwell } ∧
          u = (if (s.bankRec n).state = x then s.taken else s.taken.raised .bankChange).setBanks u.banks))

/-! ## Firing tables -/

/-- R73, R172: TABLE_WRITE writes the N + 1 entries of STAGED from start, one value repeated with fill; it is answered
BUSY or RANGE and writes nothing, or MALFORMED where its length is not what N and fill require. -/
def Obligations.TableWriteWritesStaged : Prop :=
  ∀ (s : State) (tag n fill : Byte) (start : Half) (values : List Half), Ready s → values.length ≤ 74 →
    (((fill = 1 ∧ values.length ≠ 1) ∨ (fill = 0 ∧ values.length ≠ n.toNat + 1)) →
      ∃ t, exec (.tableWrite s.unitByte tag start n fill values) s = .next t ∧
        Settled ((s.taken.setProcessor { s.taken.processor with counters := { s.taken.processor.counters with
          malformed := bump s.processor.counters.malformed } }).replied tag 12 .malformed .empty) t) ∧
    (((fill = 1 ∧ values.length = 1) ∨ (fill = 0 ∧ values.length = n.toNat + 1) ∨ 1 < fill.toNat) →
      (s.tables.commit.isSome = true →
        ∃ t, exec (.tableWrite s.unitByte tag start n fill values) s = .next t ∧
          Settled (s.taken.replied tag 12 .busy .empty) t) ∧
      (s.tables.commit = none → (1 < fill.toNat ∨ 63 < n.toNat ∨ 511 < start.toNat + n.toNat ∨
          ∃ v ∈ values, v.toNat < 4096 ∨ 8192 < v.toNat) →
        ∃ t, exec (.tableWrite s.unitByte tag start n fill values) s = .next t ∧
          Settled (s.taken.replied tag 12 .range .empty) t) ∧
      (s.tables.commit = none → fill.toNat ≤ 1 → n.toNat ≤ 63 → start.toNat + n.toNat ≤ 511 →
        (∀ v ∈ values, 4096 ≤ v.toNat ∧ v.toNat ≤ 8192) → s.tables.staged.length = 512 →
        ∃ t staged, exec (.tableWrite s.unitByte tag start n fill values) s = .next t ∧
          Settled ((s.taken.setTables { s.tables with staged := staged }).replied tag 12 .done
            (.tableWrite start.toNat (n.toNat + 1))) t ∧
          staged.length = 512 ∧
          ∀ i, staged[i]? = if start.toNat ≤ i ∧ i ≤ start.toNat + n.toNat then
              (if fill = 1 then values[0]? else values[i - start.toNat]?).map BitVec.toNat
            else s.tables.staged[i]?))

/-- R75: TABLE_COPY copies ACTIVE into STAGED, or is answered BUSY while a commit is pending. -/
def Obligations.TableCopyCopiesActive : Prop :=
  ∀ (s : State) (tag : Byte), Ready s →
    (s.tables.commit.isSome = true →
      ∃ t, exec (.tableCopy s.unitByte tag) s = .next t ∧ Settled (s.taken.replied tag 14 .busy .empty) t) ∧
    (s.tables.commit = none →
      ∃ t, exec (.tableCopy s.unitByte tag) s = .next t ∧
        Settled ((s.taken.setTables { s.tables with staged := s.tables.active }).replied tag 14 .done .empty) t)

/-- R77, R78, R79: TABLE_COMMIT is answered BUSY while a commit is pending, NOT_MONOTONIC with the smallest index whose
entry of STAGED is greater than the entry before it, exchanges the banks at once outside RELEASED, and becomes pending
with its tag, without reply, in RELEASED. -/
def Obligations.TableCommitChecksAndExchanges : Prop :=
  (∀ bank : List Nat,
    (∀ k, firstRise 0 bank = some k →
      1 ≤ k ∧ (∃ a b, bank[k - 1]? = some a ∧ bank[k]? = some b ∧ a < b) ∧
        ∀ j, 1 ≤ j → j < k → ∀ a b, bank[j - 1]? = some a → bank[j]? = some b → b ≤ a) ∧
    (firstRise 0 bank = none →
      ∀ j, 1 ≤ j → ∀ a b, bank[j - 1]? = some a → bank[j]? = some b → b ≤ a)) ∧
  ∀ (s : State) (tag : Byte), Ready s →
    (s.tables.commit.isSome = true →
      ∃ t, exec (.tableCommit s.unitByte tag) s = .next t ∧ Settled (s.taken.replied tag 15 .busy .empty) t) ∧
    (∀ i, s.tables.commit = none → firstRise 0 s.tables.staged = some i →
      ∃ t, exec (.tableCommit s.unitByte tag) s = .next t ∧
        Settled ((s.taken.setTables { s.tables with counters := { s.tables.counters with
          notMonotonic := bump s.tables.counters.notMonotonic } }).replied tag 15 .notMonotonic
            (.notMonotonic i)) t) ∧
    (s.tables.commit = none → firstRise 0 s.tables.staged = none → s.control.release ≠ .released →
      ∃ t, exec (.tableCommit s.unitByte tag) s = .next t ∧
        Settled ((s.taken.setTables { s.tables with
          active := s.tables.staged
          staged := s.tables.active
          counters := { s.tables.counters with immediate := bump s.tables.counters.immediate } }).replied tag 15
            .done (.commit .immediate)) t) ∧
    (s.tables.commit = none → firstRise 0 s.tables.staged = none → s.control.release = .released →
      exec (.tableCommit s.unitByte tag) s = .next (s.taken.setTables { s.tables with commit := some tag }))

/-- R81, R83: a POS event of branch AB completes a pending commit: the banks are exchanged and DONE is created with the
recorded tag and the event's h; no other event touches the Table Store. -/
def Obligations.AbCrossingCompletesCommit : Prop :=
  ∀ (s : State) (ev : CrossingEvent) (tag : Byte), s.tables.commit = some tag →
    (ev.branch = .ab → ev.polarity = .pos →
      tableEvent ev s = (s.setTables ⟨s.tables.staged, s.tables.active, none, { s.tables.counters with
        crossing := bump s.tables.counters.crossing }⟩).setProcessor { s.processor with
          replies := s.processor.replies ++ [⟨s.straps.unit, tag, 15, .done, .commit (.abCrossing ev.h)⟩] }) ∧
    (¬(ev.branch = .ab ∧ ev.polarity = .pos) → tableEvent ev s = s)

/-! ## Mode, release and blocking -/

/-- R145, R146: what the base conditions and a block cause are. R146, R149, R150: evaluating the base conditions
starts QUALIFYING from HELD when they hold, and moves any other state to HELD when they fail, raising RELEASE; leaving
RELEASED zeroes carries and clamp counters and turns every queued order to BLOCK. R147, R148: the qualifying count and
the gate of valve ready. R136, R137, R139, R140: what an evaluation of the supply does: validity, dip, the dip monitor
and recovery, all before the base conditions, and the onset or end of a dip after them. That the dip count becomes 0
at the end of a dip, and at an interruption declared with tolerance 0, is the model's reading (log 29): R137 gives no
count there. -/
def Obligations.BaseConditionsMoveRelease : Prop :=
  (∀ s : State,
    (s.baseConditions = true ↔
      s.control.mode = .run ∧ s.control.supplyValid = true ∧ s.blockCause = false) ∧
    (s.blockCause = true ↔
      (∃ b, s.control.trips.gap.get b = true ∨ s.control.trips.report.get b = true ∨
        s.control.trips.misfire.get b = true) ∨
      s.control.trips.valve ≠ none ∨ s.control.blanking.state = .active ∨
      ((s.params.blockSelect = .directed ∨ s.params.blockSelect = .merged) ∧ s.control.directedBlock = true) ∨
      ((s.params.blockSelect = .aux ∨ s.params.blockSelect = .merged) ∧
        ∃ n, (s.control.aux.get n).blockLatch = true ∨ (s.control.aux.get n).kind = .level ∧
          (s.control.aux.get n).actions.block = true ∧ (s.control.aux.get n).active = true))) ∧
  (∀ s : State,
    (s.baseConditions = true → s.control.release = .held →
      evalBase s = raise .release (s.setControl { s.control with release := .qualifying, qualifyCount := 0 })) ∧
    (s.baseConditions = true → s.control.release ≠ .held → evalBase s = s) ∧
    (s.baseConditions = false → s.control.release = .held → evalBase s = s) ∧
    (s.baseConditions = false → s.control.release = .qualifying →
      evalBase s = raise .release (s.setControl { s.control with
        release := .held
        qualifyCount := 0
        counters := { s.control.counters with qualifyRestart := bump s.control.counters.qualifyRestart } })) ∧
    (s.baseConditions = false → s.control.release = .awaitingReady →
      evalBase s = raise .release (s.setControl { s.control with release := .held, qualifyCount := 0 })) ∧
    (s.baseConditions = false → s.control.release = .released → ∃ t, evalBase s = t ∧
      t.control = { s.control with
        release := .held
        qualifyCount := 0
        counters := { s.control.counters with releaseLost := bump s.control.counters.releaseLost } } ∧
      (∀ b, t.demand.get b = { s.demand.get b with carry := 0, clamp := 0 }) ∧
      (∀ o, VFrame.order o ∈ t.exchange.queue → o.angle = 8192) ∧
      t.exchange.queue.length = s.exchange.queue.length ∧ t.exchange.transmitter = s.exchange.transmitter ∧
      t.exchange.branches = s.exchange.branches ∧ t.tables.commit = none ∧
      (s.tables.commit = none → t.tables = s.tables ∧ t.processor = s.processor) ∧
      (∀ tag, s.tables.commit = some tag →
        t.tables.active = s.tables.staged ∧ t.tables.staged = s.tables.active ∧
        t.processor.replies = s.processor.replies ++ [⟨s.straps.unit, tag, 15, .done, .commit .releaseDrop⟩]) ∧
      (t.notices.records.get .release).status = true ∧ t.params = s.params ∧ t.asm = s.asm ∧
      t.trackers = s.trackers ∧ t.banks = s.banks ∧ t.capture = s.capture ∧ t.ports = s.ports)) ∧
  (∀ s : State,
    (gainRelease s).control = { s.control with
      release := .released
      counters := { s.control.counters with releaseGained := bump s.control.counters.releaseGained } } ∧
    ((gainRelease s).notices.records.get .release).status = true ∧
    (s.control.valveReady = true →
      (s.params.releaseBase + s.params.releaseExtra ≤ s.control.qualifyCount + 1 →
        countQualifying s = gainRelease (s.setControl { s.control with
          qualifyCount := s.control.qualifyCount + 1 }))) ∧
    (s.control.valveReady = false →
      s.params.releaseBase + s.params.releaseExtra ≤ s.control.qualifyCount + 1 →
        countQualifying s = raise .release (s.setControl { s.control with
          qualifyCount := s.control.qualifyCount + 1, release := .awaitingReady })) ∧
    (s.control.qualifyCount + 1 < s.params.releaseBase + s.params.releaseExtra →
      countQualifying s = s.setControl { s.control with qualifyCount := s.control.qualifyCount + 1 }) ∧
    (∀ ev, s.control.mode ≠ .waking →
      (ev.branch = .ab → ev.polarity = .pos → s.control.release = .qualifying →
        controlEvent ev s = countQualifying s) ∧
      (¬(ev.branch = .ab ∧ ev.polarity = .pos ∧ s.control.release = .qualifying) → controlEvent ev s = s)) ∧
    (s.control.release = .awaitingReady → handReady true s =
      gainRelease (s.setControl { s.control with valveReady := true })) ∧
    (s.control.release = .released →
      (handReady false s).control = { s.control with
        valveReady := false
        release := .awaitingReady
        counters := { s.control.counters with releaseLost := bump s.control.counters.releaseLost } } ∧
      (∀ b, (handReady false s).demand.get b = { s.demand.get b with carry := 0, clamp := 0 }) ∧
      (∀ o, VFrame.order o ∈ (handReady false s).exchange.queue → o.angle = 8192) ∧
      (handReady false s).exchange.queue.length = s.exchange.queue.length ∧
      (handReady false s).tables.commit = none ∧
      ((handReady false s).notices.records.get .release).status = true) ∧
    (∀ v, ¬(v = true ∧ s.control.release = .awaitingReady) → ¬(v = false ∧ s.control.release = .released) →
      handReady v s = s.setControl { s.control with valveReady := v })) ∧
  ∀ s : State, ∃ u w : State,
    w = evalBase u ∧ u.params = s.params ∧ u.asm = s.asm ∧ u.trackers = s.trackers ∧ u.exchange = s.exchange ∧
    u.demand = s.demand ∧ u.tables = s.tables ∧ u.banks = s.banks ∧ u.capture = s.capture ∧
    (∀ valid dip, valid = s.supplyIsValid → dip = s.dipPresent →
      (valid = true ↔ ∀ b, ((s.trackers.get b).state = .locked ∨ (s.trackers.get b).state = .holdover) ∧
        s.params.vValid ≤ (s.trackers.get b).magnitude) ∧
      (dip = true ↔ ∃ b, (s.trackers.get b).state = .unlocked ∨ (s.trackers.get b).magnitude < s.params.vDip) ∧
      (¬(valid = true ∧ s.control.supplyValid = false) →
        u.control = { s.control with supplyValid := valid, dip := dip }) ∧
      (valid = true → s.control.supplyValid = false → ∀ watch, watch =
          (if s.control.dipState = .timing then DipState.timing else .watching) →
        (s.control.resume = none → u.control = { s.control with
          supplyValid := true, dip := dip, dipState := watch }) ∧
        (∀ g, s.control.resume = some g → ∀ x, x = (match s.params.resumePolicy with
            | .alwaysPark => Target.park
            | .alwaysRun => .run
            | .previous => g
            | .preset => s.params.resumePreset) →
          u.control = { s.control with
            supplyValid := true
            dip := dip
            dipState := watch
            resume := none
            mode := if x = .run ∧ s.primaryMapped = true then .run else .park
            wakingTarget := none
            wakingCount := 0
            counters := { s.control.counters with recoveries := bump s.control.counters.recoveries } } ∧
          (u.control.mode ≠ s.control.mode → (u.notices.records.get .mode).status = true))) ∧
      (dip = s.control.dip → evalSupply s = w) ∧
      (dip = true → s.control.dip = false →
        (w.control.dipState ≠ .watching → (evalSupply s).control = w.control) ∧
        (w.control.dipState = .watching → 1 ≤ s.params.dipTolerance → (evalSupply s).control = { w.control with
          dipState := .timing, dipCount := s.params.dipTolerance }) ∧
        (w.control.dipState = .watching → s.params.dipTolerance = 0 →
          (evalSupply s).control = { w.control with
            dipState := .spent
            dipCount := 0
            resume := (match w.control.mode with
              | .run => some .run
              | .park => some .park
              | .waking | .quiescent => w.control.resume)
            counters := { w.control.counters with
              dipInterruption := bump w.control.counters.dipInterruption } } ∧
          ((evalSupply s).notices.records.get .dip).status = true)) ∧
      (dip = false → s.control.dip = true →
        (w.control.dipState = .timing → (evalSupply s).control = { w.control with
          dipState := .watching, dipCount := 0 }) ∧
        (w.control.dipState ≠ .timing → evalSupply s = w)))

/-- R4: the primary quantities are mapped when none of the six is ABSENT. R132: MODE RUN and MODE PARK act by the mode
in which they are taken and cancel a pending resume; RUN is answered UNMAPPED while a primary quantity is ABSENT.
R131, R146: in RUN and PARK the mode is written, MODE raised where it changes, and the base conditions evaluated in
the state so written, so that MODE RUN starts QUALIFYING where they hold; in QUIESCENT and WAKING nothing but what the
table names changes. R134, R135: WAKING counts the real POS events of branch AB and ends, at the settle length, in its
target, or in PARK for a RUN that is not mapped. -/
def Obligations.ModeDirectiveSetsMode : Prop :=
  (∀ s : State, s.primaryMapped = true ↔ s.asm.map.ia ≠ none ∧ s.asm.map.ib ≠ none ∧ s.asm.map.ic ≠ none ∧
    s.asm.map.vab ≠ none ∧ s.asm.map.vbc ≠ none ∧ s.asm.map.vca ≠ none) ∧
  (∀ (s : State) (tag operand : Byte) (g : Target), Ready s → (operand = 0 ∧ g = .run ∨ operand = 1 ∧ g = .park) →
    (g = .run → s.primaryMapped = false →
      ∃ t, exec (.mode s.unitByte tag operand) s = .next t ∧
        Settled (s.taken.replied tag 16 .unmapped .empty) t) ∧
    ((g = .run → s.primaryMapped = true) →
      ∃ t u : State, exec (.mode s.unitByte tag operand) s = .next t ∧
        Settled (u.replied tag 16 .done (.mode u.control.mode u.control.wakingTarget)) t ∧
        u.control.resume = none ∧ u.params = s.params ∧ u.asm = s.asm ∧ u.trackers = s.trackers ∧
        u.banks = s.banks ∧ u.capture = s.capture ∧
        (s.control.mode = .run ∨ s.control.mode = .park →
          (∀ w, w = s.taken.setControl { s.control with
              mode := g.mode, wakingTarget := none, wakingCount := 0, resume := none } →
            u = evalBase (if s.control.mode = g.mode then w else w.raised .mode)) ∧
          u.control.mode = g.mode ∧ u.control.wakingTarget = none ∧ u.control.wakingCount = 0 ∧
          (g = .park → u.control.release = .held) ∧
          (g = .run → s.control.release = .held → s.control.supplyValid = true → s.blockCause = false →
            u.control.release = .qualifying ∧ u.control.qualifyCount = 0 ∧
            (u.notices.records.get .release).status = true) ∧
          (s.control.mode ≠ g.mode → (u.notices.records.get .mode).status = true)) ∧
        (s.control.mode = .quiescent →
          u = (s.taken.setControl { s.control with
            mode := .waking, wakingTarget := some g, wakingCount := 0, resume := none }).raised .mode) ∧
        (s.control.mode = .waking →
          u = s.taken.setControl { s.control with wakingTarget := some g, resume := none }))) ∧
  ∀ (s : State) (ev : CrossingEvent), s.control.mode = .waking →
    ((ev.branch ≠ .ab ∨ ev.polarity ≠ .pos ∨ ev.synthesized = true) → controlEvent ev s = s) ∧
    (ev.branch = .ab → ev.polarity = .pos → ev.synthesized = false →
      ∀ length, length = 8 * 2 ^ s.params.settleCode →
      (s.control.wakingCount + 1 < length →
        controlEvent ev s = s.setControl { s.control with wakingCount := s.control.wakingCount + 1 }) ∧
      (length ≤ s.control.wakingCount + 1 → ∀ g, s.control.wakingTarget = some g →
        ∃ u : State, controlEvent ev s = evalBase u ∧ u.control = { s.control with
            mode := if g = .run ∧ s.primaryMapped = true then .run else .park
            wakingTarget := none
            wakingCount := 0 } ∧
          (u.notices.records.get .mode).status = true ∧ u.params = s.params ∧ u.asm = s.asm ∧
          u.trackers = s.trackers ∧ u.demand = s.demand ∧ u.exchange = s.exchange ∧ u.tables = s.tables ∧
          u.banks = s.banks ∧ u.capture = s.capture ∧ u.processor = s.processor))

/-- R107, R132, R133: MODE QUIESCENT holds release, cancels a pending resume, discards the queued orders and the
outstanding lists, disowns an order in transmission, clears readiness and keeps bank orders; the rest is the state
with the mode written and MODE raised, its base conditions evaluated (R146, R150). The discard and the rewrite of R92
reach the queue in either order, as R107 allows, which only the rewritten counter shows. Taken in QUIESCENT it stays
and cancels a pending resume; another operand is answered RANGE. What a bank order is and what disowning does are
spelled out first. -/
def Obligations.ModeQuiescentQuiets : Prop :=
  ((∀ n a, (VFrame.bank n a).isBank = true) ∧ (∀ o, (VFrame.order o).isBank = false) ∧
    (∀ o x, VTransmission.disown ⟨.order o, x⟩ = ⟨.order o, true⟩) ∧
    ∀ n a x, VTransmission.disown ⟨.bank n a, x⟩ = ⟨.bank n a, x⟩) ∧
  (∀ (s : State) (tag : Byte), Ready s → s.control.mode ≠ .quiescent →
    ∃ t u : State, exec (.mode s.unitByte tag 2) s = .next t ∧
      Settled (u.replied tag 16 .done (.mode .quiescent none)) t ∧
      u.control.mode = .quiescent ∧ u.control.wakingTarget = none ∧ u.control.wakingCount = 0 ∧
      u.control.release = .held ∧ u.control.resume = none ∧
      (s.control.valveReady = s.allReady → u.control.valveReady = false) ∧
      u.exchange.queue = s.exchange.queue.filter VFrame.isBank ∧
      u.exchange.transmitter = s.exchange.transmitter.map VTransmission.disown ∧
      (∀ b, u.exchangeRec b = { s.exchangeRec b with outstanding := [], ready := false }) ∧
      (∀ w, w = (s.taken.setControl { s.control with
          mode := .quiescent, wakingTarget := none, wakingCount := 0, resume := none }).raised .mode →
        u.control = { (evalBase w).control with valveReady := u.control.valveReady } ∧
        u.demand = (evalBase w).demand ∧ u.tables = (evalBase w).tables ∧ u.processor = (evalBase w).processor ∧
        u.notices = (evalBase w).notices ∧
        (u.exchange.counters = s.exchange.counters ∨ u.exchange.counters = (evalBase w).exchange.counters)) ∧
      (u.notices.records.get .mode).status = true ∧ u.control.trips = s.control.trips ∧
      u.control.directedBlock = s.control.directedBlock ∧ u.control.aux = s.control.aux ∧
      u.control.blanking = s.control.blanking ∧ u.params = s.params ∧ u.asm = s.asm ∧ u.trackers = s.trackers ∧
      u.banks = s.banks ∧ u.capture = s.capture) ∧
  (∀ (s : State) (tag operand : Byte), Ready s → 2 < operand.toNat →
    ∃ t, exec (.mode s.unitByte tag operand) s = .next t ∧ Settled (s.taken.replied tag 16 .range .empty) t) ∧
  ∀ (s : State) (tag : Byte), Ready s → s.control.mode = .quiescent →
    ∃ t, exec (.mode s.unitByte tag 2) s = .next t ∧
      Settled ((s.taken.setControl { s.control with resume := none }).replied tag 16 .done
        (.mode .quiescent s.control.wakingTarget)) t

/-- R144: BLOCK SET and CLEAR write the directed block flag and have the block cause evaluated; another operand is
answered RANGE. That operand 0 is SET and 1 is CLEAR, their places in R144's list (R196), is the model's reading (log 22). -/
def Obligations.BlockWritesDirectedFlag : Prop :=
  ∀ (s : State) (tag operand : Byte), Ready s →
    (∀ v, (operand = 0 ∧ v = true ∨ operand = 1 ∧ v = false) →
      ∃ t u : State, u = evalBase (s.taken.setControl { s.control with directedBlock := v }) ∧
        exec (.block s.unitByte tag operand) s = .next t ∧
        Settled (u.replied tag 17 .done (.block v u.control.release)) t) ∧
    (1 < operand.toNat →
      ∃ t, exec (.block s.unitByte tag operand) s = .next t ∧ Settled (s.taken.replied tag 17 .range .empty) t)

/-- R143: TRIP_CLEAR empties the trip record and the aux block latches, sets every branch's gap, timeout and misfire
counts to 0, and has the block cause evaluated. -/
def Obligations.TripClearClearsTrips : Prop :=
  ∀ (s : State) (tag : Byte), Ready s →
    ∃ t v : State, exec (.tripClear s.unitByte tag) s = .next t ∧
      Settled ((evalBase v).replied tag 18 .done .empty) t ∧
      v.control.trips = ⟨⟨false, false, false⟩, ⟨false, false, false⟩, ⟨false, false, false⟩, none, 0⟩ ∧
      (∀ n, v.control.aux.get n = { s.control.aux.get n with blockLatch := false }) ∧
      (∀ b, v.demand.get b = { s.demand.get b with gapCount := 0 }) ∧
      (∀ b, v.exchangeRec b = { s.exchangeRec b with timeoutRun := 0, misfireRun := 0 }) ∧
      v = ((s.taken.setDemand v.demand).setExchange { s.exchange with branches := v.exchange.branches }).setControl
        { s.control with trips := v.control.trips, aux := v.control.aux }

/-! ## Capture -/

/-- R164: CAPTURE_SET empties the buffer, takes mode and POST, and restarts or stops the unit; it is answered RANGE or
BUSY and changes nothing otherwise. -/
def Obligations.CaptureSetRestartsUnit : Prop :=
  ∀ (s : State) (tag mode : Byte) (post : Half), Ready s →
    ((captureMode? mode = none ∨ 1023 < post.toNat) →
      ∃ t, exec (.captureSet s.unitByte tag mode post) s = .next t ∧
        Settled (s.taken.replied tag 19 .range .empty) t) ∧
    (∀ m, captureMode? mode = some m → post.toNat ≤ 1023 →
      (m ≠ .bypass → (s.capture.state = .running ∨ s.capture.state = .triggered) →
        ∃ t, exec (.captureSet s.unitByte tag mode post) s = .next t ∧
          Settled (s.taken.replied tag 19 .busy .empty) t) ∧
      ((m = .bypass ∨ (s.capture.state ≠ .running ∧ s.capture.state ≠ .triggered)) →
        ∃ t x, x = (if m = .bypass then CaptureState.off else CaptureState.running) ∧
          exec (.captureSet s.unitByte tag mode post) s = .next t ∧
          Settled ((s.taken.setCapture ⟨m, x, [], post.toNat, 0, none, s.capture.counters⟩).replied tag 19 .done
            (.captureSet m post.toNat x)) t))

/-- R163: CAPTURE_TRIGGER in RUNNING makes the unit TRIGGERED with the post count loaded, or FROZEN with POST 0; in
any other state it is answered IGNORED. A trigger from any source acts so. -/
def Obligations.CaptureTriggerTriggersRunningUnit : Prop :=
  (∀ (s : State) (x : TriggerSource),
    (s.capture.state = .running → 1 ≤ s.capture.post → trigger x s = s.setCapture { s.capture with
      state := .triggered, postCount := s.capture.post, trigger := some x }) ∧
    (s.capture.state = .running → s.capture.post = 0 → trigger x s = raise .capture (s.setCapture { s.capture with
      state := .frozen, trigger := some x })) ∧
    (s.capture.state ≠ .running → trigger x s = s)) ∧
  ∀ (s : State) (tag : Byte), Ready s →
    (s.capture.state = .running → 1 ≤ s.capture.post →
      ∃ t, exec (.captureTrigger s.unitByte tag) s = .next t ∧
        Settled ((s.taken.setCapture { s.capture with
          state := .triggered, postCount := s.capture.post, trigger := some .directive }).replied tag 20 .done
            (.captureTrigger .triggered)) t) ∧
    (s.capture.state = .running → s.capture.post = 0 →
      ∃ t, exec (.captureTrigger s.unitByte tag) s = .next t ∧
        Settled (((s.taken.setCapture { s.capture with
          state := .frozen, trigger := some .directive }).raised .capture).replied tag 20 .done
            (.captureTrigger .frozen)) t) ∧
    (s.capture.state ≠ .running →
      ∃ t, exec (.captureTrigger s.unitByte tag) s = .next t ∧
        Settled (s.taken.replied tag 20 .ignored .empty) t)

/-- R165, R166: CAPTURE_READ removes the oldest records, as many as asked for and held, and answers them, or is answered
RANGE; CAPTURE_FLUSH empties the buffer and returns the unit to RUNNING unless it is OFF. -/
def Obligations.CaptureReadAndFlushTakeRecords : Prop :=
  ∀ (s : State) (tag n : Byte), Ready s →
    (1 ≤ n.toNat → n.toNat ≤ 12 →
      ∃ t, exec (.captureRead s.unitByte tag n) s = .next t ∧
        Settled ((s.taken.setCapture { s.capture with buffer := s.capture.buffer.drop n.toNat }).replied tag 21 .done
          (.captureRead (s.capture.buffer.length - n.toNat) s.capture.state s.capture.postCount s.capture.trigger
            (s.capture.buffer.take n.toNat))) t) ∧
    ((n.toNat = 0 ∨ 12 < n.toNat) →
      ∃ t, exec (.captureRead s.unitByte tag n) s = .next t ∧ Settled (s.taken.replied tag 21 .range .empty) t) ∧
    ∃ t x, x = (if s.capture.state = .off then CaptureState.off else CaptureState.running) ∧
      exec (.captureFlush s.unitByte tag) s = .next t ∧
      Settled ((s.taken.setCapture { s.capture with
        state := x, buffer := [], postCount := 0, trigger := none }).replied tag 22 .done
          (.captureFlush s.capture.buffer.length x)) t

/-- R161, R162, Table 8-4: what becomes of an offered record. -/
def Obligations.OfferedRecordIsTaken : Prop :=
  ∀ (s : State) (r : CaptureRecord), let c := s.capture
    (c.state = .off → offerRecord r s = s) ∧
    (c.state = .frozen → offerRecord r s = s.setCapture { c with
      counters := { c.counters with refused := bump c.counters.refused } }) ∧
    (c.state = .running ∨ c.state = .triggered → c.mode = .stopOnFull → 1024 ≤ c.buffer.length →
      offerRecord r s = raise .capture (s.setCapture { c with
        state := .frozen, counters := { c.counters with refused := bump c.counters.refused } })) ∧
    (c.state = .running → c.buffer.length < 1024 →
      offerRecord r s = s.setCapture { c with
        buffer := c.buffer ++ [r], counters := { c.counters with accepted := bump c.counters.accepted } }) ∧
    (c.state = .running → c.mode ≠ .stopOnFull → 1024 ≤ c.buffer.length →
      offerRecord r s = s.setCapture { c with
        buffer := c.buffer.drop 1 ++ [r]
        counters := { c.counters with
          accepted := bump c.counters.accepted, overwritten := bump c.counters.overwritten } }) ∧
    (c.state = .triggered → c.buffer.length < 1024 → 1 < c.postCount →
      offerRecord r s = s.setCapture { c with
        buffer := c.buffer ++ [r]
        postCount := c.postCount - 1
        counters := { c.counters with accepted := bump c.counters.accepted } }) ∧
    (c.state = .triggered → c.buffer.length < 1024 → c.postCount = 1 →
      offerRecord r s = raise .capture (s.setCapture { c with
        state := .frozen
        buffer := c.buffer ++ [r]
        postCount := 0
        counters := { c.counters with accepted := bump c.counters.accepted } })) ∧
    (c.state = .triggered → c.mode ≠ .stopOnFull → 1024 ≤ c.buffer.length → 1 < c.postCount →
      offerRecord r s = s.setCapture { c with
        buffer := c.buffer.drop 1 ++ [r]
        postCount := c.postCount - 1
        counters := { c.counters with
          accepted := bump c.counters.accepted, overwritten := bump c.counters.overwritten } }) ∧
    (c.state = .triggered → c.mode ≠ .stopOnFull → 1024 ≤ c.buffer.length → c.postCount = 1 →
      offerRecord r s = raise .capture (s.setCapture { c with
        state := .frozen
        buffer := c.buffer.drop 1 ++ [r]
        postCount := 0
        counters := { c.counters with
          accepted := bump c.counters.accepted, overwritten := bump c.counters.overwritten } }))

/-! ## Notices, admission and resets -/

/-- R189: NOTICE_SET writes a source's enable flag and level and keeps its status and sent flag, or is answered
RANGE. -/
def Obligations.NoticeSetWritesEnableAndLevel : Prop :=
  ∀ (s : State) (tag source enable level : Byte), Ready s →
    (∀ n e, noticeSource? source = some n → flag? enable = some e → level.toNat ≤ 1 →
      ∃ t, exec (.noticeSet s.unitByte tag source enable level) s = .next t ∧
        Settled ((s.taken.setNotices { s.notices with
          records := (s.notices.records.set n
            { s.notices.records.get n with enable := e, level := level.toNat }) }).replied tag 23 .done
              (.noticeSet { s.notices.records.get n with enable := e, level := level.toNat })) t) ∧
    ((11 < source.toNat ∨ 1 < enable.toNat ∨ 1 < level.toNat) →
      ∃ t, exec (.noticeSet s.unitByte tag source enable level) s = .next t ∧
        Settled (s.taken.replied tag 23 .range .empty) t)

/-- R190: NOTICE_CLEAR clears status and sent of each source named, keeps enable and level, and answers the named
sources whose status was set; a set that names a source above 11 is answered RANGE. -/
def Obligations.NoticeClearClearsNamedSources : Prop :=
  ∀ (s : State) (tag : Byte) (sources : Half), Ready s →
    (sources.toNat < 4096 →
      ∃ (t u : State) (x : PerNotice Bool), exec (.noticeClear s.unitByte tag sources) s = .next t ∧
        Settled (u.replied tag 24 .done (.noticeClear x)) t ∧
        u = s.taken.setNotices { s.notices with records := u.notices.records } ∧
        (∀ n, x.get n = (sources.getLsbD n.number && (s.notices.records.get n).status)) ∧
        ∀ n, u.notices.records.get n = if sources.getLsbD n.number then
            { s.notices.records.get n with status := false, sent := false }
          else s.notices.records.get n) ∧
    (4096 ≤ sources.toNat →
      ∃ t, exec (.noticeClear s.unitByte tag sources) s = .next t ∧
        Settled (s.taken.replied tag 24 .range .empty) t)

/-- R170: a directive frame of another unit is discarded and counted; one that finds four directives waiting is
answered QUEUE_FULL where the reply list has a free place and is discarded where it has none; one that finds room
behind an unanswered directive waits. R172, R173: when a directive can be taken, and which places are used. Table
11-3: the frame of each kind is that kind's command (log 2, the model's reading). R172: a directive that can be taken
at once acts, and is answered unless its reply is deferred. -/
def Obligations.DirectiveFrameIsAdmitted : Prop :=
  (∀ s : State, (s.canTake = true ↔ s.processor.queue ≠ [] ∧ s.processor.pacing = none ∧ s.usedPlaces < 8 ∧
      s.processor.resetWait = false) ∧
    s.usedPlaces = s.processor.replies.length + (if s.tables.commit = none then 0 else 1)) ∧
  (∀ (s : State) (u t a b c d e f g : Byte), exec (.directiveFrame u t 1 []) s = exec (.identify u t) s ∧
    exec (.directiveFrame u t 2 []) s = exec (.status u t) s ∧
    exec (.directiveFrame u t 3 [a, b]) s = exec (.counters u t a b) s ∧
    exec (.directiveFrame u t 4 []) s = exec (.stamp u t) s ∧
    exec (.directiveFrame u t 5 [a]) s = exec (.get u t a) s ∧
    exec (.directiveFrame u t 6 [a, b, c, d, e]) s = exec (.set u t a (b ++ c ++ (d ++ e))) s ∧
    exec (.directiveFrame u t 7 [a, b, c]) s = exec (.mapSet u t a b c) s ∧
    exec (.directiveFrame u t 8 [a, b, c, d, e]) s = exec (.sourceSet u t a b c d e) s ∧
    exec (.directiveFrame u t 9 [a, b, c, d, e, f, g]) s = exec (.auxSet u t a b c d e f g) s ∧
    exec (.directiveFrame u t 10 [a, b, c, d, e]) s = exec (.bankSet u t a b (c ++ d) e) s ∧
    exec (.directiveFrame u t 11 [a, b]) s = exec (.bankForce u t a b) s ∧
    exec (.directiveFrame u t 13 [a, b, c, d]) s = exec (.tableRead u t a (b ++ c) d) s ∧
    exec (.directiveFrame u t 14 []) s = exec (.tableCopy u t) s ∧
    exec (.directiveFrame u t 15 []) s = exec (.tableCommit u t) s ∧
    exec (.directiveFrame u t 16 [a]) s = exec (.mode u t a) s ∧
    exec (.directiveFrame u t 17 [a]) s = exec (.block u t a) s ∧
    exec (.directiveFrame u t 18 []) s = exec (.tripClear u t) s ∧
    exec (.directiveFrame u t 19 [a, b, c]) s = exec (.captureSet u t a (b ++ c)) s ∧
    exec (.directiveFrame u t 20 []) s = exec (.captureTrigger u t) s ∧
    exec (.directiveFrame u t 21 [a]) s = exec (.captureRead u t a) s ∧
    exec (.directiveFrame u t 22 []) s = exec (.captureFlush u t) s ∧
    exec (.directiveFrame u t 23 [a, b, c]) s = exec (.noticeSet u t a b c) s ∧
    exec (.directiveFrame u t 24 [a, b]) s = exec (.noticeClear u t (a ++ b)) s ∧
    exec (.directiveFrame u t 25 [0]) s = exec (.resetEngine u t) s ∧
    exec (.directiveFrame u t 25 [1]) s = exec (.resetFull u t) s ∧
    ∀ values : List Half, exec (.directiveFrame u t 12 (a :: b :: c :: d :: values.flatMap halfBytes)) s =
      exec (.tableWrite u t (a ++ b) c d values) s) ∧
  (∀ (s v : State) (tag kind : Byte) (ops : List Byte), Ready s → ops.length ≤ 153 →
    (act ⟨tag, kind, decodeRequest kind ops⟩ s.taken = (v, none) →
      exec (.directiveFrame s.unitByte tag kind ops) s = .next v) ∧
    ∀ code data, act ⟨tag, kind, decodeRequest kind ops⟩ s.taken = (v, some (code, data)) → kind ≠ 25 →
      ∃ t, exec (.directiveFrame s.unitByte tag kind ops) s = .next t ∧ Settled (v.replied tag kind code data) t) ∧
  ∀ (s : State) (unit tag kind : Byte) (ops : List Byte), s.rstn = true → ops.length ≤ 153 → s.canTake = false →
    s.notices.transmitter.isSome = true →
    (unit ≠ s.unitByte →
      exec (.directiveFrame unit tag kind ops) s = .next (s.received.setProcessor { s.processor with
        counters := { s.processor.counters with wrongUnit := bump s.processor.counters.wrongUnit } })) ∧
    (unit = s.unitByte → 4 ≤ s.processor.queue.length → s.usedPlaces < 8 →
      exec (.directiveFrame unit tag kind ops) s = .next (s.received.setProcessor { s.processor with
        replies := s.processor.replies ++ [⟨s.straps.unit, tag, kind, .queueFull, .empty⟩]
        counters := { s.processor.counters with queueFull := bump s.processor.counters.queueFull } })) ∧
    (unit = s.unitByte → 4 ≤ s.processor.queue.length → 8 ≤ s.usedPlaces →
      exec (.directiveFrame unit tag kind ops) s = .next (s.received.setProcessor { s.processor with
        counters := { s.processor.counters with discarded := bump s.processor.counters.discarded } })) ∧
    (unit = s.unitByte → s.processor.queue.length < 4 → s.processor.pacing.isSome = true →
      exec (.directiveFrame unit tag kind ops) s = .next (s.received.setProcessor { s.processor with
        queue := s.processor.queue ++ [⟨tag, kind, decodeRequest kind ops⟩] }))

/-- R172, steps 1 and 2: a directive of unknown kind, or whose operands have not the length its kind and operands
require, is answered so and counted. -/
def Obligations.UnknownAndMalformedDirectivesAreAnswered : Prop :=
  ∀ (s : State) (tag kind : Byte) (ops : List Byte), Ready s → ops.length ≤ 153 →
    ((kind = 0 ∨ 25 < kind.toNat) →
      ∃ t, exec (.directiveFrame s.unitByte tag kind ops) s = .next t ∧
        Settled ((s.taken.setProcessor { s.taken.processor with counters := { s.taken.processor.counters with
          unknownKind := bump s.processor.counters.unknownKind } }).replied tag kind .unknownKind .empty) t) ∧
    (((∃ n, (kind, n) ∈ ([(1, 0), (2, 0), (3, 2), (4, 0), (5, 1), (6, 5), (7, 3), (8, 5), (9, 7), (10, 5), (11, 2),
          (13, 4), (14, 0), (15, 0), (16, 1), (17, 1), (18, 0), (19, 3), (20, 0), (21, 1), (22, 0), (23, 3), (24, 2),
          (25, 1)] : List (Byte × Nat)) ∧ ops.length ≠ n) ∨ (kind = 12 ∧ ops.length < 4)) →
      ∃ t, exec (.directiveFrame s.unitByte tag kind ops) s = .next t ∧
        Settled ((s.taken.setProcessor { s.taken.processor with counters := { s.taken.processor.counters with
          malformed := bump s.processor.counters.malformed } }).replied tag kind .malformed .empty) t)

/-- R26, R45, R70, R85, R108, R130, R157, R169, R185, Table 9-7: what RESET ENGINE clears and keeps. R184, R192: its
reply is created after the reset, so that an idle M transmitter begins a notice that the reset raised, or ABORTED,
before it. What a bank order is, and what disowning an order in transmission does, are spelled out in
ModeQuiescentQuiets. -/
def Obligations.EngineResetClearsRealTimeState : Prop :=
  (∀ s : State, s.someTracking = true ↔ ∃ b, (s.trackers.get b).state ≠ .unlocked) ∧
  ∀ (s : State) (tag : Byte), Ready s →
    ∃ t u : State, exec (.resetEngine s.unitByte tag) s = .next t ∧
      Settled ((moment u).answered tag 25 .done (.reset .engine)) t ∧ u.notices.front = s.notices.front ∧
      (s.notices.transmitter = none → s.notices.front = none → (u.eligible ≠ [] ∨ s.tables.commit ≠ none) →
        t.notices.transmitter ≠ some (.reply ⟨s.straps.unit, tag, 25, .done, .reset .engine⟩)) ∧
      u.asm.queue = [] ∧ u.asm.expected = none ∧ u.asm.lastReleased = none ∧ u.asm.silence = none ∧
      (∀ q, u.asm.windows.get q = ⟨List.replicate 64 ⟨none, false⟩, none, 0⟩) ∧ u.asm.map = s.asm.map ∧
      u.asm.counters = s.asm.counters ∧
      (∀ n, u.asm.sources.get n = if (s.asm.sources.get n).alignment = .disabled then s.asm.sources.get n else
        { s.asm.sources.get n with alignment := .seeking, missRun := 0 }) ∧
      (∀ b, u.trackers.get b = ⟨.unlocked, 8192, [], 0, false, false, none, none, 0, none, 0,
        (s.trackers.get b).spurious⟩) ∧
      (∀ b, u.demand.get b = ⟨0, 0, 0, 0, none, (s.demand.get b).counters⟩) ∧
      u.tables.active = s.tables.active ∧ u.tables.staged = s.tables.staged ∧ u.tables.commit = none ∧
      (s.tables.commit = none → u.tables = s.tables ∧ u.processor = s.taken.processor) ∧
      (∀ x, s.tables.commit = some x →
        u.tables.counters = { s.tables.counters with aborted := bump s.tables.counters.aborted } ∧
        u.processor = { s.taken.processor with
          replies := s.processor.replies ++ [⟨s.straps.unit, x, 15, .aborted, .empty⟩] }) ∧
      u.exchange.queue = s.exchange.queue.filter VFrame.isBank ∧
      u.exchange.transmitter = s.exchange.transmitter.map VTransmission.disown ∧
      (∀ b, u.exchangeRec b = ⟨[], false, 0, 0, (s.exchangeRec b).counters⟩) ∧
      u.exchange.counters = s.exchange.counters ∧
      u.banks = s.banks ∧ u.capture = s.capture ∧ u.params = s.params ∧
      u.control.release = .held ∧ u.control.qualifyCount = 0 ∧ u.control.dipState = .unarmed ∧
      u.control.wakingCount = 0 ∧ u.control.mode = s.control.mode ∧
      u.control.wakingTarget = s.control.wakingTarget ∧ u.control.trips = s.control.trips ∧
      u.control.directedBlock = s.control.directedBlock ∧ u.control.aux = s.control.aux ∧
      u.control.blanking = s.control.blanking ∧ u.control.resume = s.control.resume ∧
      u.control.counters = s.control.counters ∧
      (∀ n, (u.notices.records.get n).status = ((s.notices.records.get n).status ||
        (decide (n = .tracker) && s.someTracking) ||
        (decide (n = .release) && decide (s.control.release ≠ .held))))

/-- R184, R186: RESET FULL answers DONE and sets the reset wait, and nothing else changes; a scope that is neither is
answered RANGE. -/
def Obligations.FullResetWaitsForItsReply : Prop :=
  (∀ (s : State) (tag : Byte), Ready s →
    ∃ t, exec (.resetFull s.unitByte tag) s = .next t ∧
      Settled ((s.taken.setProcessor { s.taken.processor with resetWait := true }).replied tag 25 .done
        (.reset .full)) t) ∧
  (∀ (s : State) (tag scope : Byte), Ready s → 1 < scope.toNat →
    ∃ t, exec (.directiveFrame s.unitByte tag 25 [scope]) s = .next t ∧
      Settled (s.taken.replied tag 25 .range .empty) t)

/-- R173, R186, R192: at the completion of a frame the oldest reply begins, otherwise the eligible source of highest
level and lowest number, otherwise none; at the completion of a RESET FULL reply the power-on values are taken without
latching the straps. R172, R173: when the pacing reply begins, a waiting directive is taken and answered; while
another reply begins, none is. R189: when a source is eligible. R186: which frame the reset wait awaits. R191, Table
10-3: what each source's snapshot carries. R192: what the beginning of a reply and of a notice does; what an idle
transmitter is offered first in a step, and that a directive's own reply is among it only as the oldest reply, is the
model's choice (log 13). -/
def Obligations.TransmitCompletionChoosesNext : Prop :=
  (∀ (s : State) (r : Reply) (rest : List Reply), s.processor.replies = r :: rest →
    beginReply s = (s.setProcessor { s.processor with
      replies := rest
      pacing := if s.processor.pacing = some 0 then none else s.processor.pacing.map fun k => k - 1 }).setNotices
        { s.notices with transmitter := some (.reply r), front := none }) ∧
  (∀ (s : State) (n : NoticeSource), beginNotice n s = s.setNotices { s.notices with
    records := s.notices.records.set n { s.notices.records.get n with sent := true }
    transmitter := some (.notice ⟨s.straps.unit, n, (s.notices.records.get n).level, s.snapshot n⟩)
    front := none }) ∧
  (∀ s : State, ∀ now : Offered, now = ⟨decide (s.processor.replies ≠ []), s.eligible⟩ →
    (s.notices.front = none → s.candidates = now) ∧
    (∀ o old, s.notices.front = some o →
      old = Offered.mk (o.reply && now.reply) (o.notices.filter fun n => decide (n ∈ s.eligible)) →
      s.candidates = if old = ⟨false, []⟩ then now else old) ∧
    (s.notices.transmitter = none → s.notices.front = none → now ≠ ⟨false, []⟩ →
      moment s = s.setNotices { s.notices with front := some now }) ∧
    ((s.notices.transmitter ≠ none ∨ s.notices.front ≠ none ∨ now = ⟨false, []⟩) → moment s = s) ∧
    s.offerReply = s.setNotices { s.notices with front := s.notices.front.map fun o =>
      { o with reply := o.reply || decide (s.processor.replies.length = 1) } }) ∧
  (∀ (s : State) (n : NoticeSource), ∀ r, r = s.notices.records.get n →
    (n ∈ s.eligible ↔ r.status = true ∧ r.enable = true ∧ s.params.noticeMask ≤ r.level ∧ r.sent = false)) ∧
  NoticeSource.all.map NoticeSource.number = [0, 1, 2, 3, 4, 5, 6, 7, 8, 9, 10, 11] ∧
  NoticeSource.all = [.trip, .release, .tracker, .stream, .source, .dip, .bankFault, .bankChange, .mode, .aux, .capture,
    .clamp] ∧
  (∀ s : State, (∀ x, awaitedReply s (.notice x) = false) ∧
    ∀ r, awaitedReply s (.reply r) = true ↔
      s.processor.resetWait = true ∧ r.result = .done ∧ r.data = .reset .full) ∧
  (∀ s : State,
    s.snapshot .trip = .trip s.control.trips ∧
    s.snapshot .release = .release s.control.release s.control.qualifyCount s.control.valveReady s.control.mode ∧
    (∃ x, s.snapshot .tracker = .tracker x ∧ ∀ b, x.get b = ⟨(s.trackers.get b).state, (s.trackers.get b).h⟩) ∧
    s.snapshot .stream = .stream s.asm.expected s.asm.counters.streamLoss s.asm.counters.discontinuity ∧
    (∃ x, s.snapshot .source = .source x ∧ ∀ n, x.get n = (s.asm.sources.get n).alignment) ∧
    s.snapshot .dip = .dip s.control.dipState s.control.supplyValid s.control.dip s.control.resume ∧
    (∃ x y, s.snapshot .bankFault = .bankFault x y ∧
      ∀ n, x.get n = (s.bankRec n).state ∧ y.get n = (s.bankRec n).faultCode) ∧
    (∃ x, s.snapshot .bankChange = .bankChange x s.bBank ∧ ∀ n, x.get n = (s.bankRec n).state) ∧
    s.snapshot .mode = .mode s.control.mode s.control.wakingTarget ∧
    (∃ x, s.snapshot .aux = .aux x s.control.blanking.state ∧
      ∀ n, x.get n = ⟨(s.control.aux.get n).active, (s.control.aux.get n).blockLatch⟩) ∧
    s.snapshot .capture = .capture s.capture.state s.capture.buffer.length s.capture.postCount s.capture.trigger ∧
    ∃ x, s.snapshot .clamp = .clamp x ∧ ∀ b, x.get b = (s.demand.get b).clamp) ∧
  (∀ (s : State) (f : MFrame), Free s → s.notices.transmitter = some f →
    (awaitedReply s f = true →
      exec .mTransmitCompletion s = .next (State.powerOn s.straps true s.pending s.freeCount)) ∧
    (awaitedReply s f = false →
      ∃ t, exec .mTransmitCompletion s = .next t ∧ t.ports.m.sent = bump s.ports.m.sent ∧
        t.control = s.control ∧ t.tables = s.tables ∧ t.params = s.params ∧
        (∀ r rest, s.processor.replies = r :: rest →
          t.notices.transmitter = some (.reply r) ∧ t.processor.replies = rest ∧
          t.notices.records = s.notices.records) ∧
        (s.processor.replies = [] → s.eligible = [] →
          t.notices.transmitter = none ∧ t.notices.records = s.notices.records) ∧
        (s.processor.replies = [] → s.eligible ≠ [] → ∃ n ∈ s.eligible,
          t.notices.transmitter = some (.notice ⟨s.straps.unit, n, (s.notices.records.get n).level,
            s.snapshot n⟩) ∧
          t.notices.records = s.notices.records.set n { s.notices.records.get n with sent := true } ∧
          ∀ m ∈ s.eligible, (s.notices.records.get m).level ≤ (s.notices.records.get n).level ∧
            ((s.notices.records.get m).level = (s.notices.records.get n).level → n.number ≤ m.number)))) ∧
  ∀ (s : State) (f : MFrame) (r : Reply) (rest : List Reply), s.rstn = true → s.notices.transmitter = some f →
    awaitedReply s f = false → s.processor.replies = r :: rest →
    ∀ u : State, u = ((s.countM fun c => { c with sent := bump c.sent }).setNotices { s.notices with
        transmitter := some (.reply r), front := none }) →
    (∀ k, s.processor.pacing = some (k + 1) →
      exec .mTransmitCompletion s = .next (u.setProcessor { s.processor with replies := rest, pacing := some k })) ∧
    ((s.processor.pacing = some 0 ∨ s.processor.pacing = none) →
      (s.processor.queue = [] ∨ s.processor.resetWait = true →
        exec .mTransmitCompletion s = .next (u.setProcessor { s.processor with replies := rest, pacing := none })) ∧
      (∀ d q v code data, s.processor.queue = d :: q → s.processor.resetWait = false → s.usedPlaces ≤ 8 →
        act d (u.setProcessor { s.processor with
          queue := q
          replies := rest
          pacing := none
          counters := { s.processor.counters with taken := bump s.processor.counters.taken } }) =
            (v, some (code, data)) →
        exec .mTransmitCompletion s = .next (v.replied d.tag d.kind code data)))

/-! ## Sample frames and the silence timer -/

/-- R5, R7, R11, R194: what becomes of a sample frame that is not accepted: nothing changes but one counter. -/
def Obligations.SampleFrameIsDiscardedAndCounted : Prop :=
  ∀ (s : State) (f : SampleFrame), Free s →
    (76 < f.channels.length →
      ∃ t, exec (.sampleFrame f) s = .next t ∧
        Settled (s.countM fun c => { c with oversize := bump c.oversize }) t) ∧
    (f.channels.length ≤ 76 →
      (3 < f.source.toNat ∨ f.channels.length = 0 ∨ 8 < f.channels.length ∨ 4095 < f.tag.toNat) →
      ∃ t, exec (.sampleFrame f) s = .next t ∧
        Settled (s.received.countM fun c => { c with formatError := bump c.formatError }) t) ∧
    (∀ n, index4? f.source = some n → 1 ≤ f.channels.length → f.channels.length ≤ 8 → f.tag.toNat ≤ 4095 →
      ((s.asm.sources.get n).alignment = .disabled →
        ∃ t, exec (.sampleFrame f) s = .next t ∧
          Settled (s.received.countM fun c => { c with unsolicited := bump c.unsolicited }) t) ∧
      ((s.asm.sources.get n).alignment ≠ .disabled → f.status.getLsbD 7 = true →
        ∃ t, exec (.sampleFrame f) s = .next t ∧
          Settled (s.received.countSource n fun c => { c with testDiscarded := bump c.testDiscarded }) t) ∧
      ((s.asm.sources.get n).alignment ≠ .disabled → f.status.getLsbD 7 = false →
        ∀ e, s.asm.expected = some e →
        (2048 ≤ tagDistance e (f.tag.setWidth 12) →
          ∃ t, exec (.sampleFrame f) s = .next t ∧
            Settled (s.received.countSource n fun c => { c with late := bump c.late }) t) ∧
        (tagDistance e (f.tag.setWidth 12) ≤ 7 → isDuplicate (f.tag.setWidth 12) n s.asm.queue = true →
          ∃ t, exec (.sampleFrame f) s = .next t ∧
            Settled (s.received.countSource n fun c => { c with duplicate := bump c.duplicate }) t)))

/-- R5, R6, R7, R9, R10: a frame of an enabled source without TEST that is neither late nor a duplicate is accepted: it
is counted, whatever releases it brings about, and the parameters, the channel map and the banks are unchanged. Where it
is in the window of eight, of another source than the status source, and makes no release due, the step does no more
than place it and test closure and completion. R7, R12, R13: what placement, closure and completion are. R5, R6: by its
tag distance a frame is placed at once, after forced releases (R9), or after a discontinuity (R10), and with the expected
tag unset it sets it. R7, R20: what acceptance is: of the status source it hands the four aux flags over, before or after
the releases where both act (log 10, the model's choice); of another source it does not. -/
def Obligations.SampleFrameIsAccepted : Prop :=
  (∀ e t : Tag, tagDistance e t = (t - e).toNat) ∧
  (∀ (s : State) (f : SampleFrame) (n : Index4) (tag : Tag), Free s → index4? f.source = some n →
    1 ≤ f.channels.length → f.channels.length ≤ 8 → f.tag.toNat ≤ 4095 →
    (s.asm.sources.get n).alignment ≠ .disabled → f.status.getLsbD 7 = false → tag = f.tag.setWidth 12 →
    (s.asm.expected = none → ∃ t, exec (.sampleFrame f) s = .next t ∧
      Settled (acceptFrame tag tag n f (s.received.setAsm { s.asm with expected := some tag })) t) ∧
    ∀ e d, s.asm.expected = some e → d = (tag - e).toNat →
      (d ≤ 7 → ∃ t, exec (.sampleFrame f) s = .next t ∧ Settled (acceptFrame e tag n f s.received) t) ∧
      (8 ≤ d → d ≤ 63 → ∃ t, exec (.sampleFrame f) s = .next t ∧
        Settled (acceptFrame (e + BitVec.ofNat 12 (d - 7)) tag n f (forceReleases (d - 7) s.received)) t) ∧
      (64 ≤ d → d ≤ 2047 → ∃ t, exec (.sampleFrame f) s = .next t ∧
        Settled (acceptFrame tag tag n f (discontinuity tag n s.received)) t)) ∧
  (∀ (s : State) (k : Nat), forceReleases 0 s = s ∧
    forceReleases (k + 1) s = forceReleases k (releaseSlot true s) ∧
    ∀ e, s.asm.expected = some e → (forceReleases k s).asm.expected = some (e + BitVec.ofNat 12 k)) ∧
  (∀ (s : State) (tag : Tag) (n : Index4), ∀ t : State, t = discontinuity tag n s →
    t.asm.queue = [] ∧ t.asm.expected = some tag ∧ t.asm.lastReleased = s.asm.lastReleased ∧
    t.asm.windows = s.asm.windows ∧ t.asm.silence = s.asm.silence ∧ t.asm.map = s.asm.map ∧
    t.asm.counters = { s.asm.counters with discontinuity := bump s.asm.counters.discontinuity } ∧
    t.asm.sources.get n = { s.asm.sources.get n with alignment := .aligned, missRun := 0 } ∧
    (∀ m, m ≠ n → t.asm.sources.get m = if (s.asm.sources.get m).alignment = .disabled then s.asm.sources.get m else
      { s.asm.sources.get m with alignment := .seeking, missRun := 0 }) ∧
    (∀ b, t.trackers.get b = (s.trackers.get b).unlock) ∧
    (t.notices.records.get .tracker).status = true ∧ t.control.supplyValid = false ∧ t.control.dip = true ∧
    t.params = s.params ∧ t.banks = s.banks ∧ t.capture = s.capture ∧ t.ports = s.ports) ∧
  (∀ (s : State) (e tag : Tag) (n : Index4) (f : SampleFrame),
    (isDuplicate tag n s.asm.queue = true ↔ ∃ x ∈ s.asm.queue, x.tag = tag ∧ x.contributors.get n = true) ∧
    (isDuplicate tag n s.asm.queue = true → acceptFrame e tag n f s =
      s.setAsm { s.asm with sources := s.asm.sources.set n { s.asm.sources.get n with
        counters := { (s.asm.sources.get n).counters with
          duplicate := bump (s.asm.sources.get n).counters.duplicate } } }) ∧
    (isDuplicate tag n s.asm.queue = false →
      ∀ u flags, u = completeSets (closeSets e tag (placeFrame e tag n f.channels s)) →
      flags = Four.mk (f.status.getLsbD 0) (f.status.getLsbD 1) (f.status.getLsbD 2) (f.status.getLsbD 3) →
      (s.params.statusSource ≠ n → acceptFrame e tag n f s = releaseCheck u) ∧
      (s.params.statusSource = n →
        acceptFrame e tag n f s = handAux flags (releaseCheck u) ∨
        ∃ k, acceptFrame e tag n f s = moment (handAux flags (moment (releaseCheck { u with freeCount := k }))) ∨
          acceptFrame e tag n f s = moment (releaseCheck (moment (handAux flags { u with freeCount := k })))))) ∧
  (∀ (s : State) (f : SampleFrame) (n : Index4), Free s → index4? f.source = some n → 1 ≤ f.channels.length →
    f.channels.length ≤ 8 → f.tag.toNat ≤ 4095 → (s.asm.sources.get n).alignment ≠ .disabled →
    f.status.getLsbD 7 = false → (∀ e, s.asm.expected = some e → tagDistance e (f.tag.setWidth 12) ≤ 2047) →
    (s.asm.expected = none → s.asm.queue = []) → isDuplicate (f.tag.setWidth 12) n s.asm.queue = false →
    ∃ t, exec (.sampleFrame f) s = .next t ∧
      t.ports = { s.ports with m := { s.ports.m with received := bump s.ports.m.received } } ∧
      (t.asm.sources.get n).counters.accepted = bump (s.asm.sources.get n).counters.accepted ∧
      (∀ m, m ≠ n → (t.asm.sources.get m).counters.accepted = (s.asm.sources.get m).counters.accepted) ∧
      t.asm.map = s.asm.map ∧ t.params = s.params ∧ t.banks = s.banks ∧ t.straps = s.straps ∧ t.rstn = true ∧
      t.processor.queue = [] ∧ t.processor.ticks = s.processor.ticks ∧
      (∀ e, s.asm.expected = some e → tagDistance e (f.tag.setWidth 12) ≤ 7 → s.params.statusSource ≠ n →
        ∀ u, u = completeSets (closeSets e (f.tag.setWidth 12)
          (placeFrame e (f.tag.setWidth 12) n f.channels s.received)) →
        u.releaseDue = false → Settled u t)) ∧
  (∀ (s : State) (e tag : Tag) (n : Index4) (channels : List Half), AssemblyInv s → s.asm.expected = some e →
    (tag - e).toNat ≤ 7 → ∀ t : State, t = placeFrame e tag n channels s →
    t = s.setAsm { s.asm with queue := t.asm.queue, sources := t.asm.sources } ∧
    t.asm.queue.map SampleSet.tag =
      (s.asm.queue.filter fun x => decide ((x.tag - e).toNat < (tag - e).toNat)).map SampleSet.tag ++ [tag] ++
        (s.asm.queue.filter fun x => decide ((tag - e).toNat < (x.tag - e).toNat)).map SampleSet.tag ∧
    (∀ x ∈ s.asm.queue, x.tag ≠ tag → x ∈ t.asm.queue) ∧
    (∀ x ∈ t.asm.queue, x.tag ≠ tag → x ∈ s.asm.queue) ∧
    (∀ x ∈ t.asm.queue, x.tag = tag → ∃ y : SampleSet,
      (y ∈ s.asm.queue ∧ y.tag = tag ∨ (∀ z ∈ s.asm.queue, z.tag ≠ tag) ∧
        y = ⟨tag, ⟨false, false, false, false⟩, .ofFn fun _ => none, .opened⟩) ∧
      x.state = y.state ∧ (∀ m, x.contributors.get m = (decide (m = n) || y.contributors.get m)) ∧
      ∀ q, (∀ c, s.asm.map.get q = some ⟨n, c⟩ →
          (∀ w, channels[c.val]? = some w → w ≠ 0x8000 → x.values.get q = some w.toInt) ∧
          ((channels[c.val]? = none ∨ channels[c.val]? = some 0x8000) → x.values.get q = none)) ∧
        ((∀ c, s.asm.map.get q ≠ some ⟨n, c⟩) → x.values.get q = y.values.get q)) ∧
    (∀ m, m ≠ n → t.asm.sources.get m = s.asm.sources.get m) ∧
    (t.asm.sources.get n).counters = { (s.asm.sources.get n).counters with
      accepted := bump (s.asm.sources.get n).counters.accepted } ∧
    ((s.asm.sources.get n).alignment = .seeking ∨ (s.asm.sources.get n).alignment = .lost →
      (t.asm.sources.get n).alignment = .aligned ∧ (t.asm.sources.get n).missRun = 0) ∧
    ((s.asm.sources.get n).alignment = .aligned → (t.asm.sources.get n).alignment = .aligned ∧
      (t.asm.sources.get n).missRun = (s.asm.sources.get n).missRun)) ∧
  ∀ (s : State) (e placed : Tag),
    closeSets e placed s = s.setAsm { s.asm with queue := s.asm.queue.map fun x =>
      if (x.tag - e).toNat + s.params.assemblyDepth ≤ (placed - e).toNat then { x with state := .closed } else x } ∧
    ∀ waits : SampleSet → Prop,
      (∀ x, waits x ↔ ∃ n, (s.asm.sources.get n).alignment = .aligned ∧ x.contributors.get n = false) →
      ∃ q, completeSets s = s.setAsm { s.asm with queue := q } ∧ q.length = s.asm.queue.length ∧
        ∀ (i : Nat) (x : SampleSet), s.asm.queue[i]? = some x →
          (x.state = .opened → ¬waits x → q[i]? = some { x with state := .complete }) ∧
          ((x.state ≠ .opened ∨ waits x) → q[i]? = some x)

/-- R15, R17, R18: a release pushes one entry into every window by the gap policy of the mapped source, advances the
tags, removes the set, is counted, and reloads the silence timer. R16: it accounts a miss to every ALIGNED source that did
not contribute. R14: when the oldest slot is released, and how one release brings about the next. R15, R27, R91: a release
then runs each branch's tracker on the branch's own voltage window, and the deadline check, in an order that is the
model's free choice where it can matter (log 9). -/
def Obligations.ReleasePushesWindowsAndAdvancesTags : Prop :=
  (∀ (s : State) (e : Tag) (forced : Bool), s.asm.expected = some e →
    ∃ u : State, releaseSlot forced s = moment (completeSets (releasedSet e u)) ∧
      u.asm.expected = some (e + 1) ∧ u.asm.lastReleased = some e ∧ u.asm.map = s.asm.map ∧
      (∀ q v, v = ((s.asm.queue.find? fun x => decide (x.tag = e)).bind fun x => x.values.get q) →
        u.asm.windows.get q = pushEntry s.asm.sources (s.asm.map.get q) v (s.asm.windows.get q)) ∧
      u.trackers = s.trackers ∧ u.params = s.params ∧ u.demand = s.demand ∧ u.tables = s.tables ∧
      u.exchange = s.exchange ∧ u.banks = s.banks ∧ u.control = s.control ∧ u.capture = s.capture ∧
      u.processor = s.processor ∧ u.ports = s.ports ∧
      ∀ b, (releaseSlot forced s).trackers.get b = (trackerStep b s.params.crossHyst
        (u.asm.windows.get b.voltage).entries e (s.trackers.get b)).1) ∧
  (∀ (s : State) (tag : Tag), ∃ (l : List (State → State)) (k : Nat),
    l.Perm [runTracker tag .ab, runTracker tag .bc, runTracker tag .ca, deadlineCheck tag] ∧
    (releasedSet tag s = l.foldl (fun t f => f t) s ∨
      releasedSet tag s = l.foldl (fun t f => moment (f t)) { s with freeCount := k })) ∧
  (∀ (s : State) (e : Tag) (forced : Bool), s.asm.expected = some e → ∃ t, releaseSlot forced s = t ∧
    t.asm.lastReleased = some e ∧ t.asm.expected = some (e + 1) ∧
    t.asm.counters.released = bump s.asm.counters.released ∧
    t.asm.counters.forced = (if forced then bump s.asm.counters.forced else s.asm.counters.forced) ∧
    t.asm.silence = (if s.params.silenceLimit = 0 then none else some s.params.silenceLimit) ∧
    (∀ x ∈ t.asm.queue, x.tag ≠ e) ∧
    (∀ q v, v = ((s.asm.queue.find? fun x => decide (x.tag = e)).bind fun x => x.values.get q) →
      t.asm.windows.get q = pushEntry s.asm.sources (s.asm.map.get q) v (s.asm.windows.get q))) ∧
  (∀ (sources : Four SourceRec) (c : ChannelRef) (w : Window) (x : Int), w.entries.length = 64 →
    pushEntry sources (some c) (some x) w = ⟨⟨some x, false⟩ :: w.entries.take 63, some x, 0⟩ ∧
    (∀ v, pushEntry sources none v w = { w with entries := ⟨none, false⟩ :: w.entries.take 63 }) ∧
    ((sources.get c.source).policy = .mark →
      pushEntry sources (some c) none w = { w with entries := ⟨none, false⟩ :: w.entries.take 63 }) ∧
    ((sources.get c.source).policy = .hold → w.lastValid = some x → w.heldRun < (sources.get c.source).holdLimit →
      pushEntry sources (some c) none w = ⟨⟨some x, true⟩ :: w.entries.take 63, some x, w.heldRun + 1⟩) ∧
    ((sources.get c.source).policy = .hold →
      (w.lastValid = none ∨ (sources.get c.source).holdLimit ≤ w.heldRun) →
      pushEntry sources (some c) none w = { w with entries := ⟨none, false⟩ :: w.entries.take 63 })) ∧
  (∀ (contributors : Four Bool) (s : State) (n : Index4), ∀ r, r = s.asm.sources.get n →
    (r.alignment ≠ .aligned → accountMiss contributors s n = s) ∧
    (r.alignment = .aligned → contributors.get n = true →
      accountMiss contributors s n = s.setSource n { r with missRun := 0 }) ∧
    (r.alignment = .aligned → contributors.get n = false → ∀ m, m = bump255 r.missRun →
      (m < r.missLimit → accountMiss contributors s n = s.setSource n { r with
        missRun := m, counters := { r.counters with miss := bump r.counters.miss } }) ∧
      (r.missLimit ≤ m → accountMiss contributors s n = raise .source (s.setSource n { r with
        missRun := m, alignment := .lost, counters := { r.counters with miss := bump r.counters.miss } })))) ∧
  (∀ (forced : Bool) (s : State) (e : Tag), s.asm.expected = some e → ∀ n, ∀ r, r = s.asm.sources.get n →
    ∀ x : Option SampleSet, x = s.asm.queue.find? (fun x => decide (x.tag = e)) →
    ∀ m, m = bump255 r.missRun →
    (releaseSlot forced s).asm.sources.get n =
      if r.alignment ≠ .aligned then r
      else if (x.map fun y => y.contributors.get n) = some true then { r with missRun := 0 }
      else { r with
        missRun := m
        alignment := if r.missLimit ≤ m then .lost else .aligned
        counters := { r.counters with miss := bump r.counters.miss } }) ∧
  (∀ s : State, s.asm.expected = none → s.releaseDue = false ∧ releaseCheck s = s) ∧
  (∀ (s : State) (e : Tag), s.asm.expected = some e → AssemblyInv s →
    (∀ x ∈ s.asm.queue, x.tag = e → (s.releaseDue = true ↔ x.state ≠ .opened)) ∧
    ((∀ x ∈ s.asm.queue, x.tag ≠ e) →
      (s.releaseDue = true ↔ ∃ x ∈ s.asm.queue, s.params.assemblyDepth ≤ (x.tag - e).toNat))) ∧
  ∀ s : State, AssemblyInv s →
    (s.releaseDue = false → releaseCheck s = s) ∧ (releaseCheck s).releaseDue = false ∧
    (s.releaseDue = true → releaseCheck s = releaseCheck (releaseSlot false s))

/-- R21, R22: the silence timer counts local sample periods while armed, and its expiry discards the queue, clears the
windows, unlocks the trackers, ends release and declares an interruption. That SILENCE_TIMER_EXPIRY acts at any remaining
count, and not on an unarmed timer, is the model's choice (log 3). -/
def Obligations.SilenceTimerCountsAndExpires : Prop :=
  ∀ s : State, Free s →
    (s.asm.silence = none →
      (∃ t, exec .localSamplePeriod s = .next t ∧ Settled s t) ∧
      ∃ t, exec .silenceTimerExpiry s = .next t ∧ Settled s t) ∧
    (∀ k, s.asm.silence = some k →
      (2 ≤ k → ∃ t, exec .localSamplePeriod s = .next t ∧
        Settled (s.setAsm { s.asm with silence := some (k - 1) }) t) ∧
      (k ≤ 1 → exec .localSamplePeriod s = exec .silenceTimerExpiry s) ∧
      ∃ t u : State, exec .silenceTimerExpiry s = .next t ∧ Settled u t ∧
        u.asm.queue = [] ∧ u.asm.expected = none ∧ u.asm.silence = none ∧
        u.asm.lastReleased = s.asm.lastReleased ∧ u.asm.map = s.asm.map ∧
        (∀ q, u.asm.windows.get q = ⟨List.replicate 64 ⟨none, false⟩, none, 0⟩) ∧
        (∀ n, u.asm.sources.get n = if (s.asm.sources.get n).alignment = .disabled then s.asm.sources.get n else
          { s.asm.sources.get n with alignment := .seeking, missRun := 0 }) ∧
        u.asm.counters = { s.asm.counters with streamLoss := bump s.asm.counters.streamLoss } ∧
        (∀ b, u.trackers.get b = { s.trackers.get b with
          state := .unlocked
          magnitude := 0
          history := []
          holdoverCount := 0
          risingArmed := false
          fallingArmed := false
          expectedPolarity := none
          lastCrossing := none }) ∧
        u.control.release = .held ∧ u.control.supplyValid = false ∧ u.control.dip = true ∧
        u.control.dipState = .spent ∧
        u.control.counters.streamInterruption = bump s.control.counters.streamInterruption ∧
        (u.notices.records.get .stream).status = true ∧ (u.notices.records.get .dip).status = true ∧
        u.params = s.params ∧ u.banks = s.banks ∧ u.capture = s.capture ∧ u.ports = s.ports)

/-! ## Trackers and demand -/

/-- R29 to R40, R42: a tracker's event carries the next half-cycle number, which becomes the tracker's with the event's
tag; a NEG event leaves the magnitude, and a POS event recomputes it from a window with 48 valid entries or more; without
an event the numbering stands. A detection and its fraction, the capture of four good half-periods, the acceptance window,
synthesized crossings in holdover, and the ways back to UNLOCKED. R41, R42, R43, R134, R136: what a tracker's step does
in the rest of the FL6: a change of state raises TRACKER, a change or a recomputed magnitude has the supply evaluated, and
an event reaches the four blocks, after that evaluation (log 15, the model's reading) and in an order that is the model's
free choice where it can matter (log 8). -/
def Obligations.CrossingEventTakesNextHalfCycleNumber : Prop :=
  (∀ (tag : Tag) (b : Branch) (s : State), ∀ t r, t = s.trackers.get b →
    r = trackerStep b s.params.crossHyst (s.asm.windows.get b.voltage).entries tag t →
    ∀ u w : State,
      (r.1.state = t.state → u = s.setTrackers (s.trackers.set b r.1)) →
      (r.1.state ≠ t.state → u = trackerChanged b (s.setTrackers (s.trackers.set b r.1))) →
      ((r.1.state ≠ t.state ∨ ∃ ev, r.2 = some ev ∧ ev.magnitudeUpdated = true) → w = evalSupply u) →
      (r.1.state = t.state → (∀ ev, r.2 = some ev → ev.magnitudeUpdated = false) → w = u) →
      (r.2 = none → runTracker tag b s = w) ∧ (∀ ev, r.2 = some ev → runTracker tag b s = offerEvent ev (moment w))) ∧
  (∀ (b : Branch) (s : State),
    (b = .ab ∧ (s.trackers.get b).state = .unlocked → trackerChanged b s =
      raise .tracker (s.setControl { s.control with wakingCount := 0 })) ∧
    (¬(b = .ab ∧ (s.trackers.get b).state = .unlocked) → trackerChanged b s = raise .tracker s)) ∧
  (∀ (ev : CrossingEvent) (s : State), ∃ (l : List (State → State)) (k : Nat),
    l.Perm [demandEvent ev, ageOrders ev, tableEvent ev, controlEvent ev] ∧
    (offerEvent ev s = l.foldl (fun t f => f t) s ∨
      offerEvent ev s = l.foldl (fun t f => moment (f t)) { s with freeCount := k })) ∧
  (∀ (n : NoticeSource) (s : State), raise n s = s.setNotices { s.notices with
    records := s.notices.records.set n { s.notices.records.get n with status := true } }) ∧
  (∀ (b : Branch) (hyst : Nat) (entries : List WindowEntry) (tag : Tag) (t : Tracker),
    (∀ ev, (trackerStep b hyst entries tag t).2 = some ev →
      ev.branch = b ∧ ev.h = t.h + 1 ∧ (trackerStep b hyst entries tag t).1.h = t.h + 1 ∧
      (trackerStep b hyst entries tag t).1.lastEventTag = some ev.crossingTag ∧
      ((trackerStep b hyst entries tag t).1.state = .locked ∨
        (trackerStep b hyst entries tag t).1.state = .holdover) ∧
      (ev.synthesized = true ↔ (trackerStep b hyst entries tag t).1.state = .holdover) ∧
      (ev.polarity = .neg → ev.magnitudeUpdated = false ∧
        (trackerStep b hyst entries tag t).1.magnitude = t.magnitude) ∧
      (ev.polarity = .pos →
        ev.magnitudeUpdated = decide (48 ≤ (entries.filterMap WindowEntry.value).length) ∧
        (48 ≤ (entries.filterMap WindowEntry.value).length →
          (trackerStep b hyst entries tag t).1.magnitude =
            ((entries.filterMap WindowEntry.value).map Int.natAbs).sum /
              (entries.filterMap WindowEntry.value).length))) ∧
    ((trackerStep b hyst entries tag t).2 = none →
      (trackerStep b hyst entries tag t).1.h = t.h ∧
      (trackerStep b hyst entries tag t).1.lastEventTag = t.lastEventTag)) ∧
  (∀ (b : Branch) (hyst : Nat) (entries : List WindowEntry) (tag : Tag) (t : Tracker),
    ((detect hyst entries t).1 = none → trackerStep b hyst entries tag t =
      deadlineStage b entries tag (detect hyst entries t).2) ∧
    ∀ d, (detect hyst entries t).1 = some d →
      ((takeDetection b entries tag d (detect hyst entries t).2).2.isSome = true →
        trackerStep b hyst entries tag t = takeDetection b entries tag d (detect hyst entries t).2) ∧
      ((takeDetection b entries tag d (detect hyst entries t).2).2 = none →
        trackerStep b hyst entries tag t =
          deadlineStage b entries tag (takeDetection b entries tag d (detect hyst entries t).2).1)) ∧
  (∀ (hyst : Nat) (t : Tracker) (rest : List WindowEntry) (held : Bool),
    detect hyst (⟨none, held⟩ :: rest) t = (none, t) ∧
    ∀ v : Int, ∃ f : Nat, f ≤ 255 ∧
      (∀ p prev, rest.head? = some prev → prev.value = some p → 0 < p.natAbs + v.natAbs →
        f = min (256 * p.natAbs / (p.natAbs + v.natAbs)) 255) ∧
      ((∀ prev, rest.head? = some prev → prev.value = none ∨ prev.value = some 0 ∧ v = 0) → f = 0) ∧
      (detect hyst (⟨some v, held⟩ :: rest) t).1 =
        (if t.risingArmed = true ∧ 0 ≤ v then some ⟨.pos, f⟩
          else if t.fallingArmed = true ∧ v < 0 then some ⟨.neg, f⟩ else none) ∧
      (detect hyst (⟨some v, held⟩ :: rest) t).2 = { t with
        risingArmed := decide (v ≤ -(hyst : Int)) || (t.risingArmed && decide (v < 0))
        fallingArmed := decide ((hyst : Int) ≤ v) || (t.fallingArmed && decide (0 ≤ v)) }) ∧
  (∀ (b : Branch) (entries : List WindowEntry) (tag : Tag) (d : Detection) (t : Tracker),
    (t.state = .unlocked → takeDetection b entries tag d t = ({ t with
      state := .capturing
      history := []
      lastCrossing := some ⟨tag, d.fraction, true⟩
      expectedPolarity := some d.polarity.opposite }, none)) ∧
    (t.state ≠ .unlocked → t.expectedPolarity = some d.polarity.opposite →
      takeDetection b entries tag d t = ({ t with spurious := bump t.spurious }, none)) ∧
    (∀ c x, t.lastCrossing = some c → x = c.elapsed tag d.fraction →
      t.expectedPolarity ≠ some d.polarity.opposite →
      (x = 256 * ((tag - c.tag).toNat : Int) + d.fraction - c.fraction) ∧
      (t.state = .capturing →
        (¬(7424 ≤ x ∧ x ≤ 8960) → takeDetection b entries tag d t = ({ t with
          history := []
          lastCrossing := some ⟨tag, d.fraction, true⟩
          expectedPolarity := some d.polarity.opposite }, none)) ∧
        (7424 ≤ x → x ≤ 8960 → t.history.length < 3 → takeDetection b entries tag d t = ({ t with
          history := t.history ++ [x.toNat]
          lastCrossing := some ⟨tag, d.fraction, true⟩
          expectedPolarity := some d.polarity.opposite }, none)) ∧
        (7424 ≤ x → x ≤ 8960 → t.history.length = 3 →
          ∃ u ev, takeDetection b entries tag d t = (u, some ev) ∧ u.state = .locked ∧ u.holdoverCount = 0 ∧
            u.history = t.history ++ [x.toNat] ∧ u.halfPeriod = (t.history ++ [x.toNat]).sum / 4 ∧
            u.lastCrossing = some ⟨tag, d.fraction, true⟩ ∧ u.expectedPolarity = some d.polarity.opposite ∧
            ev.polarity = d.polarity ∧ ev.crossingTag = tag ∧ ev.synthesized = false)) ∧
      (t.state = .locked ∨ t.state = .holdover →
        ((x < (t.halfPeriod : Int) - 512 ∨ (t.halfPeriod : Int) + 512 < x) →
          takeDetection b entries tag d t = ({ t with spurious := bump t.spurious }, none)) ∧
        ((t.halfPeriod : Int) - 512 ≤ x → x ≤ t.halfPeriod + 512 → t.history.length ≤ 4 →
          ∃ u ev, takeDetection b entries tag d t = (u, some ev) ∧ u.state = .locked ∧ u.holdoverCount = 0 ∧
            (c.real = false → u.history = t.history ∧ u.halfPeriod = t.halfPeriod) ∧
            (c.real = true →
              u.history = (if t.history.length = 4 then t.history.tail else t.history) ++ [x.toNat] ∧
              u.halfPeriod = max 7424 (min (u.history.sum / u.history.length) 8960)) ∧
            u.lastCrossing = some ⟨tag, d.fraction, true⟩ ∧ u.expectedPolarity = some d.polarity.opposite ∧
            ev.polarity = d.polarity ∧ ev.crossingTag = tag ∧ ev.synthesized = false)))) ∧
  ∀ (b : Branch) (entries : List WindowEntry) (tag : Tag) (t : Tracker),
    (t.state = .unlocked ∨ t.lastCrossing = none → deadlineStage b entries tag t = (t, none)) ∧
    ∀ c x, t.lastCrossing = some c → x = 256 * ((tag - c.tag).toNat : Int) + 256 - c.fraction →
      (t.state = .capturing → x ≤ 9472 → deadlineStage b entries tag t = (t, none)) ∧
      (t.state = .capturing → 9472 < x → deadlineStage b entries tag t = (t.unlock, none)) ∧
      (t.state = .locked ∨ t.state = .holdover → x ≤ t.halfPeriod + 512 →
        deadlineStage b entries tag t = (t, none)) ∧
      (t.state = .holdover → (t.halfPeriod : Int) + 512 < x → 2 ≤ t.holdoverCount →
        deadlineStage b entries tag t = (t.unlock, none)) ∧
      (∀ p, t.expectedPolarity = some p → (t.halfPeriod : Int) + 512 < x →
        (t.state = .locked ∨ t.state = .holdover ∧ t.holdoverCount ≤ 1) →
        ∃ u ev, deadlineStage b entries tag t = (u, some ev) ∧ u.state = .holdover ∧
          u.holdoverCount = (if t.state = .locked then 1 else t.holdoverCount + 1) ∧
          u.history = t.history ∧ u.halfPeriod = t.halfPeriod ∧ u.expectedPolarity = some p.opposite ∧
          u.lastCrossing = some ⟨c.tag + BitVec.ofNat 12 ((c.fraction + t.halfPeriod) / 256),
            (c.fraction + t.halfPeriod) % 256, false⟩ ∧
          ev.polarity = p ∧ ev.crossingTag = c.tag + BitVec.ofNat 12 ((c.fraction + t.halfPeriod) / 256) ∧
          ev.synthesized = true) ∧
      t.unlock = { t with
        state := .unlocked
        magnitude := 0
        history := []
        holdoverCount := 0
        risingArmed := false
        fallingArmed := false
        expectedPolarity := none
        lastCrossing := none }

/-- R47 to R57, R60 to R63, Tables 3-2 to 3-4: which entries a branch's demand reads, when it is formed, its load
estimate, trim and raw demand, its limit, carry, clamp counter and flags, the half-cycle without demand, and the angle,
looked up in the ACTIVE bank and gated by the release state. -/
def Obligations.DemandIsLimitedAndGated : Prop :=
  (∀ r : Int, limitedDemand r ≤ 4095 ∧ (0 ≤ r → r ≤ 4095 → (limitedDemand r : Int) = r) ∧
    (r < 0 → limitedDemand r = 0) ∧ (4095 < r → limitedDemand r = 4095)) ∧
  (∀ (r : Int) (limit : Nat), (4095 < r → newCarry r limit = min (r - 4095) limit) ∧
    (r < 0 → newCarry r limit = max r (-limit)) ∧ (0 ≤ r → r ≤ 4095 → newCarry r limit = 0)) ∧
  (∀ c : Int, -128 ≤ c → c ≤ 127 →
    newClamp c .high = min (c + 1) 127 ∧ newClamp c .low = max (c - 1) (-128) ∧
    (0 < c → newClamp c .within = c - 1) ∧ (c < 0 → newClamp c .within = c + 1) ∧ newClamp 0 .within = 0) ∧
  (∀ (s : State) (b : Branch),
    s.orderAngle b none = 8192 ∧
    (∀ d, s.control.release ≠ .released → s.orderAngle b d = 8192) ∧
    (∀ d a : Nat, s.control.release = .released → s.tables.active[d / 8]? = some a →
      (a = 8192 → s.orderAngle b (some d) = 8192) ∧
      (a ≠ 8192 → 4096 ≤ s.orderAngle b (some d) ∧ s.orderAngle b (some d) ≤ 8191 ∧
        (s.orderAngle b (some d) : Int) = max 4096 (min ((a : Int) + s.params.angleOffset.get b) 8191))) ∧
    (∀ d, s.control.release = .released → s.orderAngle b d = s.tableAngle b d) ∧
    s.tableAngle b none = 8192 ∧
    (∀ d a : Nat, s.tables.active[d / 8]? = some a →
      (a = 8192 → s.tableAngle b (some d) = 8192) ∧
      (a ≠ 8192 →
        (s.tableAngle b (some d) : Int) = max 4096 (min ((a : Int) + s.params.angleOffset.get b) 8191)))) ∧
  (Branch.ab.currents = (.ia, .ib) ∧ Branch.bc.currents = (.ib, .ic) ∧ Branch.ca.currents = (.ic, .ia) ∧
    Branch.ab.currents2 = (.ia2, .ib2) ∧ Branch.bc.currents2 = (.ib2, .ic2) ∧ Branch.ca.currents2 = (.ic2, .ia2) ∧
    Branch.ab.voltage = .vab ∧ Branch.bc.voltage = .vbc ∧ Branch.ca.voltage = .vca) ∧
  (∀ (s : State) (b : Branch) (q : Quantity × Quantity) (k : Nat), k < 32 →
    (s.delayedVoltage b)[k]? = (s.asm.windows.get b.voltage).entries[16 + k]? ∧
    ∀ x y, (s.asm.windows.get q.1).entries[k]? = some x → (s.asm.windows.get q.2).entries[k]? = some y →
      ∃ e : WindowEntry, (s.difference q)[k]? = some e ∧ e.held = (x.held || y.held) ∧
        ((x.value = none ∨ y.value = none) → e.value = none) ∧
        ∀ u v, x.value = some u → y.value = some v → e.value = some (u - v)) ∧
  (∀ (s : State) (b : Branch), ∀ bad : List WindowEntry → Nat,
    (∀ l, bad l = (l.filter fun e => e.value.isNone).length) →
    (s.demandForms b = true ↔
      bad ((s.asm.windows.get b.currents.1).entries.take 32) ≤ s.params.halfInvalidLimit ∧
      bad ((s.asm.windows.get b.currents.2).entries.take 32) ≤ s.params.halfInvalidLimit ∧
      bad (((s.asm.windows.get b.voltage).entries.drop 16).take 32) ≤ s.params.halfInvalidLimit) ∧
    (s.load2Takes b = true ↔
      s.secondLoadMapped = true ∧
      bad ((s.asm.windows.get b.currents2.1).entries.take 32) ≤ s.params.halfInvalidLimit ∧
      bad ((s.asm.windows.get b.currents2.2).entries.take 32) ≤ s.params.halfInvalidLimit) ∧
    (s.secondLoadMapped = true ↔ s.asm.map.ia2 ≠ none ∧ s.asm.map.ib2 ≠ none ∧ s.asm.map.ic2 ≠ none) ∧
    (s.substituted b = true ↔
      (∃ e ∈ s.difference b.currents ++ s.delayedVoltage b, e.held = true) ∨
        s.load2Takes b = true ∧ ∃ e ∈ s.difference b.currents2, e.held = true)) ∧
  (∀ i v : List WindowEntry, correlate i v = ((i.zip v).map fun p => match p.1.value, p.2.value with
    | some x, some y => x * y
    | _, _ => 0).sum) ∧
  (∀ (s : State) (b : Branch),
    s.loadEstimate b = max (-32767) (min 32767
      ((correlate (s.difference b.currents) (s.delayedVoltage b) * (s.params.loadGain.get b : Int) +
        (if s.load2Takes b then correlate (s.difference b.currents2) (s.delayedVoltage b) else 0) *
          (s.params.load2Gain.get b : Int)) / 16777216)) ∧
    s.rawDemand b = (s.bBank : Int) - s.loadEstimate b + s.params.bias.get b + (s.demand.get b).trim +
      (s.demand.get b).carry) ∧
  (∀ (s : State) (ev : CrossingEvent),
    (ev.polarity = .pos → ev.magnitudeUpdated = true →
      updateTrim ev s = s.setDemandRec ev.branch { s.demand.get ev.branch with
        trim := max (-512) (min 512 ((s.demand.get ev.branch).trim +
          ((((s.trackers.get ev.branch).magnitude : Int) - s.params.vRef) * s.params.trimGain) / 4096)) }) ∧
    ((ev.polarity = .neg ∨ ev.magnitudeUpdated = false) → updateTrim ev s = s)) ∧
  (∀ (s : State) (b : Branch),
    (s.demandForms b = true → s.demandResult b = s.formDemand b) ∧
    (s.demandForms b = false → s.demandResult b = s.passDemand b)) ∧
  (∀ (s : State) (b : Branch), ∀ r x omitted, r = s.demand.get b → x = s.rawDemand b →
    omitted = (s.secondLoadMapped && !s.load2Takes b) →
    ∀ k, k = (if 4095 < x then LimitCase.high else if x < 0 then .low else .within) →
    s.formDemand b = {
      record := { r with
        carry := if s.control.release = .released ∧ s.params.limitMode = .carry then newCarry x s.params.carryLimit
          else r.carry
        clamp := if s.control.release = .released then newClamp r.clamp k else r.clamp
        lastD := some (limitedDemand x)
        counters := { r.counters with
          formed := bump r.counters.formed
          clampHigh := if 4095 < x then bump r.counters.clampHigh else r.counters.clampHigh
          clampLow := if x < 0 then bump r.counters.clampLow else r.counters.clampLow
          load2Omitted := if omitted then bump r.counters.load2Omitted else r.counters.load2Omitted } }
      demand := some (limitedDemand x)
      raw := some x
      load := some (s.loadEstimate b)
      flags := ⟨decide (4095 < x), decide (x < 0), decide (r.carry ≠ 0), s.substituted b, omitted, false, false⟩ }) ∧
  (∀ (s : State) (b : Branch), ∀ r d, r = s.demand.get b →
    d = (if s.params.gapPolicy = .repeatLast then r.lastD else none) →
    s.passDemand b = {
      record := { r with counters := { r.counters with notFormed := bump r.counters.notFormed } }
      demand := d
      raw := none
      load := none
      flags := ⟨false, false, false, false, false, d.isSome, true⟩ })

/-- R46, R61, R62, R64 to R67, R89, R93: at a crossing event the Demand Unit hands over one order of the event's
half-cycle, with the angle and the flags of its demand, and offers one record, whose angle is the one looked up (log 33,
the model's reading); a full send queue drops the order as a gap, an idle transmitter begins it at once, and a gap that
brings the count to GAP_LIMIT trips: after the order and the record are handed on, and not from a count stopped at 255
(logs 16 and 17, the model's readings). In QUIESCENT it passes the event over. -/
def Obligations.DemandEventHandsOverOneOrder : Prop :=
  (∀ n, n < 255 → bump255 n = n + 1) ∧
  bump255 255 = 255 ∧
  ∀ (s : State) (ev : CrossingEvent),
    (s.control.mode = .quiescent → demandEvent ev s = s) ∧
    (s.control.mode ≠ .quiescent →
      ∀ v x o g, v = updateTrim ev s → x = v.demandResult ev.branch →
      o = Order.mk ev.branch ev.polarity ev.h ev.crossingTag (v.orderAngle ev.branch x.demand) x.flags →
      g = (s.demand.get ev.branch).gapCount →
        (x.flags.notFormed = true ↔ v.demandForms ev.branch = false) ∧
        (demandEvent ev s).trackers = s.trackers ∧ (demandEvent ev s).asm = s.asm ∧
        (demandEvent ev s).banks = s.banks ∧
        (∀ b, b ≠ ev.branch → (demandEvent ev s).exchangeRec b = s.exchangeRec b) ∧
        (demandEvent ev s).capture = (offerRecord (eventRecord ev x (v.tableAngle ev.branch x.demand)
          s.control.release) s).capture ∧
        eventRecord ev x (v.tableAngle ev.branch x.demand) s.control.release = ⟨ev.branch, ev.polarity, ev.h,
          ev.crossingTag, x.demand, x.raw.map fun r => max (-32767) (min 32767 r), x.load, x.record.trim,
          x.record.carry, x.flags, v.tableAngle ev.branch x.demand, s.control.release⟩ ∧
        ((demandEvent ev s).demand.get ev.branch).gapCount =
          (if x.flags.notFormed = true ∨ 8 ≤ s.exchange.queue.length then bump255 g else g) ∧
        (8 ≤ s.exchange.queue.length →
          ((demandEvent ev s).exchangeRec ev.branch).counters = { (s.exchangeRec ev.branch).counters with
            missed := bump (s.exchangeRec ev.branch).counters.missed } ∧
          (demandEvent ev s).exchange.transmitter = s.exchange.transmitter) ∧
        (s.exchange.queue.length < 8 →
          ((demandEvent ev s).exchangeRec ev.branch).counters = { (s.exchangeRec ev.branch).counters with
            queued := bump (s.exchangeRec ev.branch).counters.queued } ∧
          (s.exchange.transmitter.isSome = true →
            (demandEvent ev s).exchange.transmitter = s.exchange.transmitter) ∧
          (s.exchange.transmitter = none →
            (demandEvent ev s).exchange.transmitter =
              (s.exchange.queue ++ [VFrame.order o]).head?.map fun f => ⟨f, false⟩)) ∧
        ((¬(x.flags.notFormed = true ∨ 8 ≤ s.exchange.queue.length) ∨ 255 ≤ g ∨ g + 1 < s.params.gapLimit) →
          (demandEvent ev s).control = s.control ∧ (demandEvent ev s).tables = s.tables ∧
          (∀ b, b ≠ ev.branch → (demandEvent ev s).demand.get b = s.demand.get b) ∧
          (demandEvent ev s).demand.get ev.branch = { x.record with
            gapCount := ((demandEvent ev s).demand.get ev.branch).gapCount } ∧
          (8 ≤ s.exchange.queue.length → (demandEvent ev s).exchange.queue = s.exchange.queue) ∧
          (s.exchange.queue.length < 8 → s.exchange.transmitter.isSome = true →
            (demandEvent ev s).exchange.queue = s.exchange.queue ++ [VFrame.order o]) ∧
          (s.exchange.queue.length < 8 → s.exchange.transmitter = none →
            (demandEvent ev s).exchange.queue = (s.exchange.queue ++ [VFrame.order o]).tail)) ∧
        (x.flags.notFormed = true ∨ 8 ≤ s.exchange.queue.length → g < 255 → s.params.gapLimit ≤ g + 1 →
          (demandEvent ev s).control.trips = { s.control.trips with
            gap := s.control.trips.gap.set ev.branch true } ∧
          (demandEvent ev s).control.counters.gapCauses = bump s.control.counters.gapCauses ∧
          (demandEvent ev s).control.release = .held ∧
          ((demandEvent ev s).notices.records.get .trip).status = true))

/-! ## Order exchange -/

/-- R93, R94: the completion of an order not disowned and at most three half-cycles old joins its branch's outstanding
list, ends a run of gaps if it was formed, and lets the next frame begin; a bank order is counted; an older order is a
timeout; a disowned one joins no list; an idle transmitter has nothing to complete (log 24, the model's reading). R91, R64,
R65: the deadline check withdraws the orders 12 sets old, each a gap, all of them before any is reported (log 34, the
model's choice). R96, R97: a crossing event removes the entries four half-cycles old, each a timeout. R95: entries of ages 0
to 3, oldest first, are at most four. -/
def Obligations.OrderCompletionJoinsOutstandingList : Prop :=
  (∀ s : State, Free s →
    (s.exchange.transmitter = none → ∃ t, exec .vTransmitCompletion s = .next t ∧ Settled s t) ∧
    (∀ (o : Order) (x : Bool), s.exchange.transmitter = some ⟨.order o, x⟩ →
      (x = true ∨ ((s.trackers.get o.branch).h - o.h).toNat ≤ 3) →
      ∃ t u : State, exec .vTransmitCompletion s = .next t ∧ Settled u t ∧
        u.ports = { s.ports with v := { s.ports.v with sent := bump s.ports.v.sent } } ∧
        (∀ b, u.exchangeRec b = if b = o.branch then { s.exchangeRec b with
            outstanding := (s.exchangeRec b).outstanding ++ (if x then [] else [⟨o.h, o.polarity, o.angle⟩])
            counters := { (s.exchangeRec b).counters with sent := bump (s.exchangeRec b).counters.sent } }
          else s.exchangeRec b) ∧
        u.exchange.transmitter = s.exchange.queue.head?.map (fun f => ⟨f, false⟩) ∧
        u.exchange.queue = s.exchange.queue.tail ∧ u.exchange.counters = s.exchange.counters ∧
        (∀ b, u.demand.get b = if b = o.branch ∧ o.flags.notFormed = false then
            { s.demand.get b with gapCount := 0 } else s.demand.get b) ∧
        u.control = s.control ∧ u.tables = s.tables ∧ u.banks = s.banks ∧ u.asm = s.asm ∧
        u.trackers = s.trackers ∧ u.capture = s.capture ∧ u.params = s.params ∧ u.processor = s.processor) ∧
    (∀ o : Order, s.exchange.transmitter = some ⟨.order o, false⟩ → 3 < ((s.trackers.get o.branch).h - o.h).toNat →
      ∃ t, exec .vTransmitCompletion s = .next t ∧
        (t.exchangeRec o.branch).outstanding = (s.exchangeRec o.branch).outstanding ∧
        (t.exchangeRec o.branch).timeoutRun = bump255 (s.exchangeRec o.branch).timeoutRun ∧
        (t.exchangeRec o.branch).counters.timeout = bump (s.exchangeRec o.branch).counters.timeout) ∧
    (∀ n a x, s.exchange.transmitter = some ⟨.bank n a, x⟩ →
      ∃ t, exec .vTransmitCompletion s = .next t ∧
        Settled ((s.countV fun c => { c with sent := bump c.sent }).setExchange { s.exchange with
          queue := s.exchange.queue.tail
          transmitter := s.exchange.queue.head?.map fun f => ⟨f, false⟩
          counters := { s.exchange.counters with bankSent := bump s.exchange.counters.bankSent } }) t)) ∧
  (∀ (s : State) (tag : Tag), ∀ late : VFrame → Bool,
    (∀ o, late (.order o) = decide (12 ≤ (tag - o.crossingTag).toNat)) → (∀ n a, late (.bank n a) = false) →
    ((∀ f ∈ s.exchange.queue, late f = false) → deadlineCheck tag s = s) ∧
    (deadlineCheck tag s).exchange.transmitter = s.exchange.transmitter ∧
    ((deadlineCheck tag s).exchange.queue = s.exchange.queue.filter (fun f => !late f) ∨
      (deadlineCheck tag s).exchange.queue = (s.exchange.queue.filter fun f => !late f).map VFrame.blocked) ∧
    (VFrame.orders [] = [] ∧ (∀ o l, VFrame.orders (.order o :: l) = o :: VFrame.orders l) ∧
      ∀ n a l, VFrame.orders (.bank n a :: l) = VFrame.orders l) ∧
    (∀ o, VFrame.blocked (.order o) = .order { o with angle := 8192 }) ∧
    (∀ n a, VFrame.blocked (.bank n a) = .bank n a) ∧
    ∀ b k m, k = ((VFrame.orders (s.exchange.queue.filter late)).filter fun o => decide (o.branch = b)).length →
      m = ((VFrame.orders (s.exchange.queue.filter late)).filter fun o =>
        decide (o.branch = b) && !o.flags.notFormed).length →
      ((deadlineCheck tag s).exchangeRec b).outstanding = (s.exchangeRec b).outstanding ∧
      ((s.exchangeRec b).counters.late + k ≤ 65535 →
        ((deadlineCheck tag s).exchangeRec b).counters.late = (s.exchangeRec b).counters.late + k) ∧
      ((s.demand.get b).gapCount + m ≤ 255 →
        ((deadlineCheck tag s).demand.get b).gapCount = (s.demand.get b).gapCount + m ∧
        ((deadlineCheck tag s).control.trips.gap.get b = true ↔ s.control.trips.gap.get b = true ∨
          1 ≤ m ∧ s.params.gapLimit ≤ (s.demand.get b).gapCount + m) ∧
        (1 ≤ m → s.params.gapLimit ≤ (s.demand.get b).gapCount + m →
          (deadlineCheck tag s).control.release = .held ∧
          ((deadlineCheck tag s).notices.records.get .trip).status = true))) ∧
  (∀ (s : State) (ev : CrossingEvent), ∀ r k, r = s.exchangeRec ev.branch →
    k = (r.outstanding.filter fun e => decide (4 ≤ (ev.h - e.h).toNat)).length →
    (k = 0 → ageOrders ev s = s) ∧
    ((ageOrders ev s).exchangeRec ev.branch).outstanding =
      r.outstanding.filter (fun e => decide ((ev.h - e.h).toNat ≤ 3)) ∧
    (∀ b, b ≠ ev.branch → (ageOrders ev s).exchangeRec b = s.exchangeRec b) ∧
    (r.counters.timeout + k ≤ 65535 →
      ((ageOrders ev s).exchangeRec ev.branch).counters.timeout = r.counters.timeout + k) ∧
    (r.timeoutRun + k ≤ 255 →
      ((ageOrders ev s).exchangeRec ev.branch).timeoutRun = r.timeoutRun + k ∧
      (1 ≤ k → s.params.timeoutLimit ≤ r.timeoutRun + k →
        (ageOrders ev s).control.trips.report.get ev.branch = true ∧ (ageOrders ev s).control.release = .held ∧
        ((ageOrders ev s).notices.records.get .trip).status = true) ∧
      ((k = 0 ∨ r.timeoutRun + k < s.params.timeoutLimit) → (ageOrders ev s).control = s.control))) ∧
  ∀ (now : HalfCycle) (l : List Outstanding), (∀ e ∈ l, (now - e.h).toNat ≤ 3) →
    (l.map fun e => (now - e.h).toNat).Pairwise (· > ·) → l.length ≤ 4

/-- R98 to R104: a valve report with a field outside its list is a format error in every mode (log 18, the model's
reading of R98 and R99); in QUIESCENT a report is discarded; otherwise it sets its branch's readiness, a change of
valve ready is handed over (R100), what that makes available to the M transmitter goes before what follows (R99, R192;
log 13), and then it is matched: one that matches no entry is counted stray, and a matched one ends the run of
timeouts and is judged against the ordered angle: correct, a misfire, which at every misfire while the count is at or
above MISFIRE_LIMIT, also at 255, hands its cause (R103), or a VALVE cause that is latched with its first cause and
holds release. R98, Table 11-5: the fields of a report. -/
def Obligations.ValveReportIsMatchedAndJudged : Prop :=
  (∀ b : Byte, branch? b = (if b = 0 then some .ab else if b = 1 then some .bc else if b = 2 then some .ca else none) ∧
    polarity? b = (if b = 0 then some .pos else if b = 1 then some .neg else none) ∧
    valveOutcome? b = (if b = 0 then some .fired else if b = 1 then some .withheld else if b = 2 then some .notFired
      else if b = 3 then some .fault else none)) ∧
  (∀ (r : ReportFrame) (v : ValveReport), valveReport? r = some v ↔
    branch? r.branch = some v.branch ∧ polarity? r.polarity = some v.polarity ∧ v.h = r.h ∧
    valveOutcome? r.outcome = some v.outcome ∧ v.firedAngle = r.firedAngle.toNat ∧ v.ready = r.ready.getLsbD 0 ∧
    v.faultCode = r.faultCode ∧ (v.outcome = .fired → 4096 ≤ v.firedAngle ∧ v.firedAngle ≤ 8191)) ∧
  (∀ (s : State) (r : ReportFrame), Free s →
    (valveReport? r = none →
      ∃ t, exec (.valveReport r) s = .next t ∧
        Settled (s.receivedV.countV fun c => { c with formatError := bump c.formatError }) t) ∧
    (∀ v, valveReport? r = some v →
      (s.control.mode = .quiescent → ∃ t, exec (.valveReport r) s = .next t ∧ Settled s.receivedV t) ∧
      (s.control.mode ≠ .quiescent → v.ready = (s.exchangeRec v.branch).ready →
        ((∀ e ∈ (s.exchangeRec v.branch).outstanding, ¬(e.h = v.h ∧ e.polarity = v.polarity)) →
          ∃ t, exec (.valveReport r) s = .next t ∧
            Settled (s.receivedV.countExchange v.branch fun c => { c with stray := bump c.stray }) t) ∧
        (∀ e before after, (s.exchangeRec v.branch).outstanding = before ++ e :: after →
          (∀ x ∈ before, ¬(x.h = v.h ∧ x.polarity = v.polarity)) → e.h = v.h → e.polarity = v.polarity →
          (v.outcome = .fault ∨ (v.outcome = .fired ∧ e.angle = 8192) →
            ∃ t, exec (.valveReport r) s = .next t ∧ (t.exchangeRec v.branch).outstanding = before ++ after ∧
              (t.exchangeRec v.branch).timeoutRun = 0 ∧
              (t.exchangeRec v.branch).counters.valve = bump (s.exchangeRec v.branch).counters.valve ∧
              t.control.release = .held ∧
              t.control.trips = { s.control.trips with
                valve := some (s.control.trips.valve.getD ⟨v.branch, v.h, v.polarity,
                  if v.outcome = .fault then some v.faultCode else none⟩)
                valveCount := bump255 s.control.trips.valveCount }) ∧
          (((v.outcome = .withheld ∨ v.outcome = .notFired) ∧ e.angle = 8192) ∨
            (v.outcome = .fired ∧ e.angle ≠ 8192 ∧
              ((v.firedAngle : Int) - e.angle).natAbs ≤ s.params.angleTolerance) →
            ∃ t, exec (.valveReport r) s = .next t ∧
              Settled (s.receivedV.setExchangeRec v.branch { s.exchangeRec v.branch with
                outstanding := before ++ after
                timeoutRun := 0
                misfireRun := 0
                counters := { (s.exchangeRec v.branch).counters with
                  matched := bump (s.exchangeRec v.branch).counters.matched
                  correct := bump (s.exchangeRec v.branch).counters.correct } }) t) ∧
          (((v.outcome = .withheld ∨ v.outcome = .notFired) ∧ e.angle ≠ 8192) ∨
            (v.outcome = .fired ∧ e.angle ≠ 8192 ∧
              s.params.angleTolerance < ((v.firedAngle : Int) - e.angle).natAbs) →
            ∃ t, exec (.valveReport r) s = .next t ∧ ∀ k w, k = bump255 (s.exchangeRec v.branch).misfireRun →
              w = { s.exchangeRec v.branch with
                outstanding := before ++ after
                timeoutRun := 0
                misfireRun := k
                counters := { (s.exchangeRec v.branch).counters with
                  matched := bump (s.exchangeRec v.branch).counters.matched
                  misfire := bump (s.exchangeRec v.branch).counters.misfire } } →
              t.exchangeRec v.branch = w ∧
              (k < s.params.misfireLimit → Settled (s.receivedV.setExchangeRec v.branch w) t) ∧
              (s.params.misfireLimit ≤ k →
                t.control.trips = { s.control.trips with misfire := s.control.trips.misfire.set v.branch true } ∧
                t.control.counters.misfireCauses = bump s.control.counters.misfireCauses ∧
                t.control.release = .held ∧ (t.notices.records.get .trip).status = true)))))) ∧
  (∀ (s : State) (r : ReportFrame) (v : ValveReport), Free s → valveReport? r = some v →
    s.control.mode ≠ .quiescent →
    ∃ t, exec (.valveReport r) s = .next t ∧ (t.exchangeRec v.branch).ready = v.ready ∧
      Settled (matchReport v (moment (setReadiness v.branch v.ready s.receivedV))) t) ∧
  ∀ (s : State) (b : Branch) (v : Bool), ∀ u : State, u = s.setExchangeRec b { s.exchangeRec b with ready := v } →
    (u.allReady = true ↔ (∀ c, (u.exchangeRec c).ready = true)) ∧
    (u.allReady = s.allReady → setReadiness b v s = u) ∧
    (u.allReady ≠ s.allReady → setReadiness b v s = handReady u.allReady u)

/-! ## Filter banks -/

/-- R117 to R120, Table 6-3: what a bank status frame does in each state of its bank. -/
def Obligations.BankStatusFollowsTable : Prop :=
  ∀ (s : State) (bank status code : Byte), Free s →
    ((3 < bank.toNat ∨ 2 < status.toNat) →
      ∃ t, exec (.bankStatusFrame bank status code) s = .next t ∧
        Settled (s.receivedV.countV fun c => { c with formatError := bump c.formatError }) t) ∧
    (∀ n st, index4? bank = some n → bankStatus? status = some st →
      ∃ t u : State, exec (.bankStatusFrame bank status code) s = .next t ∧ Settled u t ∧
        u.control = s.control ∧ u.exchange = s.exchange ∧ u.tables = s.tables ∧ u.params = s.params ∧
        u.asm = s.asm ∧ u.trackers = s.trackers ∧ u.capture = s.capture ∧ u.processor = s.processor ∧
        (∀ m, m ≠ n → u.bankRec m = s.bankRec m) ∧
        ((s.bankRec n).state = .absent →
          u.bankRec n = s.bankRec n ∧ u.banks.counters.stray = bump s.banks.counters.stray) ∧
        ((s.bankRec n).state = .closing → st = .closed →
          (u.bankRec n).state = .inService ∧ (u.bankRec n).confirmTimer = none ∧
          u.banks.dwell = some s.params.bankDwell ∧ (∀ b, u.demand.get b = { s.demand.get b with clamp := 0 }) ∧
          (u.notices.records.get .bankChange).status = true) ∧
        ((s.bankRec n).state = .opening → st = .opened →
          (u.bankRec n).state = .discharging ∧ (u.bankRec n).confirmTimer = none ∧
          (u.bankRec n).dischargeTimer = some (s.params.bankDischarge * 8) ∧
          u.banks.dwell = some s.params.bankDwell ∧ (∀ b, u.demand.get b = { s.demand.get b with clamp := 0 }) ∧
          (u.notices.records.get .bankChange).status = true) ∧
        (st = .closed → (s.bankRec n).state = .out ∨ (s.bankRec n).state = .discharging ∨
            (s.bankRec n).state = .faulted →
          (u.bankRec n).state = .inService ∧ (u.bankRec n).counted = false ∧
          (u.bankRec n).dischargeTimer = none ∧ u.banks.dwell = some s.params.bankDwell ∧
          (u.bankRec n).counters.unsolicited = bump (s.bankRec n).counters.unsolicited ∧ u.demand = s.demand) ∧
        (st = .opened → (s.bankRec n).state = .inService ∨ (s.bankRec n).state = .faulted →
          (u.bankRec n).state = .discharging ∧ (u.bankRec n).counted = false ∧
          (u.bankRec n).dischargeTimer = some (s.params.bankDischarge * 8) ∧
          u.banks.dwell = some s.params.bankDwell ∧ u.demand = s.demand) ∧
        (st = .failed → (s.bankRec n).state ≠ .absent → (s.bankRec n).state ≠ .faulted →
          (u.bankRec n).state = .faulted ∧ (u.bankRec n).faultCode = some code ∧
          (u.bankRec n).counted = (decide ((s.bankRec n).state = .inService) ||
            decide ((s.bankRec n).state = .opening)) ∧
          (u.bankRec n).confirmTimer = none ∧ (u.bankRec n).dischargeTimer = none ∧
          u.banks.dwell = some s.params.bankDwell ∧ u.demand = s.demand ∧
          (u.notices.records.get .bankFault).status = true ∧
          (u.notices.records.get .bankChange).status = true) ∧
        ((s.bankRec n).state = .closing ∧ st = .opened ∨ (s.bankRec n).state = .opening ∧ st = .closed →
          u.bankRec n = { s.bankRec n with counters := { (s.bankRec n).counters with
            contrary := bump (s.bankRec n).counters.contrary } } ∧ u.banks.dwell = s.banks.dwell) ∧
        ((s.bankRec n).state = .inService ∧ st = .closed ∨ (s.bankRec n).state = .out ∧ st = .opened ∨
            (s.bankRec n).state = .discharging ∧ st = .opened ∨ (s.bankRec n).state = .faulted ∧ st = .failed →
          u.bankRec n = { s.bankRec n with
            faultCode := if st = .failed then some code else (s.bankRec n).faultCode
            counters := { (s.bankRec n).counters with
              agreeing := bump (s.bankRec n).counters.agreeing } } ∧ u.banks.dwell = s.banks.dwell))

/-- R115, R126: BANK_FORCE is answered RANGE, then BUSY, then RANGE by its checks; otherwise it makes the bank
transitional, loads its confirmation timer, hands the bank order over and is counted. R90: a bank order is queued,
displaces the newest order of a full queue as a gap, or is refused. R115, R192: a bank order changes the state, with
BANK_CHANGE raised, before its hand-over (log 13, the model's choice of what the M transmitter is offered then). -/
def Obligations.BankForcePlacesOrder : Prop :=
  (∀ (s : State) (n : Index4) (a : BankAction) (x : BankState) (u : State),
    x = (if a = .close then .closing else .opening) →
    u = s.setBankRec n { s.bankRec n with state := x, confirmTimer := some s.params.bankConfirmTimeout } →
    placeBankOrder n a s = handBankOrder n a (momentAfter [.bankChange]
      (if (s.bankRec n).state = x then u else raise .bankChange u))) ∧
  (∀ (s : State) (tag bank action : Byte), Ready s →
    ((3 < bank.toNat ∨ 1 < action.toNat) →
      ∃ t, exec (.bankForce s.unitByte tag bank action) s = .next t ∧
        Settled (s.taken.replied tag 11 .range .empty) t) ∧
    (∀ n a, index4? bank = some n → bankAction? action = some a →
      (s.anyTransitional = true →
        ∃ t, exec (.bankForce s.unitByte tag bank action) s = .next t ∧
          Settled (s.taken.replied tag 11 .busy .empty) t) ∧
      (s.anyTransitional = false →
        (s.bankRec n).state ≠ (if a = .close then BankState.out else BankState.inService) →
        ∃ t, exec (.bankForce s.unitByte tag bank action) s = .next t ∧
          Settled (s.taken.replied tag 11 .range .empty) t) ∧
      (s.anyTransitional = false →
        (s.bankRec n).state = (if a = .close then BankState.out else BankState.inService) →
        ∃ (t u : State) (x : BankState), x = (if a = .close then .closing else .opening) ∧
          exec (.bankForce s.unitByte tag bank action) s = .next t ∧
          Settled (u.replied tag 11 .done (.bankForce n x)) t ∧
          u.bankRec n = { s.bankRec n with state := x, confirmTimer := some s.params.bankConfirmTimeout } ∧
          (∀ m, m ≠ n → u.bankRec m = s.bankRec m) ∧ u.banks.dwell = s.banks.dwell ∧
          u.banks.counters = { s.banks.counters with forced := bump s.banks.counters.forced } ∧
          u.bBank = s.bBank ∧ (u.notices.records.get .bankChange).status = true ∧ u.params = s.params ∧
          u.asm = s.asm ∧ u.trackers = s.trackers ∧ u.capture = s.capture ∧
          (s.exchange.queue.length < 8 → s.exchange.transmitter.isSome = true →
            u.exchange.queue = s.exchange.queue ++ [.bank n a] ∧ u.control = s.control ∧
            u.demand = s.demand ∧ u.tables = s.tables)))) ∧
  ∀ (s : State) (n : Index4) (a : BankAction),
    (s.exchange.queue.length < 8 → s.exchange.transmitter.isSome = true →
      handBankOrder n a s = s.setExchange { s.exchange with
        queue := s.exchange.queue ++ [.bank n a]
        counters := { s.exchange.counters with bankQueued := bump s.exchange.counters.bankQueued } }) ∧
    (s.exchange.queue.length < 8 → s.exchange.transmitter = none → s.exchange.queue = [] →
      handBankOrder n a s = s.setExchange { s.exchange with
        transmitter := some ⟨.bank n a, false⟩
        counters := { s.exchange.counters with bankQueued := bump s.exchange.counters.bankQueued } }) ∧
    (8 ≤ s.exchange.queue.length → (∀ f ∈ s.exchange.queue, f.isBank = true) →
      handBankOrder n a s = s.setExchange { s.exchange with
        counters := { s.exchange.counters with bankRefused := bump s.exchange.counters.bankRefused } }) ∧
    (∀ before o after, 8 ≤ s.exchange.queue.length → s.exchange.transmitter.isSome = true →
      s.exchange.queue = before ++ .order o :: after → (∀ f ∈ after, f.isBank = true) →
      ((handBankOrder n a s).exchangeRec o.branch).counters = { (s.exchangeRec o.branch).counters with
        missed := bump (s.exchangeRec o.branch).counters.missed } ∧
      (handBankOrder n a s).exchange.counters.bankQueued = bump s.exchange.counters.bankQueued ∧
      ((handBankOrder n a s).demand.get o.branch).gapCount = (if o.flags.notFormed then
        (s.demand.get o.branch).gapCount else bump255 (s.demand.get o.branch).gapCount) ∧
      ((o.flags.notFormed = true ∨ (s.demand.get o.branch).gapCount + 1 < s.params.gapLimit) →
        (handBankOrder n a s).control = s.control ∧
        (handBankOrder n a s).exchange.queue = before ++ after ++ [.bank n a]) ∧
      (o.flags.notFormed = false → (s.demand.get o.branch).gapCount < 255 →
        s.params.gapLimit ≤ (s.demand.get o.branch).gapCount + 1 →
        (handBankOrder n a s).control.trips.gap.get o.branch = true ∧
        (handBankOrder n a s).control.release = .held))

/-! ## Time -/

/-- R112, R122, R123, R124, R137, R139, R154: what the expiry of each running timer does. That an expiry row acts at any
remaining count of a running timer is the model's choice (log 3), and that an idle pulse has count and width 0, and a
stopped dip monitor count 0, its reading (log 29). -/
def Obligations.TimerExpiriesAct : Prop :=
  ∀ s : State, Free s →
    (∀ n k, (s.bankRec n).state.transitional = true → (s.bankRec n).confirmTimer = some k → OneTransitional s →
      ∃ t, exec .confirmationTimerExpiry s = .next t ∧
        Settled ((((s.setBanks { s.banks with
          banks := s.banks.banks.set n { s.bankRec n with
            state := .faulted
            counted := decide ((s.bankRec n).state = .opening)
            confirmTimer := none
            dischargeTimer := none
            counters := { (s.bankRec n).counters with timeout := bump (s.bankRec n).counters.timeout } }
          dwell := some s.params.bankDwell }).raised .bankChange).raised .bankFault)) t) ∧
    (∀ n, (s.bankRec n).state = .discharging →
      ∃ t, exec (.dischargeTimerExpiry n) s = .next t ∧
        Settled ((s.setBankRec n { s.bankRec n with state := .out, dischargeTimer := none }).raised .bankChange) t) ∧
    (∃ t, exec .dwellTimerExpiry s = .next t ∧ Settled (s.setBanks { s.banks with dwell := none }) t) ∧
    (s.control.dipState = .timing →
      ∃ t, exec .dipToleranceExpiry s = .next t ∧
        Settled ((s.setControl { s.control with
          dipState := .spent
          dipCount := 0
          resume := (match s.control.mode with
            | .run => some .run
            | .park => some .park
            | .waking | .quiescent => s.control.resume)
          counters := { s.control.counters with
            dipInterruption := bump s.control.counters.dipInterruption } }).raised .dip) t) ∧
    (s.control.blanking.state = .pending →
      ∃ t, exec .blankingDelayExpiry s = .next t ∧
        Settled (evalBase (s.setControl { s.control with
          blanking := ⟨.active, s.control.blanking.width, s.control.blanking.width⟩ })) t) ∧
    (s.control.blanking.state = .active →
      ∃ t, exec .blankingPulseEnd s = .next t ∧
        Settled (evalBase (s.setControl { s.control with blanking := ⟨.idle, 0, 0⟩ })) t)

/-- R121 to R125, R137, R154, R181: at a local tick the tick count and every running timer advance by one and expire
at 0, in the Bank Controller's four stages, with automatic switching at the fourth. A tick is the tick count, the dip
monitor, the blanking pulse and the Bank Controller's stages, in an order that is the model's choice (log 12): as
named, but where a PENDING pulse becomes ACTIVE while firing is released, which switching reads, pulse and stages come
in either order. Each of the four is then said by itself. That a pulse which ends has count and width 0 is the model's
reading (log 29): R154 gives neither there. -/
def Obligations.LocalTickAdvancesTimers : Prop :=
  (∀ s : State, s.confirmationExpires = true ↔
    ∃ n, (s.bankRec n).state.transitional = true ∧ (s.bankRec n).confirmTimer = some 1) ∧
  (∀ x : BankState, x.transitional = true ↔ x = .closing ∨ x = .opening) ∧
  (∀ s : State, Free s →
    ∃ t, exec .localTick s = .next t ∧ t.processor.ticks = s.processor.ticks + 1 ∧ t.asm = s.asm ∧
      t.trackers = s.trackers ∧ t.capture = s.capture ∧ t.params = s.params ∧ t.ports = s.ports ∧
      (∀ n k, (s.bankRec n).state = .discharging → (s.bankRec n).dischargeTimer = some k → 2 ≤ k →
        t.bankRec n = { s.bankRec n with dischargeTimer := some (k - 1) }) ∧
      (∀ n, (s.bankRec n).state = .discharging → (s.bankRec n).dischargeTimer = some 1 →
        (t.bankRec n).dischargeTimer = none ∧ ((t.bankRec n).state = .out ∨
          s.params.autoBanks = true ∧ (t.bankRec n).state = .closing)) ∧
      (∀ n k, (s.bankRec n).state.transitional = true → (s.bankRec n).confirmTimer = some k → 2 ≤ k →
        t.bankRec n = { s.bankRec n with confirmTimer := some (k - 1) }) ∧
      (∀ n, (s.bankRec n).state.transitional = true → (s.bankRec n).confirmTimer = some 1 →
        (t.bankRec n).state = .faulted ∧ t.banks.dwell = some s.params.bankDwell) ∧
      (∀ k, s.confirmationExpires = false → s.banks.dwell = some k → 2 ≤ k → t.banks.dwell = some (k - 1)) ∧
      (s.confirmationExpires = false → s.banks.dwell = some 1 ∨ s.banks.dwell = none → t.banks.dwell = none) ∧
      (s.control.dipState = .timing → 2 ≤ s.control.dipCount →
        t.control.dipState = .timing ∧ t.control.dipCount = s.control.dipCount - 1) ∧
      (s.control.dipState = .timing → s.control.dipCount = 1 → t.control.dipState = .spent) ∧
      (s.control.blanking.state = .idle → t.control.blanking = s.control.blanking) ∧
      (s.control.blanking.state ≠ .idle → 2 ≤ s.control.blanking.count →
        t.control.blanking = { s.control.blanking with count := s.control.blanking.count - 1 }) ∧
      (s.control.blanking.state = .pending → s.control.blanking.count = 1 →
        t.control.blanking = ⟨.active, s.control.blanking.width, s.control.blanking.width⟩ ∧
        t.control.release = .held) ∧
      (s.control.blanking.state = .active → s.control.blanking.count = 1 → t.control.blanking = ⟨.idle, 0, 0⟩)) ∧
  (∀ s : State, Free s → ∃ t u : State, exec .localTick s = .next t ∧ Settled u t ∧
    ∀ d, d = tickDip (countTick s) →
      (¬(s.control.blanking.state = .pending ∧ s.control.blanking.count ≤ 1 ∧ s.control.release = .released) →
        u = tickBanks (tickBlanking d)) ∧
      (s.control.blanking.state = .pending → s.control.blanking.count ≤ 1 → s.control.release = .released →
        ∃ k v, v = { d with freeCount := k } ∧
          (u = moment (tickBanks (moment (tickBlanking v))) ∨ u = moment (tickBlanking (moment (tickBanks v)))))) ∧
  (∀ s : State,
    countTick s = s.setProcessor { s.processor with ticks := s.processor.ticks + 1 } ∧
    (s.control.dipState ≠ .timing → tickDip s = s) ∧
    (s.control.dipState = .timing → 2 ≤ s.control.dipCount →
      tickDip s = s.setControl { s.control with dipCount := s.control.dipCount - 1 }) ∧
    (s.control.dipState = .timing → s.control.dipCount ≤ 1 →
      tickDip s = (s.setControl { s.control with
        dipState := .spent
        dipCount := 0
        resume := (match s.control.mode with
          | .run => some .run
          | .park => some .park
          | .waking | .quiescent => s.control.resume)
        counters := { s.control.counters with
          dipInterruption := bump s.control.counters.dipInterruption } }).raised .dip) ∧
    (s.control.blanking.state = .idle → tickBlanking s = s) ∧
    (s.control.blanking.state ≠ .idle → 2 ≤ s.control.blanking.count →
      tickBlanking s = s.setControl { s.control with
        blanking := { s.control.blanking with count := s.control.blanking.count - 1 } }) ∧
    (s.control.blanking.state = .pending → s.control.blanking.count ≤ 1 →
      tickBlanking s = evalBase (s.setControl { s.control with
        blanking := ⟨.active, s.control.blanking.width, s.control.blanking.width⟩ })) ∧
    (s.control.blanking.state = .active → s.control.blanking.count ≤ 1 →
      tickBlanking s = evalBase (s.setControl { s.control with blanking := ⟨.idle, 0, 0⟩ }))) ∧
  (∀ s : State, ∃ u : State, tickBanks s = autoSwitch u ∧ u.control = s.control ∧ u.demand = s.demand ∧
    u.exchange = s.exchange ∧ u.params = s.params ∧ u.banks.counters = s.banks.counters ∧
    (∀ n k, (s.bankRec n).state = .discharging → (s.bankRec n).dischargeTimer = some k →
      (2 ≤ k → u.bankRec n = { s.bankRec n with dischargeTimer := some (k - 1) }) ∧
      (k = 1 → u.bankRec n = { s.bankRec n with state := .out, dischargeTimer := none } ∧
        (u.notices.records.get .bankChange).status = true)) ∧
    (∀ n k, (s.bankRec n).state.transitional = true → (s.bankRec n).confirmTimer = some k →
      (2 ≤ k → u.bankRec n = { s.bankRec n with confirmTimer := some (k - 1) }) ∧
      (k = 1 → (u.bankRec n).state = .faulted ∧ (u.bankRec n).confirmTimer = none ∧
        (u.bankRec n).counted = decide ((s.bankRec n).state = .opening) ∧
        (u.bankRec n).counters = { (s.bankRec n).counters with timeout := bump (s.bankRec n).counters.timeout } ∧
        u.banks.dwell = some s.params.bankDwell ∧ (u.notices.records.get .bankFault).status = true)) ∧
    (∀ n, (s.bankRec n).state ≠ .discharging → (s.bankRec n).state.transitional = false →
      u.bankRec n = s.bankRec n) ∧
    (s.confirmationExpires = false → u.banks.dwell = s.banks.dwell.bind fun k => if k ≤ 1 then none else some (k - 1))) ∧
  ∀ s : State,
    (s.switchingEvaluated = true ↔ s.params.autoBanks = true ∧ s.control.release = .released ∧
      (∀ n, (s.bankRec n).state ≠ .closing ∧ (s.bankRec n).state ≠ .opening) ∧ s.banks.dwell = none) ∧
    (s.switchingEvaluated = false → autoSwitch s = s) ∧
    (s.switchingEvaluated = true → ∀ x, x = s.demand.ab.clamp + s.demand.bc.clamp + s.demand.ca.clamp →
      (x ≤ -(s.params.bankInThreshold : Int) →
        (∀ n, (s.bankRec n).state = .out → (∀ m, Index4.toNat m < Index4.toNat n → (s.bankRec m).state ≠ .out) →
          autoSwitch s = placeBankOrder n .close (s.setBanks { s.banks with counters := { s.banks.counters with
            autoClose := bump s.banks.counters.autoClose } })) ∧
        ((∀ n, (s.bankRec n).state ≠ .out) → autoSwitch s = raise .clamp s)) ∧
      (-(s.params.bankInThreshold : Int) < x → s.params.bankOutThreshold ≤ x →
        (∀ n, (s.bankRec n).state = .inService → (∀ m, Index4.toNat n < Index4.toNat m → (s.bankRec m).state ≠ .inService) →
          autoSwitch s = placeBankOrder n .opening (s.setBanks { s.banks with counters := { s.banks.counters with
            autoOpen := bump s.banks.counters.autoOpen } })) ∧
        ((∀ n, (s.bankRec n).state ≠ .inService) → autoSwitch s = raise .clamp s)) ∧
      (-(s.params.bankInThreshold : Int) < x → x < s.params.bankOutThreshold → autoSwitch s = s))

/-! ## Frames as bytes -/

/-- R194, R195: the checks of a received frame in order, each with its counter; a frame that passes is handed on as
the frame its bytes spell; and the check code of the nine digits. R195: how the check code is formed. R196: the codes
of names and flags in operands and status frames; the places of the names of BANK_FORCE, TABLE_READ, the gap policy
and the aux polarity and type in their lists are the model's reading (log 22). Tables 9-2 and 11-2 to 11-5: the
layouts of the frames received, and of the frames sent up to their data. -/
def Obligations.ReceivedBytesAreChecked : Prop :=
  (∀ b : Byte, flag? b = (if b = 0 then some false else if b = 1 then some true else none) ∧
    gapPolicy? b = (if b = 0 then some .hold else if b = 1 then some .mark else none) ∧
    auxPolarity? b = (if b = 0 then some .activeHigh else if b = 1 then some .activeLow else none) ∧
    auxType? b = (if b = 0 then some .edge else if b = 1 then some .level else none) ∧
    bankAction? b = (if b = 0 then some .close else if b = 1 then some .opening else none) ∧
    tableBank? b = (if b = 0 then some .active else if b = 1 then some .staged else none) ∧
    captureMode? b = (if b = 0 then some .bypass else if b = 1 then some .stream else if b = 2 then some .stopOnFull
      else none) ∧
    bankStatus? b = (if b = 0 then some .closed else if b = 1 then some .opened else if b = 2 then some .failed
      else none) ∧
    index4? b = (if b = 0 then some .i0 else if b = 1 then some .i1 else if b = 2 then some .i2 else if b = 3 then
      some .i3 else none) ∧
    quantity? b = [Quantity.ia, .ib, .ic, .vab, .vbc, .vca, .ia2, .ib2, .ic2][b.toNat]? ∧
    noticeSource? b = NoticeSource.all[b.toNat]? ∧
    auxActions? b = (if b.toNat < 32 then
      some ⟨b.getLsbD 0, b.getLsbD 1, b.getLsbD 2, b.getLsbD 3, b.getLsbD 4⟩ else none)) ∧
  (checkCode [] = 0xFFFF ∧ ∀ (l : List Byte) (b : Byte), checkCode (l ++ [b]) = (List.range 8).foldl
    (fun r _ => if r.getLsbD 15 then (r <<< 1) ^^^ 0x1021 else r <<< 1) (checkCode l ^^^ (b.setWidth 16 <<< 8))) ∧
  ((∀ w : Half, ∃ x y : Byte, halfBytes w = [x, y] ∧ w = x ++ y) ∧ halves [] = [] ∧
    ∀ (x y : Byte) (l : List Byte), halves (x :: y :: l) = (x ++ y) :: halves l) ∧
  (∀ (k a b c d e f g h : Byte) (l : List Byte),
    sampleOf (k :: a :: b :: c :: d :: e :: l) = ⟨a, b ++ c, d, halves (l.take (2 * e.toNat))⟩ ∧
    operandsOf (k :: a :: b :: c :: d :: l) = l.take d.toNat ∧
    reportOf (k :: a :: b :: c :: d :: e :: f :: g :: h :: l) = ⟨a, b, c, d, e ++ f, g, h⟩) ∧
  (∀ (s : State) (g : PortCounters → PortCounters),
    s.countPort .m g = s.setPorts { s.ports with m := g s.ports.m } ∧
    s.countPort .v g = s.setPorts { s.ports with v := g s.ports.v }) ∧
  ((∀ (o : Order) (x : List Byte), x = [0xC1, (match o.branch with
        | .ab => 0
        | .bc => 1
        | .ca => 2), (match o.polarity with
        | .pos => 0
        | .neg => 1), o.h, BitVec.ofNat 8 (o.angle / 256), BitVec.ofNat 8 o.angle, o.flags.byte] →
      (VFrame.order o).bytes = x ++ halfBytes (checkCode x)) ∧
    (∀ (n : Index4) (a : BankAction) (x : List Byte), x = [0xC2, BitVec.ofNat 8 (Index4.toNat n),
        if a = .close then 0 else 1] → (VFrame.bank n a).bytes = x ++ halfBytes (checkCode x)) ∧
    (∀ (f : DemandFlags) (i : Nat), f.byte.getLsbD i = [f.clampHigh, f.clampLow, f.carried, f.substituted,
      f.load2Omitted, f.repeated, f.notFormed].getD i false) ∧
    (∀ (r : Reply) (x : List Byte), x = [0xB1, r.unit.setWidth 8, r.tag, r.kind, BitVec.ofNat 8 r.result.code,
        BitVec.ofNat 8 r.data.bytes.length] ++ r.data.bytes → r.bytes = x ++ halfBytes (checkCode x)) ∧
    ∀ (n : Notice) (x : List Byte), x = [0xB2, n.unit.setWidth 8, BitVec.ofNat 8 n.source.number,
      BitVec.ofNat 8 n.level, BitVec.ofNat 8 n.snapshot.bytes.length] ++ n.snapshot.bytes →
      n.bytes = x ++ halfBytes (checkCode x)) ∧
  ([ResultCode.done, .queueFull, .unknownKind, .malformed, .range, .wrongMode, .busy, .notMonotonic, .unmapped,
    .aborted, .ignored].map ResultCode.code = [0, 1, 2, 3, 4, 5, 6, 7, 8, 9, 10]) ∧
  checkCode [0x31, 0x32, 0x33, 0x34, 0x35, 0x36, 0x37, 0x38, 0x39] = 0x29B1 ∧
  ∀ (s : State) (p : Port) (b : List Byte), Free s →
    (160 < b.length → ∃ t, exec (.frameRejected p b) s = .next t ∧
      Settled (s.countPort p fun c => { c with oversize := bump c.oversize }) t) ∧
    (b.length ≤ 160 → (b.length < 3 ∨ b.drop (b.length - 2) ≠ halfBytes (checkCode (b.take (b.length - 2)))) →
      ∃ t, exec (.frameRejected p b) s = .next t ∧
        Settled (s.countPort p fun c => { c with checkFailure := bump c.checkFailure }) t) ∧
    (3 ≤ b.length → b.length ≤ 160 → b.drop (b.length - 2) = halfBytes (checkCode (b.take (b.length - 2))) →
      ((p = .m → b.head? ≠ some 0xA1 ∧ b.head? ≠ some 0xA2) → (p = .v → b.head? ≠ some 0xD1 ∧ b.head? ≠ some 0xD2) →
        ∃ t, exec (.frameRejected p b) s = .next t ∧
          Settled (s.countPort p fun c => { c with unknownKind := bump c.unknownKind }) t) ∧
      ((p = .m ∧ b.head? = some 0xA1 ∧ (∀ c, b[5]? = some c → b.length ≠ 8 + 2 * c.toNat) ∨
          p = .m ∧ b.head? = some 0xA2 ∧ (∀ c, b[4]? = some c → b.length ≠ 7 + c.toNat) ∨
          p = .v ∧ b.head? = some 0xD1 ∧ b.length ≠ 11 ∨ p = .v ∧ b.head? = some 0xD2 ∧ b.length ≠ 6) →
        ∃ t, exec (.frameRejected p b) s = .next t ∧
          Settled (s.countPort p fun c => { c with formatError := bump c.formatError }) t) ∧
      (p = .m → b.head? = some 0xA1 → (∃ c, b[5]? = some c ∧ b.length = 8 + 2 * c.toNat) →
        exec (.frameRejected p b) s = exec (.sampleFrame (sampleOf b)) s) ∧
      (p = .m → b.head? = some 0xA2 → (∃ c, b[4]? = some c ∧ b.length = 7 + c.toNat) →
        exec (.frameRejected p b) s =
          exec (.directiveFrame (b.getD 1 0) (b.getD 2 0) (b.getD 3 0) (operandsOf b)) s) ∧
      (p = .v → b.head? = some 0xD1 → b.length = 11 →
        exec (.frameRejected p b) s = exec (.valveReport (reportOf b)) s) ∧
      (p = .v → b.head? = some 0xD2 → b.length = 6 →
        exec (.frameRejected p b) s = exec (.bankStatusFrame (b.getD 1 0) (b.getD 2 0) (b.getD 3 0)) s))

/-! ## Invariants -/

/-- The invariants hold after a reset, whatever the straps. -/
def Obligations.ResetMeetsInvariants : Prop :=
  ∀ (straps : Straps) (rstn : Bool) (p : List Instr) (k : Nat), let s := State.powerOn straps rstn p k
    TablesInv s ∧ StationInv s ∧ SendInv s ∧ ModeInv s ∧ BlockedInv s ∧ OneTransitional s ∧ CaptureInv s ∧
    WindowsFull s ∧ AssemblyInv s ∧ ParamsInv s ∧ AgesInv s

/-- R71, R72, R76, R84: every step keeps both firing-table banks in shape and ACTIVE never rising. -/
def Obligations.StepKeepsTables : Prop := ∀ s t : State, TablesInv s → step s = .next t → TablesInv t

/-- R171, R173, R188, R192: every step keeps the limits of the reply list and the directive queue, the sent flags behind
their status, and the M transmitter idle only while nothing is available to it. -/
def Obligations.StepKeepsStation : Prop := ∀ s t : State, StationInv s → step s = .next t → StationInv t

/-- R88, R93: every step keeps the send queue's limit and the V transmitter working while frames wait. R95: every step
keeps each outstanding entry within three half-cycles of its branch's number. -/
def Obligations.StepKeepsSendQueue : Prop :=
  (∀ s t : State, SendInv s → step s = .next t → SendInv t) ∧
  ∀ s t : State, AgesInv s → step s = .next t → AgesInv t

/-- R131, R146: every step keeps the release state HELD outside RUN and a waking target exactly in WAKING. -/
def Obligations.StepKeepsModeAndRelease : Prop := ∀ s t : State, ModeInv s → step s = .next t → ModeInv t

/-- R56, R57, R58, R61, R82, R92: every step leaves, outside RELEASED, no carry, no clamp count, no real angle in the
send queue and no pending commit. -/
def Obligations.StepKeepsFiringBlocked : Prop := ∀ s t : State, BlockedInv s → step s = .next t → BlockedInv t

/-- R114: every step keeps at most one filter bank in CLOSING or OPENING. -/
def Obligations.StepKeepsOneBankTransitional : Prop :=
  ∀ s t : State, OneTransitional s → step s = .next t → OneTransitional t

/-- R159, R160, R162: every step keeps the capture buffer's limit and the capture state in keeping with the mode. -/
def Obligations.StepKeepsCaptureUnit : Prop := ∀ s t : State, CaptureInv s → step s = .next t → CaptureInv t

/-- R8, R17: every step keeps the assembly queue within eight tags, in tag order, and every window at 64 entries. -/
def Obligations.StepKeepsAssembly : Prop :=
  ∀ s t : State, AssemblyInv s → WindowsFull s → step s = .next t → AssemblyInv t ∧ WindowsFull t

/-- R136, R176: every step keeps every parameter in its range and V_DIP at most V_VALID. -/
def Obligations.StepKeepsParametersInRange : Prop := ∀ s t : State, ParamsInv s → step s = .next t → ParamsInv t
end

