-- ==== Sys2Proof/Laws/Indexed.lean ====
section
/-! SUPPORT. Reading an indexed group after a write, and groups equal at every index. -/

namespace Sys2Proof.Machine

variable {α : Type}

@[simp] theorem PerBranch.get_ofFn (f : Branch → α) (b : Branch) : (PerBranch.ofFn f).get b = f b := by
  cases b <;> rfl

theorem PerBranch.get_set (p : PerBranch α) (b c : Branch) (x : α) :
    (p.set b x).get c = if c = b then x else p.get c := by
  cases b <;> cases c <;> rfl

@[simp] theorem PerBranch.get_set_self (p : PerBranch α) (b : Branch) (x : α) : (p.set b x).get b = x := by
  cases b <;> rfl

theorem PerBranch.get_set_ne (p : PerBranch α) {b c : Branch} (x : α) (h : c ≠ b) : (p.set b x).get c = p.get c := by
  rw [PerBranch.get_set, if_neg h]

theorem PerBranch.ext_get {p q : PerBranch α} (h : ∀ b, p.get b = q.get b) : p = q := by
  obtain ⟨a, b, c⟩ := p
  obtain ⟨d, e, f⟩ := q
  have h1 := h .ab
  have h2 := h .bc
  have h3 := h .ca
  simp only [PerBranch.get] at h1 h2 h3
  rw [h1, h2, h3]

@[simp] theorem PerBranch.set_set (p : PerBranch α) (b : Branch) (x y : α) : (p.set b x).set b y = p.set b y := by
  cases b <;> rfl

@[simp] theorem PerBranch.set_get_self (p : PerBranch α) (b : Branch) : p.set b (p.get b) = p := by
  cases b <;> rfl

@[simp] theorem Four.get_ofFn (f : Index4 → α) (n : Index4) : (Four.ofFn f).get n = f n := by
  cases n <;> rfl

theorem Four.get_set (p : Four α) (n m : Index4) (x : α) : (p.set n x).get m = if m = n then x else p.get m := by
  cases n <;> cases m <;> rfl

@[simp] theorem Four.get_set_self (p : Four α) (n : Index4) (x : α) : (p.set n x).get n = x := by
  cases n <;> rfl

theorem Four.get_set_ne (p : Four α) {n m : Index4} (x : α) (h : m ≠ n) : (p.set n x).get m = p.get m := by
  rw [Four.get_set, if_neg h]

@[simp] theorem Four.set_set (p : Four α) (n : Index4) (x y : α) : (p.set n x).set n y = p.set n y := by
  cases n <;> rfl

@[simp] theorem Four.set_get_self (p : Four α) (n : Index4) : p.set n (p.get n) = p := by
  cases n <;> rfl

@[simp] theorem PerQuantity.get_ofFn (f : Quantity → α) (q : Quantity) : (PerQuantity.ofFn f).get q = f q := by
  cases q <;> rfl

@[simp] theorem PerQuantity.get_set (p : PerQuantity α) (q r : Quantity) (x : α) :
    (p.set q x).get r = if r = q then x else p.get r := by
  simp [PerQuantity.set]

@[simp] theorem PerNotice.get_ofFn (f : NoticeSource → α) (n : NoticeSource) : (PerNotice.ofFn f).get n = f n := by
  cases n <;> rfl

@[simp] theorem PerNotice.get_set (p : PerNotice α) (n m : NoticeSource) (x : α) :
    (p.set n x).get m = if m = n then x else p.get m := by
  simp [PerNotice.set]

theorem NoticeSource.mem_all (n : NoticeSource) : n ∈ NoticeSource.all := by
  cases n <;> decide

theorem Index4.mem_all (n : Index4) : n ∈ Index4.all := by
  cases n <;> decide

theorem Branch.mem_all (b : Branch) : b ∈ Branch.all := by
  cases b <;> decide

end Sys2Proof.Machine
end

