-- ==== Sys2Proof/Laws/State.lean ====
section
/-! SUPPORT. One lemma per field per field write of State, true by rfl. -/

namespace Sys2Proof.Machine

section Params
variable (s : State) (x : Params)
@[simp] theorem State.setParams_pending : (s.setParams x).pending = s.pending := rfl
@[simp] theorem State.setParams_freeCount : (s.setParams x).freeCount = s.freeCount := rfl
@[simp] theorem State.setParams_rstn : (s.setParams x).rstn = s.rstn := rfl
@[simp] theorem State.setParams_straps : (s.setParams x).straps = s.straps := rfl
@[simp] theorem State.setParams_params : (s.setParams x).params = x := rfl
@[simp] theorem State.setParams_ports : (s.setParams x).ports = s.ports := rfl
@[simp] theorem State.setParams_asm : (s.setParams x).asm = s.asm := rfl
@[simp] theorem State.setParams_trackers : (s.setParams x).trackers = s.trackers := rfl
@[simp] theorem State.setParams_demand : (s.setParams x).demand = s.demand := rfl
@[simp] theorem State.setParams_tables : (s.setParams x).tables = s.tables := rfl
@[simp] theorem State.setParams_exchange : (s.setParams x).exchange = s.exchange := rfl
@[simp] theorem State.setParams_banks : (s.setParams x).banks = s.banks := rfl
@[simp] theorem State.setParams_control : (s.setParams x).control = s.control := rfl
@[simp] theorem State.setParams_capture : (s.setParams x).capture = s.capture := rfl
@[simp] theorem State.setParams_processor : (s.setParams x).processor = s.processor := rfl
@[simp] theorem State.setParams_notices : (s.setParams x).notices = s.notices := rfl
@[simp] theorem State.setParams_setParams (y : Params) : (s.setParams x).setParams y = s.setParams y := rfl
end Params

section Ports
variable (s : State) (x : Ports)
@[simp] theorem State.setPorts_pending : (s.setPorts x).pending = s.pending := rfl
@[simp] theorem State.setPorts_freeCount : (s.setPorts x).freeCount = s.freeCount := rfl
@[simp] theorem State.setPorts_rstn : (s.setPorts x).rstn = s.rstn := rfl
@[simp] theorem State.setPorts_straps : (s.setPorts x).straps = s.straps := rfl
@[simp] theorem State.setPorts_params : (s.setPorts x).params = s.params := rfl
@[simp] theorem State.setPorts_ports : (s.setPorts x).ports = x := rfl
@[simp] theorem State.setPorts_asm : (s.setPorts x).asm = s.asm := rfl
@[simp] theorem State.setPorts_trackers : (s.setPorts x).trackers = s.trackers := rfl
@[simp] theorem State.setPorts_demand : (s.setPorts x).demand = s.demand := rfl
@[simp] theorem State.setPorts_tables : (s.setPorts x).tables = s.tables := rfl
@[simp] theorem State.setPorts_exchange : (s.setPorts x).exchange = s.exchange := rfl
@[simp] theorem State.setPorts_banks : (s.setPorts x).banks = s.banks := rfl
@[simp] theorem State.setPorts_control : (s.setPorts x).control = s.control := rfl
@[simp] theorem State.setPorts_capture : (s.setPorts x).capture = s.capture := rfl
@[simp] theorem State.setPorts_processor : (s.setPorts x).processor = s.processor := rfl
@[simp] theorem State.setPorts_notices : (s.setPorts x).notices = s.notices := rfl
@[simp] theorem State.setPorts_setPorts (y : Ports) : (s.setPorts x).setPorts y = s.setPorts y := rfl
end Ports

section Asm
variable (s : State) (x : Assembler)
@[simp] theorem State.setAsm_pending : (s.setAsm x).pending = s.pending := rfl
@[simp] theorem State.setAsm_freeCount : (s.setAsm x).freeCount = s.freeCount := rfl
@[simp] theorem State.setAsm_rstn : (s.setAsm x).rstn = s.rstn := rfl
@[simp] theorem State.setAsm_straps : (s.setAsm x).straps = s.straps := rfl
@[simp] theorem State.setAsm_params : (s.setAsm x).params = s.params := rfl
@[simp] theorem State.setAsm_ports : (s.setAsm x).ports = s.ports := rfl
@[simp] theorem State.setAsm_asm : (s.setAsm x).asm = x := rfl
@[simp] theorem State.setAsm_trackers : (s.setAsm x).trackers = s.trackers := rfl
@[simp] theorem State.setAsm_demand : (s.setAsm x).demand = s.demand := rfl
@[simp] theorem State.setAsm_tables : (s.setAsm x).tables = s.tables := rfl
@[simp] theorem State.setAsm_exchange : (s.setAsm x).exchange = s.exchange := rfl
@[simp] theorem State.setAsm_banks : (s.setAsm x).banks = s.banks := rfl
@[simp] theorem State.setAsm_control : (s.setAsm x).control = s.control := rfl
@[simp] theorem State.setAsm_capture : (s.setAsm x).capture = s.capture := rfl
@[simp] theorem State.setAsm_processor : (s.setAsm x).processor = s.processor := rfl
@[simp] theorem State.setAsm_notices : (s.setAsm x).notices = s.notices := rfl
@[simp] theorem State.setAsm_setAsm (y : Assembler) : (s.setAsm x).setAsm y = s.setAsm y := rfl
end Asm

section Trackers
variable (s : State) (x : PerBranch Tracker)
@[simp] theorem State.setTrackers_pending : (s.setTrackers x).pending = s.pending := rfl
@[simp] theorem State.setTrackers_freeCount : (s.setTrackers x).freeCount = s.freeCount := rfl
@[simp] theorem State.setTrackers_rstn : (s.setTrackers x).rstn = s.rstn := rfl
@[simp] theorem State.setTrackers_straps : (s.setTrackers x).straps = s.straps := rfl
@[simp] theorem State.setTrackers_params : (s.setTrackers x).params = s.params := rfl
@[simp] theorem State.setTrackers_ports : (s.setTrackers x).ports = s.ports := rfl
@[simp] theorem State.setTrackers_asm : (s.setTrackers x).asm = s.asm := rfl
@[simp] theorem State.setTrackers_trackers : (s.setTrackers x).trackers = x := rfl
@[simp] theorem State.setTrackers_demand : (s.setTrackers x).demand = s.demand := rfl
@[simp] theorem State.setTrackers_tables : (s.setTrackers x).tables = s.tables := rfl
@[simp] theorem State.setTrackers_exchange : (s.setTrackers x).exchange = s.exchange := rfl
@[simp] theorem State.setTrackers_banks : (s.setTrackers x).banks = s.banks := rfl
@[simp] theorem State.setTrackers_control : (s.setTrackers x).control = s.control := rfl
@[simp] theorem State.setTrackers_capture : (s.setTrackers x).capture = s.capture := rfl
@[simp] theorem State.setTrackers_processor : (s.setTrackers x).processor = s.processor := rfl
@[simp] theorem State.setTrackers_notices : (s.setTrackers x).notices = s.notices := rfl
@[simp] theorem State.setTrackers_setTrackers (y : PerBranch Tracker) : (s.setTrackers x).setTrackers y = s.setTrackers y := rfl
end Trackers

section Demand
variable (s : State) (x : PerBranch DemandRec)
@[simp] theorem State.setDemand_pending : (s.setDemand x).pending = s.pending := rfl
@[simp] theorem State.setDemand_freeCount : (s.setDemand x).freeCount = s.freeCount := rfl
@[simp] theorem State.setDemand_rstn : (s.setDemand x).rstn = s.rstn := rfl
@[simp] theorem State.setDemand_straps : (s.setDemand x).straps = s.straps := rfl
@[simp] theorem State.setDemand_params : (s.setDemand x).params = s.params := rfl
@[simp] theorem State.setDemand_ports : (s.setDemand x).ports = s.ports := rfl
@[simp] theorem State.setDemand_asm : (s.setDemand x).asm = s.asm := rfl
@[simp] theorem State.setDemand_trackers : (s.setDemand x).trackers = s.trackers := rfl
@[simp] theorem State.setDemand_demand : (s.setDemand x).demand = x := rfl
@[simp] theorem State.setDemand_tables : (s.setDemand x).tables = s.tables := rfl
@[simp] theorem State.setDemand_exchange : (s.setDemand x).exchange = s.exchange := rfl
@[simp] theorem State.setDemand_banks : (s.setDemand x).banks = s.banks := rfl
@[simp] theorem State.setDemand_control : (s.setDemand x).control = s.control := rfl
@[simp] theorem State.setDemand_capture : (s.setDemand x).capture = s.capture := rfl
@[simp] theorem State.setDemand_processor : (s.setDemand x).processor = s.processor := rfl
@[simp] theorem State.setDemand_notices : (s.setDemand x).notices = s.notices := rfl
@[simp] theorem State.setDemand_setDemand (y : PerBranch DemandRec) : (s.setDemand x).setDemand y = s.setDemand y := rfl
end Demand

section Tables
variable (s : State) (x : TableStore)
@[simp] theorem State.setTables_pending : (s.setTables x).pending = s.pending := rfl
@[simp] theorem State.setTables_freeCount : (s.setTables x).freeCount = s.freeCount := rfl
@[simp] theorem State.setTables_rstn : (s.setTables x).rstn = s.rstn := rfl
@[simp] theorem State.setTables_straps : (s.setTables x).straps = s.straps := rfl
@[simp] theorem State.setTables_params : (s.setTables x).params = s.params := rfl
@[simp] theorem State.setTables_ports : (s.setTables x).ports = s.ports := rfl
@[simp] theorem State.setTables_asm : (s.setTables x).asm = s.asm := rfl
@[simp] theorem State.setTables_trackers : (s.setTables x).trackers = s.trackers := rfl
@[simp] theorem State.setTables_demand : (s.setTables x).demand = s.demand := rfl
@[simp] theorem State.setTables_tables : (s.setTables x).tables = x := rfl
@[simp] theorem State.setTables_exchange : (s.setTables x).exchange = s.exchange := rfl
@[simp] theorem State.setTables_banks : (s.setTables x).banks = s.banks := rfl
@[simp] theorem State.setTables_control : (s.setTables x).control = s.control := rfl
@[simp] theorem State.setTables_capture : (s.setTables x).capture = s.capture := rfl
@[simp] theorem State.setTables_processor : (s.setTables x).processor = s.processor := rfl
@[simp] theorem State.setTables_notices : (s.setTables x).notices = s.notices := rfl
@[simp] theorem State.setTables_setTables (y : TableStore) : (s.setTables x).setTables y = s.setTables y := rfl
end Tables

section Exchange
variable (s : State) (x : Exchange)
@[simp] theorem State.setExchange_pending : (s.setExchange x).pending = s.pending := rfl
@[simp] theorem State.setExchange_freeCount : (s.setExchange x).freeCount = s.freeCount := rfl
@[simp] theorem State.setExchange_rstn : (s.setExchange x).rstn = s.rstn := rfl
@[simp] theorem State.setExchange_straps : (s.setExchange x).straps = s.straps := rfl
@[simp] theorem State.setExchange_params : (s.setExchange x).params = s.params := rfl
@[simp] theorem State.setExchange_ports : (s.setExchange x).ports = s.ports := rfl
@[simp] theorem State.setExchange_asm : (s.setExchange x).asm = s.asm := rfl
@[simp] theorem State.setExchange_trackers : (s.setExchange x).trackers = s.trackers := rfl
@[simp] theorem State.setExchange_demand : (s.setExchange x).demand = s.demand := rfl
@[simp] theorem State.setExchange_tables : (s.setExchange x).tables = s.tables := rfl
@[simp] theorem State.setExchange_exchange : (s.setExchange x).exchange = x := rfl
@[simp] theorem State.setExchange_banks : (s.setExchange x).banks = s.banks := rfl
@[simp] theorem State.setExchange_control : (s.setExchange x).control = s.control := rfl
@[simp] theorem State.setExchange_capture : (s.setExchange x).capture = s.capture := rfl
@[simp] theorem State.setExchange_processor : (s.setExchange x).processor = s.processor := rfl
@[simp] theorem State.setExchange_notices : (s.setExchange x).notices = s.notices := rfl
@[simp] theorem State.setExchange_setExchange (y : Exchange) : (s.setExchange x).setExchange y = s.setExchange y := rfl
end Exchange

section Banks
variable (s : State) (x : BankController)
@[simp] theorem State.setBanks_pending : (s.setBanks x).pending = s.pending := rfl
@[simp] theorem State.setBanks_freeCount : (s.setBanks x).freeCount = s.freeCount := rfl
@[simp] theorem State.setBanks_rstn : (s.setBanks x).rstn = s.rstn := rfl
@[simp] theorem State.setBanks_straps : (s.setBanks x).straps = s.straps := rfl
@[simp] theorem State.setBanks_params : (s.setBanks x).params = s.params := rfl
@[simp] theorem State.setBanks_ports : (s.setBanks x).ports = s.ports := rfl
@[simp] theorem State.setBanks_asm : (s.setBanks x).asm = s.asm := rfl
@[simp] theorem State.setBanks_trackers : (s.setBanks x).trackers = s.trackers := rfl
@[simp] theorem State.setBanks_demand : (s.setBanks x).demand = s.demand := rfl
@[simp] theorem State.setBanks_tables : (s.setBanks x).tables = s.tables := rfl
@[simp] theorem State.setBanks_exchange : (s.setBanks x).exchange = s.exchange := rfl
@[simp] theorem State.setBanks_banks : (s.setBanks x).banks = x := rfl
@[simp] theorem State.setBanks_control : (s.setBanks x).control = s.control := rfl
@[simp] theorem State.setBanks_capture : (s.setBanks x).capture = s.capture := rfl
@[simp] theorem State.setBanks_processor : (s.setBanks x).processor = s.processor := rfl
@[simp] theorem State.setBanks_notices : (s.setBanks x).notices = s.notices := rfl
@[simp] theorem State.setBanks_setBanks (y : BankController) : (s.setBanks x).setBanks y = s.setBanks y := rfl
end Banks

section Control
variable (s : State) (x : Controller)
@[simp] theorem State.setControl_pending : (s.setControl x).pending = s.pending := rfl
@[simp] theorem State.setControl_freeCount : (s.setControl x).freeCount = s.freeCount := rfl
@[simp] theorem State.setControl_rstn : (s.setControl x).rstn = s.rstn := rfl
@[simp] theorem State.setControl_straps : (s.setControl x).straps = s.straps := rfl
@[simp] theorem State.setControl_params : (s.setControl x).params = s.params := rfl
@[simp] theorem State.setControl_ports : (s.setControl x).ports = s.ports := rfl
@[simp] theorem State.setControl_asm : (s.setControl x).asm = s.asm := rfl
@[simp] theorem State.setControl_trackers : (s.setControl x).trackers = s.trackers := rfl
@[simp] theorem State.setControl_demand : (s.setControl x).demand = s.demand := rfl
@[simp] theorem State.setControl_tables : (s.setControl x).tables = s.tables := rfl
@[simp] theorem State.setControl_exchange : (s.setControl x).exchange = s.exchange := rfl
@[simp] theorem State.setControl_banks : (s.setControl x).banks = s.banks := rfl
@[simp] theorem State.setControl_control : (s.setControl x).control = x := rfl
@[simp] theorem State.setControl_capture : (s.setControl x).capture = s.capture := rfl
@[simp] theorem State.setControl_processor : (s.setControl x).processor = s.processor := rfl
@[simp] theorem State.setControl_notices : (s.setControl x).notices = s.notices := rfl
@[simp] theorem State.setControl_setControl (y : Controller) : (s.setControl x).setControl y = s.setControl y := rfl
end Control

section Capture
variable (s : State) (x : Capture)
@[simp] theorem State.setCapture_pending : (s.setCapture x).pending = s.pending := rfl
@[simp] theorem State.setCapture_freeCount : (s.setCapture x).freeCount = s.freeCount := rfl
@[simp] theorem State.setCapture_rstn : (s.setCapture x).rstn = s.rstn := rfl
@[simp] theorem State.setCapture_straps : (s.setCapture x).straps = s.straps := rfl
@[simp] theorem State.setCapture_params : (s.setCapture x).params = s.params := rfl
@[simp] theorem State.setCapture_ports : (s.setCapture x).ports = s.ports := rfl
@[simp] theorem State.setCapture_asm : (s.setCapture x).asm = s.asm := rfl
@[simp] theorem State.setCapture_trackers : (s.setCapture x).trackers = s.trackers := rfl
@[simp] theorem State.setCapture_demand : (s.setCapture x).demand = s.demand := rfl
@[simp] theorem State.setCapture_tables : (s.setCapture x).tables = s.tables := rfl
@[simp] theorem State.setCapture_exchange : (s.setCapture x).exchange = s.exchange := rfl
@[simp] theorem State.setCapture_banks : (s.setCapture x).banks = s.banks := rfl
@[simp] theorem State.setCapture_control : (s.setCapture x).control = s.control := rfl
@[simp] theorem State.setCapture_capture : (s.setCapture x).capture = x := rfl
@[simp] theorem State.setCapture_processor : (s.setCapture x).processor = s.processor := rfl
@[simp] theorem State.setCapture_notices : (s.setCapture x).notices = s.notices := rfl
@[simp] theorem State.setCapture_setCapture (y : Capture) : (s.setCapture x).setCapture y = s.setCapture y := rfl
end Capture

section Processor
variable (s : State) (x : Processor)
@[simp] theorem State.setProcessor_pending : (s.setProcessor x).pending = s.pending := rfl
@[simp] theorem State.setProcessor_freeCount : (s.setProcessor x).freeCount = s.freeCount := rfl
@[simp] theorem State.setProcessor_rstn : (s.setProcessor x).rstn = s.rstn := rfl
@[simp] theorem State.setProcessor_straps : (s.setProcessor x).straps = s.straps := rfl
@[simp] theorem State.setProcessor_params : (s.setProcessor x).params = s.params := rfl
@[simp] theorem State.setProcessor_ports : (s.setProcessor x).ports = s.ports := rfl
@[simp] theorem State.setProcessor_asm : (s.setProcessor x).asm = s.asm := rfl
@[simp] theorem State.setProcessor_trackers : (s.setProcessor x).trackers = s.trackers := rfl
@[simp] theorem State.setProcessor_demand : (s.setProcessor x).demand = s.demand := rfl
@[simp] theorem State.setProcessor_tables : (s.setProcessor x).tables = s.tables := rfl
@[simp] theorem State.setProcessor_exchange : (s.setProcessor x).exchange = s.exchange := rfl
@[simp] theorem State.setProcessor_banks : (s.setProcessor x).banks = s.banks := rfl
@[simp] theorem State.setProcessor_control : (s.setProcessor x).control = s.control := rfl
@[simp] theorem State.setProcessor_capture : (s.setProcessor x).capture = s.capture := rfl
@[simp] theorem State.setProcessor_processor : (s.setProcessor x).processor = x := rfl
@[simp] theorem State.setProcessor_notices : (s.setProcessor x).notices = s.notices := rfl
@[simp] theorem State.setProcessor_setProcessor (y : Processor) : (s.setProcessor x).setProcessor y = s.setProcessor y := rfl
end Processor

section Notices
variable (s : State) (x : NoticeUnit)
@[simp] theorem State.setNotices_pending : (s.setNotices x).pending = s.pending := rfl
@[simp] theorem State.setNotices_freeCount : (s.setNotices x).freeCount = s.freeCount := rfl
@[simp] theorem State.setNotices_rstn : (s.setNotices x).rstn = s.rstn := rfl
@[simp] theorem State.setNotices_straps : (s.setNotices x).straps = s.straps := rfl
@[simp] theorem State.setNotices_params : (s.setNotices x).params = s.params := rfl
@[simp] theorem State.setNotices_ports : (s.setNotices x).ports = s.ports := rfl
@[simp] theorem State.setNotices_asm : (s.setNotices x).asm = s.asm := rfl
@[simp] theorem State.setNotices_trackers : (s.setNotices x).trackers = s.trackers := rfl
@[simp] theorem State.setNotices_demand : (s.setNotices x).demand = s.demand := rfl
@[simp] theorem State.setNotices_tables : (s.setNotices x).tables = s.tables := rfl
@[simp] theorem State.setNotices_exchange : (s.setNotices x).exchange = s.exchange := rfl
@[simp] theorem State.setNotices_banks : (s.setNotices x).banks = s.banks := rfl
@[simp] theorem State.setNotices_control : (s.setNotices x).control = s.control := rfl
@[simp] theorem State.setNotices_capture : (s.setNotices x).capture = s.capture := rfl
@[simp] theorem State.setNotices_processor : (s.setNotices x).processor = s.processor := rfl
@[simp] theorem State.setNotices_notices : (s.setNotices x).notices = x := rfl
@[simp] theorem State.setNotices_setNotices (y : NoticeUnit) : (s.setNotices x).setNotices y = s.setNotices y := rfl
end Notices

end Sys2Proof.Machine
end

