-- ==== Sys2Proof/Laws/Station.lean ====
section
/-! SUPPORT. How a step ends: what serving the M transmitter may do, and a directive taken at once. -/

namespace Sys2Proof.Machine

/-! ## Free orders -/

theorem takeAt_mem {α : Type} : ∀ (n : Nat) (xs : List α) (x : α) (r : List α), takeAt n xs = some (x, r) → x ∈ xs
  | _, [], _, _, h => by simp [takeAt] at h
  | 0, _ :: _, _, _, h => by
    simp [takeAt] at h
    simp [h.1]
  | n + 1, _ :: ys, _, _, h => by
    simp only [takeAt, Option.map_eq_some_iff] at h
    obtain ⟨p, hp, he⟩ := h
    have := takeAt_mem n ys p.1 p.2 hp
    cases he
    simp [this]

theorem takeAt_exists {α : Type} : ∀ (n : Nat) (xs : List α), n < xs.length → ∃ x r, takeAt n xs = some (x, r)
  | _, [], h => by simp at h
  | 0, y :: ys, _ => ⟨y, ys, rfl⟩
  | n + 1, y :: ys, h => by
    obtain ⟨x, r, e⟩ := takeAt_exists n ys (by simpa using h)
    exact ⟨x, y :: r, by simp [takeAt, e]⟩

/-- The first item of a free order is one of the items. -/
theorem freeOrder_head {α : Type} (fuel k : Nat) (xs : List α) (h : xs ≠ []) :
    ∃ x r, freeOrder fuel k xs = x :: r ∧ x ∈ xs := by
  cases fuel with
  | zero =>
    cases xs with
    | nil => exact absurd rfl h
    | cons x r => exact ⟨x, r, rfl, by simp⟩
  | succ n =>
    obtain ⟨x, r, e⟩ := takeAt_exists (k % xs.length) xs (Nat.mod_lt _ (List.length_pos_iff.mpr h))
    exact ⟨x, _, by simp only [freeOrder, e]; rfl, takeAt_mem _ _ _ _ e⟩

/-! ## Beginning a frame -/

@[simp] theorem beginReply_queue (s : State) : (beginReply s).processor.queue = s.processor.queue := by
  unfold beginReply
  split <;> rfl

@[simp] theorem beginNotice_queue (n : NoticeSource) (s : State) :
    (beginNotice n s).processor.queue = s.processor.queue := rfl

theorem beginReply_freeCount (s : State) (k : Nat) :
    beginReply { s with freeCount := k } = { beginReply s with freeCount := k } := by
  unfold beginReply
  cases h : s.processor.replies <;> rfl

/-! ## Offers -/

theorem Offered.isEmpty_iff (o : Offered) : o.isEmpty = true ↔ o.reply = false ∧ o.notices = [] := by
  simp [Offered.isEmpty]

theorem available_empty (s : State) : s.available.isEmpty = true ↔ s.processor.replies = [] ∧ s.eligible = [] := by
  simp [Offered.isEmpty_iff, State.available]

/-- A candidate is available. -/
theorem candidates_available (s : State) :
    (s.candidates.reply = true → s.processor.replies ≠ []) ∧ ∀ n ∈ s.candidates.notices, n ∈ s.eligible := by
  unfold State.candidates State.stillAvailable State.available
  split
  · simp
  · split
    · simp
    · simp

/-- Where something is available there is a candidate. -/
theorem candidates_empty (s : State) : s.candidates.isEmpty = true ↔ s.processor.replies = [] ∧ s.eligible = [] := by
  rw [← available_empty]
  unfold State.candidates
  split
  · rfl
  · next o _ =>
    split
    · rfl
    · next h =>
      refine ⟨fun k => absurd k h, fun k => absurd ?_ h⟩
      rw [Offered.isEmpty_iff] at k ⊢
      have he : s.eligible = [] := k.2
      simp [State.stillAvailable, k.1, he]

@[simp] theorem moment_eligible (s : State) : (moment s).eligible = s.eligible := by
  unfold moment
  split <;> rfl

/-- A moment at which the first offer has been made, or which makes it, leaves the candidates as they stand. -/
theorem moment_candidates (s : State) : (moment s).candidates = s.candidates := by
  unfold moment
  split
  · next h =>
    simp only [Bool.and_eq_true, Option.isNone_iff_eq_none, Bool.not_eq_true'] at h
    have e : (s.setNotices { s.notices with front := some s.available }).stillAvailable s.available = s.available := by
      have k : ∀ l : List NoticeSource, l.filter (fun n => l.contains n) = l := fun l => by simp
      exact congr (congrArg Offered.mk (Bool.and_self _)) (k s.eligible)
    simp only [State.candidates, h.1.2, State.setNotices_notices, e, h.2]
    simp
  · rfl

/-! ## The arbiter at the end of a step -/

/-- What begins one of the frames offered is the reply's beginning or a notice's. -/
theorem Offered.mem_begins (o : Offered) (f : State → State) (h : f ∈ o.begins) :
    (f = beginReply ∧ o.reply = true) ∨ ∃ n ∈ o.notices, f = beginNotice n := by
  unfold Offered.begins at h
  rcases List.mem_append.mp h with h | h
  · split at h
    · next hr => exact .inl ⟨by simpa using h, hr⟩
    · simp at h
  · obtain ⟨n, hn, rfl⟩ := List.mem_map.mp h
    exact .inr ⟨n, hn, rfl⟩

/-- An offer leaves the state, or begins one of the candidates (R192). -/
theorem offer_settled (s : State) (o : Offered) (hr : o.reply = true → s.candidates.reply = true)
    (hn : ∀ n ∈ o.notices, n ∈ s.candidates.notices) (he : o.isEmpty = true → s.candidates.isEmpty = true) :
    Settled s (offer o s) := by
  unfold offer
  by_cases ht : s.notices.transmitter.isSome = true
  · simp only [ht, if_true]
    exact .busy ht
  · simp only [ht]
    have ht' : s.notices.transmitter = none := by simpa using ht
    have key : ∀ f ∈ o.begins, ∀ k, Settled s (f { s with freeCount := k }) := by
      intro f hm k
      rcases o.mem_begins f hm with ⟨rfl, h⟩ | ⟨n, h, rfl⟩
      · rw [beginReply_freeCount]
        exact .reply k ht' (hr h)
      · exact .notice k n ht' (hn n h)
    unfold State.ordered
    cases hfr : o.begins with
    | nil =>
      have h0 : o.isEmpty = true := by
        unfold Offered.begins at hfr
        obtain ⟨h1, h2⟩ := List.append_eq_nil_iff.mp hfr
        rw [Offered.isEmpty_iff]
        exact ⟨by simpa using h1, by simpa using h2⟩
      obtain ⟨h1, h2⟩ := (candidates_empty s).mp (he h0)
      simp
      exact .nothing h1 h2
    | cons f r =>
      by_cases h2 : 2 ≤ (f :: r).length
      · simp only [h2, decide_true, if_true]
        obtain ⟨x, rr, e, hx⟩ := freeOrder_head (f :: r).length s.draw.1 (f :: r) (by simp)
        simp only [e, Bool.false_eq_true, if_false]
        exact key x (hfr ▸ hx) _
      · simp only [h2, decide_false, Bool.false_eq_true, if_false]
        exact key f (by simp [hfr]) s.freeCount

/-- An offer of the candidates. -/
theorem offer_candidates (s : State) : Settled s (offer s.candidates s) :=
  offer_settled s s.candidates id (fun _ h => h) id

theorem Settled.queue {u t : State} (h : Settled u t) : t.processor.queue = u.processor.queue := by
  cases h <;> simp

theorem takeAll_empty (s : State) (h : s.processor.queue = []) : takeAll s = s := by
  simp [takeAll, h, takeLoop]

theorem takeAll_blocked (s : State) (h : s.canTake = false) : takeAll s = s := by
  unfold takeAll
  cases s.processor.queue.length <;> simp [takeLoop, h]

/-- Where no directive waits, a step ends settled. -/
theorem settle_settled (s : State) (h : s.processor.queue = []) : Settled s (settle s) := by
  have ho := offer_candidates s
  unfold settle
  rw [takeAll_empty _ (by rw [ho.queue, h])]
  exact ho

/-- An offer changes nothing while the M transmitter is busy or nothing is available to it. -/
theorem offer_rest (s : State) (h : AtRest s) : offer s.candidates s = s := by
  rcases h with h | h
  · simp [offer, h]
  · obtain ⟨h1, h2⟩ := (Offered.isEmpty_iff _).mp ((candidates_empty s).mpr h)
    simp only [offer, Offered.begins, h1, h2, State.ordered]
    cases s.notices.transmitter <;> simp

/-- R189: the best of the eligible sources is one of them. -/
theorem bestNotice_mem (s : State) : ∀ (l : List NoticeSource) (n : NoticeSource), s.bestNotice l = some n → n ∈ l
  | [], n, h => by simp [State.bestNotice] at h
  | m :: rest, n, h => by
    unfold State.bestNotice at h
    split at h
    · simp at h
      simp [h]
    · next k hk =>
      have := bestNotice_mem s rest k hk
      split at h <;> simp at h <;> subst h <;> simp [this]

theorem bestNotice_isSome (s : State) (l : List NoticeSource) (h : l ≠ []) : ∃ n, s.bestNotice l = some n := by
  cases l with
  | nil => exact absurd rfl h
  | cons m rest =>
    unfold State.bestNotice
    cases s.bestNotice rest with
    | none => exact ⟨m, rfl⟩
    | some k =>
      by_cases hk : (s.notices.records.get m).level < (s.notices.records.get k).level
      · exact ⟨k, by simp [hk]⟩
      · exact ⟨m, by simp [hk]⟩

/-- After a directive's answer the arbiter is offered candidates, and some if there are any. -/
theorem offeredAfter_candidates (s : State) (r : Request) :
    ((s.offeredAfter r).reply = s.candidates.reply) ∧
    (∀ n ∈ (s.offeredAfter r).notices, n ∈ s.candidates.notices) ∧
    ((s.offeredAfter r).isEmpty = true → s.candidates.isEmpty = true) := by
  unfold State.offeredAfter
  split
  · split
    · refine ⟨rfl, fun n hn => ?_, fun h => ?_⟩
      · simp only [Option.mem_toList] at hn
        exact bestNotice_mem s _ n hn
      · rw [Offered.isEmpty_iff] at h ⊢
        refine ⟨h.1, ?_⟩
        by_contra hne
        obtain ⟨n, hn⟩ := bestNotice_isSome s _ hne
        simp [hn] at h
    · exact ⟨rfl, fun _ h => h, fun h => h⟩
  · exact ⟨rfl, fun _ h => h, fun h => h⟩

/-! ## A directive taken at once -/

/-- While RSTN is high a command acts. -/
theorem whileReleased_high {s : State} (h : s.rstn = true) (f : State → State) : whileReleased s f = .next (f s) := by
  simp [whileReleased, h]

/-- R170: an empty directive queue admits the directive of this unit. -/
theorem admit_taken (s : State) (tag kind : Byte) (r : Request) (h : Ready s) :
    admission s.unitByte ⟨tag, kind, r⟩ s.received =
      s.received.setProcessor { s.processor with queue := [⟨tag, kind, r⟩] } := by
  have hq := h.queue
  simp [admission, State.unitByte, State.received, State.countM, hq, Config.directiveQueueLimit]

theorem received_eligible (s : State) : s.received.eligible = s.eligible := rfl

theorem Ready.canTake {s : State} (h : Ready s) (d : Directive) :
    (s.received.setProcessor { s.processor with queue := [d] }).canTake = true := by
  have hp := h.place
  have : s.usedPlaces < Config.replyListLimit := hp
  simp [State.canTake, h.pacing, h.wait, State.hasFreePlace, State.usedPlaces, State.reservedSlot, State.received,
    State.countM] at *
  exact this

/-- A directive frame that arrives while a directive would be taken at once is taken: its action runs, and its answer is
appended and offered to the arbiter. -/
theorem directive_taken (s : State) (tag kind : Byte) (length : Nat) (r : Request) (h : Ready s)
    (hl : length ≤ Config.frameLimit) :
    directiveArrives s.unitByte tag kind length r s =
      (match act ⟨tag, kind, r⟩ s.taken with
        | (u, none) => takeLoop 0 u
        | (u, some (code, data)) => takeLoop 0 (replyTo ⟨tag, kind, r⟩ code data u)) := by
  have hd : receiveM length (admission s.unitByte ⟨tag, kind, r⟩) s =
      s.received.setProcessor { s.processor with queue := [⟨tag, kind, r⟩] } := by
    unfold receiveM
    rw [if_neg (by omega)]
    exact admit_taken s tag kind r h
  unfold directiveArrives settle
  rw [hd]
  have hr : AtRest (s.received.setProcessor { s.processor with queue := [⟨tag, kind, r⟩] }) := by
    rcases h.rest with h1 | ⟨h1, h2⟩
    · exact .inl h1
    · exact .inr ⟨h1, h2⟩
  rw [offer_rest _ hr]
  unfold takeAll
  simp only [State.setProcessor_processor, List.length_cons, List.length_nil, Nat.zero_add, takeLoop,
    h.canTake, if_true]
  have ht : (s.received.setProcessor { s.processor with queue := [⟨tag, kind, r⟩] }).setProcessor
      { s.processor with
        queue := []
        counters := { s.processor.counters with taken := bump s.processor.counters.taken } } = s.taken := by
    have hq := h.queue
    simp [State.taken, State.received, State.countM]
    rw [← hq]
  unfold takeHead
  simp only [State.setProcessor_processor]
  rw [ht]
  rcases act ⟨tag, kind, r⟩ s.taken with ⟨u, _ | ⟨code, data⟩⟩ <;> rfl

/-- What answering a directive does: its reply is appended, and one of the frames offered begins. -/
theorem replyTo_settled (d : Directive) (code : ResultCode) (data : ReplyData) (u : State) :
    Settled (if d.request.answeredAfter then u.answered d.tag d.kind code data else u.replied d.tag d.kind code data)
      (replyTo d code data u) := by
  unfold replyTo
  have e : (u.setProcessor { u.processor with pacing := some u.processor.replies.length }).appendReply d.tag d.kind code
      data = u.answered d.tag d.kind code data := rfl
  simp only [e]
  split <;>
  · obtain ⟨h1, h2, h3⟩ := offeredAfter_candidates _ d.request
    exact offer_settled _ _ (fun h => h1 ▸ h) h2 h3

/-- Only a RESET is answered after it has acted (R184). -/
theorem decodeRequest_answeredAfter (kind : Byte) (ops : List Byte) (h : kind ≠ 25) :
    (decodeRequest kind ops).answeredAfter = false := by
  have hn : kind.toNat ≠ 25 := fun e => h (BitVec.eq_of_toNat_eq e)
  unfold decodeRequest
  split
  all_goals first
    | rfl
    | contradiction
    | (simp only [noOperands, oneOperand, twoOperands, threeOperands, fourOperands, fiveOperands, sevenOperands]
       split <;> rfl)
    | (unfold tableWriteOperands
       split <;> first | rfl | (simp only [tableWriteRequest]; split <;> rfl))

/-- A directive answered at once. -/
theorem directive_settled (s : State) (tag kind : Byte) (length : Nat) (r : Request) (u : State) (code : ResultCode)
    (data : ReplyData) (h : Ready s) (hl : length ≤ Config.frameLimit)
    (ha : act ⟨tag, kind, r⟩ s.taken = (u, some (code, data))) (hr : r.answeredAfter = false) :
    Settled (u.replied tag kind code data) (directiveArrives s.unitByte tag kind length r s) := by
  rw [directive_taken s tag kind length r h hl, ha]
  simpa [takeLoop, hr] using replyTo_settled ⟨tag, kind, r⟩ code data u

/-- A directive answered after it has acted (R184). -/
theorem directive_settled_after (s : State) (tag kind : Byte) (length : Nat) (r : Request) (u : State)
    (code : ResultCode) (data : ReplyData) (h : Ready s) (hl : length ≤ Config.frameLimit)
    (ha : act ⟨tag, kind, r⟩ s.taken = (u, some (code, data))) (hr : r.answeredAfter = true) :
    Settled (u.answered tag kind code data) (directiveArrives s.unitByte tag kind length r s) := by
  rw [directive_taken s tag kind length r h hl, ha]
  simpa [takeLoop, hr] using replyTo_settled ⟨tag, kind, r⟩ code data u

/-- A directive whose answer is deferred. -/
theorem directive_deferred (s : State) (tag kind : Byte) (length : Nat) (r : Request) (u : State) (h : Ready s)
    (hl : length ≤ Config.frameLimit) (ha : act ⟨tag, kind, r⟩ s.taken = (u, none)) :
    directiveArrives s.unitByte tag kind length r s = u := by
  rw [directive_taken s tag kind length r h hl, ha]
  rfl

end Sys2Proof.Machine
end

