-- ==== Sys2Proof/Laws/Control.lean ====
section
/-! SUPPORT. What an evaluation of the base conditions can change, and what it leaves. -/

namespace Sys2Proof.Machine

/-- The parts of the state that release, trips, orders and the order queue never touch. -/
structure Outside (s t : State) : Prop where
  pending : t.pending = s.pending
  freeCount : t.freeCount = s.freeCount
  rstn : t.rstn = s.rstn
  straps : t.straps = s.straps
  params : t.params = s.params
  ports : t.ports = s.ports
  asm : t.asm = s.asm
  trackers : t.trackers = s.trackers
  banks : t.banks = s.banks
  capture : t.capture = s.capture

theorem Outside.refl (s : State) : Outside s s := ⟨rfl, rfl, rfl, rfl, rfl, rfl, rfl, rfl, rfl, rfl⟩

theorem Outside.trans {s t u : State} (h : Outside s t) (k : Outside t u) : Outside s u :=
  ⟨k.pending.trans h.pending, k.freeCount.trans h.freeCount, k.rstn.trans h.rstn, k.straps.trans h.straps,
    k.params.trans h.params, k.ports.trans h.ports, k.asm.trans h.asm, k.trackers.trans h.trackers,
    k.banks.trans h.banks, k.capture.trans h.capture⟩

/-! ## Notices -/

@[simp] theorem raise_params (n : NoticeSource) (s : State) : (raise n s).params = s.params := rfl
@[simp] theorem raise_asm (n : NoticeSource) (s : State) : (raise n s).asm = s.asm := rfl
@[simp] theorem raise_trackers (n : NoticeSource) (s : State) : (raise n s).trackers = s.trackers := rfl
@[simp] theorem raise_demand (n : NoticeSource) (s : State) : (raise n s).demand = s.demand := rfl
@[simp] theorem raise_tables (n : NoticeSource) (s : State) : (raise n s).tables = s.tables := rfl
@[simp] theorem raise_exchange (n : NoticeSource) (s : State) : (raise n s).exchange = s.exchange := rfl
@[simp] theorem raise_banks (n : NoticeSource) (s : State) : (raise n s).banks = s.banks := rfl
@[simp] theorem raise_control (n : NoticeSource) (s : State) : (raise n s).control = s.control := rfl
@[simp] theorem raise_capture (n : NoticeSource) (s : State) : (raise n s).capture = s.capture := rfl
@[simp] theorem raise_processor (n : NoticeSource) (s : State) : (raise n s).processor = s.processor := rfl
@[simp] theorem raise_ports (n : NoticeSource) (s : State) : (raise n s).ports = s.ports := rfl
@[simp] theorem raise_straps (n : NoticeSource) (s : State) : (raise n s).straps = s.straps := rfl
@[simp] theorem raise_rstn (n : NoticeSource) (s : State) : (raise n s).rstn = s.rstn := rfl
@[simp] theorem raise_transmitter (n : NoticeSource) (s : State) :
    (raise n s).notices.transmitter = s.notices.transmitter := rfl

/-- R188: a raised notice sets its own source's status and leaves the rest of every record. -/
theorem raise_record (n m : NoticeSource) (s : State) :
    (raise n s).notices.records.get m =
      if m = n then { s.notices.records.get n with status := true } else s.notices.records.get m := by
  simp [raise]

theorem raise_status (n m : NoticeSource) (s : State) :
    ((raise n s).notices.records.get m).status = (decide (m = n) || (s.notices.records.get m).status) := by
  rw [raise_record]
  by_cases h : m = n <;> simp [h]

theorem raise_outside (n : NoticeSource) (s : State) : Outside s (raise n s) :=
  ⟨rfl, rfl, rfl, rfl, rfl, rfl, rfl, rfl, rfl, rfl⟩

/-! ## Moments (R192; log 13) -/

/-- A moment sets nothing but the first offer. -/
theorem moment_eq (s : State) : ∃ x, moment s = s.setNotices { s.notices with front := x } := by
  unfold moment
  split
  · exact ⟨_, rfl⟩
  · exact ⟨s.notices.front, rfl⟩

/-- Nor does a moment after some raises. -/
theorem momentAfter_eq (l : List NoticeSource) (s : State) :
    ∃ x, momentAfter l s = s.setNotices { s.notices with front := x } := by
  unfold momentAfter
  split
  · exact moment_eq s
  · exact ⟨s.notices.front, rfl⟩

/-- Nor does a moment after a change of the release state. -/
theorem momentAfterRelease_eq (s : State) :
    ∃ x, momentAfterRelease s = s.setNotices { s.notices with front := x } := by
  unfold momentAfterRelease
  split
  · exact moment_eq s
  · exact ⟨s.notices.front, rfl⟩

@[simp] theorem moment_pending (s : State) : (moment s).pending = s.pending := by
  obtain ⟨x, e⟩ := moment_eq s
  rw [e]
  rfl

@[simp] theorem momentAfter_pending (l : List NoticeSource) (s : State) : (momentAfter l s).pending = s.pending := by
  obtain ⟨x, e⟩ := momentAfter_eq l s
  rw [e]
  rfl

@[simp] theorem momentAfterRelease_pending (s : State) : (momentAfterRelease s).pending = s.pending := by
  obtain ⟨x, e⟩ := momentAfterRelease_eq s
  rw [e]
  rfl

@[simp] theorem moment_freeCount (s : State) : (moment s).freeCount = s.freeCount := by
  obtain ⟨x, e⟩ := moment_eq s
  rw [e]
  rfl

@[simp] theorem momentAfter_freeCount (l : List NoticeSource) (s : State) : (momentAfter l s).freeCount = s.freeCount := by
  obtain ⟨x, e⟩ := momentAfter_eq l s
  rw [e]
  rfl

@[simp] theorem momentAfterRelease_freeCount (s : State) : (momentAfterRelease s).freeCount = s.freeCount := by
  obtain ⟨x, e⟩ := momentAfterRelease_eq s
  rw [e]
  rfl

@[simp] theorem moment_rstn (s : State) : (moment s).rstn = s.rstn := by
  obtain ⟨x, e⟩ := moment_eq s
  rw [e]
  rfl

@[simp] theorem momentAfter_rstn (l : List NoticeSource) (s : State) : (momentAfter l s).rstn = s.rstn := by
  obtain ⟨x, e⟩ := momentAfter_eq l s
  rw [e]
  rfl

@[simp] theorem momentAfterRelease_rstn (s : State) : (momentAfterRelease s).rstn = s.rstn := by
  obtain ⟨x, e⟩ := momentAfterRelease_eq s
  rw [e]
  rfl

@[simp] theorem moment_straps (s : State) : (moment s).straps = s.straps := by
  obtain ⟨x, e⟩ := moment_eq s
  rw [e]
  rfl

@[simp] theorem momentAfter_straps (l : List NoticeSource) (s : State) : (momentAfter l s).straps = s.straps := by
  obtain ⟨x, e⟩ := momentAfter_eq l s
  rw [e]
  rfl

@[simp] theorem momentAfterRelease_straps (s : State) : (momentAfterRelease s).straps = s.straps := by
  obtain ⟨x, e⟩ := momentAfterRelease_eq s
  rw [e]
  rfl

@[simp] theorem moment_params (s : State) : (moment s).params = s.params := by
  obtain ⟨x, e⟩ := moment_eq s
  rw [e]
  rfl

@[simp] theorem momentAfter_params (l : List NoticeSource) (s : State) : (momentAfter l s).params = s.params := by
  obtain ⟨x, e⟩ := momentAfter_eq l s
  rw [e]
  rfl

@[simp] theorem momentAfterRelease_params (s : State) : (momentAfterRelease s).params = s.params := by
  obtain ⟨x, e⟩ := momentAfterRelease_eq s
  rw [e]
  rfl

@[simp] theorem moment_ports (s : State) : (moment s).ports = s.ports := by
  obtain ⟨x, e⟩ := moment_eq s
  rw [e]
  rfl

@[simp] theorem momentAfter_ports (l : List NoticeSource) (s : State) : (momentAfter l s).ports = s.ports := by
  obtain ⟨x, e⟩ := momentAfter_eq l s
  rw [e]
  rfl

@[simp] theorem momentAfterRelease_ports (s : State) : (momentAfterRelease s).ports = s.ports := by
  obtain ⟨x, e⟩ := momentAfterRelease_eq s
  rw [e]
  rfl

@[simp] theorem moment_asm (s : State) : (moment s).asm = s.asm := by
  obtain ⟨x, e⟩ := moment_eq s
  rw [e]
  rfl

@[simp] theorem momentAfter_asm (l : List NoticeSource) (s : State) : (momentAfter l s).asm = s.asm := by
  obtain ⟨x, e⟩ := momentAfter_eq l s
  rw [e]
  rfl

@[simp] theorem momentAfterRelease_asm (s : State) : (momentAfterRelease s).asm = s.asm := by
  obtain ⟨x, e⟩ := momentAfterRelease_eq s
  rw [e]
  rfl

@[simp] theorem moment_trackers (s : State) : (moment s).trackers = s.trackers := by
  obtain ⟨x, e⟩ := moment_eq s
  rw [e]
  rfl

@[simp] theorem momentAfter_trackers (l : List NoticeSource) (s : State) : (momentAfter l s).trackers = s.trackers := by
  obtain ⟨x, e⟩ := momentAfter_eq l s
  rw [e]
  rfl

@[simp] theorem momentAfterRelease_trackers (s : State) : (momentAfterRelease s).trackers = s.trackers := by
  obtain ⟨x, e⟩ := momentAfterRelease_eq s
  rw [e]
  rfl

@[simp] theorem moment_demand (s : State) : (moment s).demand = s.demand := by
  obtain ⟨x, e⟩ := moment_eq s
  rw [e]
  rfl

@[simp] theorem momentAfter_demand (l : List NoticeSource) (s : State) : (momentAfter l s).demand = s.demand := by
  obtain ⟨x, e⟩ := momentAfter_eq l s
  rw [e]
  rfl

@[simp] theorem momentAfterRelease_demand (s : State) : (momentAfterRelease s).demand = s.demand := by
  obtain ⟨x, e⟩ := momentAfterRelease_eq s
  rw [e]
  rfl

@[simp] theorem moment_tables (s : State) : (moment s).tables = s.tables := by
  obtain ⟨x, e⟩ := moment_eq s
  rw [e]
  rfl

@[simp] theorem momentAfter_tables (l : List NoticeSource) (s : State) : (momentAfter l s).tables = s.tables := by
  obtain ⟨x, e⟩ := momentAfter_eq l s
  rw [e]
  rfl

@[simp] theorem momentAfterRelease_tables (s : State) : (momentAfterRelease s).tables = s.tables := by
  obtain ⟨x, e⟩ := momentAfterRelease_eq s
  rw [e]
  rfl

@[simp] theorem moment_exchange (s : State) : (moment s).exchange = s.exchange := by
  obtain ⟨x, e⟩ := moment_eq s
  rw [e]
  rfl

@[simp] theorem momentAfter_exchange (l : List NoticeSource) (s : State) : (momentAfter l s).exchange = s.exchange := by
  obtain ⟨x, e⟩ := momentAfter_eq l s
  rw [e]
  rfl

@[simp] theorem momentAfterRelease_exchange (s : State) : (momentAfterRelease s).exchange = s.exchange := by
  obtain ⟨x, e⟩ := momentAfterRelease_eq s
  rw [e]
  rfl

@[simp] theorem moment_banks (s : State) : (moment s).banks = s.banks := by
  obtain ⟨x, e⟩ := moment_eq s
  rw [e]
  rfl

@[simp] theorem momentAfter_banks (l : List NoticeSource) (s : State) : (momentAfter l s).banks = s.banks := by
  obtain ⟨x, e⟩ := momentAfter_eq l s
  rw [e]
  rfl

@[simp] theorem momentAfterRelease_banks (s : State) : (momentAfterRelease s).banks = s.banks := by
  obtain ⟨x, e⟩ := momentAfterRelease_eq s
  rw [e]
  rfl

@[simp] theorem moment_control (s : State) : (moment s).control = s.control := by
  obtain ⟨x, e⟩ := moment_eq s
  rw [e]
  rfl

@[simp] theorem momentAfter_control (l : List NoticeSource) (s : State) : (momentAfter l s).control = s.control := by
  obtain ⟨x, e⟩ := momentAfter_eq l s
  rw [e]
  rfl

@[simp] theorem momentAfterRelease_control (s : State) : (momentAfterRelease s).control = s.control := by
  obtain ⟨x, e⟩ := momentAfterRelease_eq s
  rw [e]
  rfl

@[simp] theorem moment_capture (s : State) : (moment s).capture = s.capture := by
  obtain ⟨x, e⟩ := moment_eq s
  rw [e]
  rfl

@[simp] theorem momentAfter_capture (l : List NoticeSource) (s : State) : (momentAfter l s).capture = s.capture := by
  obtain ⟨x, e⟩ := momentAfter_eq l s
  rw [e]
  rfl

@[simp] theorem momentAfterRelease_capture (s : State) : (momentAfterRelease s).capture = s.capture := by
  obtain ⟨x, e⟩ := momentAfterRelease_eq s
  rw [e]
  rfl

@[simp] theorem moment_processor (s : State) : (moment s).processor = s.processor := by
  obtain ⟨x, e⟩ := moment_eq s
  rw [e]
  rfl

@[simp] theorem momentAfter_processor (l : List NoticeSource) (s : State) : (momentAfter l s).processor = s.processor := by
  obtain ⟨x, e⟩ := momentAfter_eq l s
  rw [e]
  rfl

@[simp] theorem momentAfterRelease_processor (s : State) : (momentAfterRelease s).processor = s.processor := by
  obtain ⟨x, e⟩ := momentAfterRelease_eq s
  rw [e]
  rfl

@[simp] theorem moment_records (s : State) : (moment s).notices.records = s.notices.records := by
  obtain ⟨x, e⟩ := moment_eq s
  rw [e]
  rfl

@[simp] theorem momentAfter_records (l : List NoticeSource) (s : State) : (momentAfter l s).notices.records = s.notices.records := by
  obtain ⟨x, e⟩ := momentAfter_eq l s
  rw [e]
  rfl

@[simp] theorem momentAfterRelease_records (s : State) : (momentAfterRelease s).notices.records = s.notices.records := by
  obtain ⟨x, e⟩ := momentAfterRelease_eq s
  rw [e]
  rfl

@[simp] theorem moment_transmitter (s : State) : (moment s).notices.transmitter = s.notices.transmitter := by
  obtain ⟨x, e⟩ := moment_eq s
  rw [e]
  rfl

@[simp] theorem momentAfter_transmitter (l : List NoticeSource) (s : State) : (momentAfter l s).notices.transmitter = s.notices.transmitter := by
  obtain ⟨x, e⟩ := momentAfter_eq l s
  rw [e]
  rfl

@[simp] theorem momentAfterRelease_transmitter (s : State) : (momentAfterRelease s).notices.transmitter = s.notices.transmitter := by
  obtain ⟨x, e⟩ := momentAfterRelease_eq s
  rw [e]
  rfl

theorem moment_outside (s : State) : Outside s (moment s) := by
  constructor <;> simp

theorem momentAfterRelease_outside (s : State) : Outside s (momentAfterRelease s) := by
  constructor <;> simp

theorem momentAfter_outside (l : List NoticeSource) (s : State) : Outside s (momentAfter l s) := by
  constructor <;> simp

/-! ## Release -/

/-- What an evaluation of the base conditions, and all it brings about, may change (R146, R149, R150): the release state
and its count, the control counters, carries and clamp counters, the angles of queued orders, the pending commit with its
reply, and the RELEASE notice. -/
structure ReleaseOnly (s t : State) : Prop where
  outside : Outside s t
  control : t.control = { s.control with
    release := t.control.release, qualifyCount := t.control.qualifyCount, counters := t.control.counters }
  demand : ∀ b, t.demand.get b = { s.demand.get b with
    carry := (t.demand.get b).carry, clamp := (t.demand.get b).clamp }
  branches : t.exchange.branches = s.exchange.branches
  transmitter : t.exchange.transmitter = s.exchange.transmitter
  queue : t.exchange.queue = s.exchange.queue ∨ t.exchange.queue = s.exchange.queue.map VFrame.blocked
  processor : t.processor = { s.processor with replies := t.processor.replies }
  records : ∀ n, n ≠ .release → t.notices.records.get n = s.notices.records.get n
  record : t.notices.records.get .release = { s.notices.records.get .release with
    status := (t.notices.records.get .release).status }
  arbiter : t.notices.transmitter = s.notices.transmitter

theorem ReleaseOnly.refl (s : State) : ReleaseOnly s s :=
  ⟨Outside.refl s, rfl, fun _ => rfl, rfl, rfl, .inl rfl, rfl, fun _ _ => rfl, rfl, rfl⟩

theorem completeCommit_outside (c : Completion) (f : TableCounters → TableCounters) (s : State) :
    Outside s (completeCommit c f s) := by
  unfold completeCommit
  split <;> exact ⟨rfl, rfl, rfl, rfl, rfl, rfl, rfl, rfl, rfl, rfl⟩

@[simp] theorem completeCommit_control (c : Completion) (f : TableCounters → TableCounters) (s : State) :
    (completeCommit c f s).control = s.control := by
  unfold completeCommit
  split <;> rfl

@[simp] theorem completeCommit_demand (c : Completion) (f : TableCounters → TableCounters) (s : State) :
    (completeCommit c f s).demand = s.demand := by
  unfold completeCommit
  split <;> rfl

@[simp] theorem completeCommit_exchange (c : Completion) (f : TableCounters → TableCounters) (s : State) :
    (completeCommit c f s).exchange = s.exchange := by
  unfold completeCommit
  split <;> rfl

@[simp] theorem completeCommit_notices (c : Completion) (f : TableCounters → TableCounters) (s : State) :
    (completeCommit c f s).notices = s.notices := by
  unfold completeCommit
  split <;> rfl

theorem completeCommit_processor (c : Completion) (f : TableCounters → TableCounters) (s : State) :
    (completeCommit c f s).processor = { s.processor with replies := (completeCommit c f s).processor.replies } := by
  unfold completeCommit
  split <;> rfl

@[simp] theorem completeCommit_commit (c : Completion) (f : TableCounters → TableCounters) (s : State) :
    (completeCommit c f s).tables.commit = none := by
  unfold completeCommit
  split
  · next h => exact h
  · rfl

/-- A completed commit turns the reserved place into a reply's place (R83). -/
theorem completeCommit_usedPlaces (c : Completion) (f : TableCounters → TableCounters) (s : State) :
    (completeCommit c f s).usedPlaces = s.usedPlaces := by
  unfold completeCommit
  split
  · rfl
  · next tag h => simp [State.usedPlaces, State.reservedSlot, State.appendReply, h]

theorem countControl_outside (f : ControlCounters → ControlCounters) (s : State) : Outside s (s.countControl f) :=
  ⟨rfl, rfl, rfl, rfl, rfl, rfl, rfl, rfl, rfl, rfl⟩

theorem setControl_outside (c : Controller) (s : State) : Outside s (s.setControl c) :=
  ⟨rfl, rfl, rfl, rfl, rfl, rfl, rfl, rfl, rfl, rfl⟩

theorem zeroCarries_outside (s : State) : Outside s (zeroCarries s) :=
  ⟨rfl, rfl, rfl, rfl, rfl, rfl, rfl, rfl, rfl, rfl⟩

theorem zeroClamps_outside (s : State) : Outside s (zeroClamps s) :=
  ⟨rfl, rfl, rfl, rfl, rfl, rfl, rfl, rfl, rfl, rfl⟩

theorem rewriteQueue_outside (s : State) : Outside s (rewriteQueue s) :=
  ⟨rfl, rfl, rfl, rfl, rfl, rfl, rfl, rfl, rfl, rfl⟩

/-- R150: what a departure from RELEASED, its release state already written, does. -/
theorem releaseDrop_only (s : State) : ReleaseOnly s (releaseDrop s) where
  outside := (((countControl_outside _ s).trans (zeroCarries_outside _)).trans ((zeroClamps_outside _).trans
    (rewriteQueue_outside _))).trans ((completeCommit_outside _ _ _).trans (raise_outside _ _))
  control := by simp [releaseDrop, commitReleaseDrop, rewriteQueue, zeroClamps, zeroCarries, State.countControl]
  demand b := by simp [releaseDrop, commitReleaseDrop, rewriteQueue, zeroClamps, zeroCarries, State.countControl]
  branches := by simp [releaseDrop, commitReleaseDrop, rewriteQueue, zeroClamps, zeroCarries, State.countControl]
  transmitter := by simp [releaseDrop, commitReleaseDrop, rewriteQueue, zeroClamps, zeroCarries, State.countControl]
  queue := by simp [releaseDrop, commitReleaseDrop, rewriteQueue, zeroClamps, zeroCarries, State.countControl]
  processor := completeCommit_processor _ _ _
  records n h := by
    simp [releaseDrop, commitReleaseDrop, rewriteQueue, zeroClamps, zeroCarries, State.countControl, raise, h]
  record := by simp [releaseDrop, commitReleaseDrop, rewriteQueue, zeroClamps, zeroCarries, State.countControl, raise]
  arbiter := by simp [releaseDrop, commitReleaseDrop, rewriteQueue, zeroClamps, zeroCarries, State.countControl]

@[simp] theorem releaseDrop_release (s : State) : (releaseDrop s).control.release = s.control.release := by
  simp [releaseDrop, commitReleaseDrop, rewriteQueue, zeroClamps, zeroCarries, State.countControl]

@[simp] theorem releaseDrop_queue (s : State) :
    (releaseDrop s).exchange.queue = s.exchange.queue.map VFrame.blocked := by
  simp [releaseDrop, commitReleaseDrop, rewriteQueue, zeroClamps, zeroCarries, State.countControl]

@[simp] theorem releaseDrop_demand (s : State) (b : Branch) :
    (releaseDrop s).demand.get b = { s.demand.get b with carry := 0, clamp := 0 } := by
  simp [releaseDrop, commitReleaseDrop, rewriteQueue, zeroClamps, zeroCarries, State.countControl]

@[simp] theorem releaseDrop_commit (s : State) : (releaseDrop s).tables.commit = none := by
  simp [releaseDrop, commitReleaseDrop]

/-- A queued frame turned to BLOCK, if it is an order, carries the BLOCK angle. -/
theorem VFrame.order_of_blocked {l : List VFrame} {o : Order} (h : VFrame.order o ∈ l.map VFrame.blocked) :
    o.angle = Config.blockAngle := by
  obtain ⟨f, _, e⟩ := List.mem_map.mp h
  cases f with
  | order p =>
    simp [VFrame.blocked] at e
    rw [← e]
  | bank n a => simp [VFrame.blocked] at e

/-- R149: with a base condition failing the release state is HELD. -/
@[simp] theorem holdRelease_release (s : State) : (holdRelease s).control.release = .held := by
  unfold holdRelease
  split
  · assumption
  · rfl
  · rfl
  · simp

theorem holdRelease_only (s : State) : ReleaseOnly s (holdRelease s) := by
  unfold holdRelease
  split
  · exact ReleaseOnly.refl s
  · exact ⟨⟨rfl, rfl, rfl, rfl, rfl, rfl, rfl, rfl, rfl, rfl⟩, rfl, fun _ => rfl, rfl, rfl, .inl rfl, rfl, fun n h => by simp [raise, h, State.countControl],
      by simp [raise, State.countControl], rfl⟩
  · exact ⟨⟨rfl, rfl, rfl, rfl, rfl, rfl, rfl, rfl, rfl, rfl⟩, rfl, fun _ => rfl, rfl, rfl, .inl rfl, rfl, fun n h => by simp [raise, h],
      by simp [raise], rfl⟩
  · have h := releaseDrop_only (s.setControl { s.control with release := .held, qualifyCount := 0 })
    exact ⟨(setControl_outside _ s).trans h.outside, h.control, h.demand, h.branches, h.transmitter, h.queue, h.processor, h.records, h.record,
      h.arbiter⟩

theorem startQualifying_only (s : State) : ReleaseOnly s (startQualifying s) := by
  unfold startQualifying
  split
  · exact ⟨⟨rfl, rfl, rfl, rfl, rfl, rfl, rfl, rfl, rfl, rfl⟩, rfl, fun _ => rfl, rfl, rfl, .inl rfl, rfl, fun n h => by simp [raise, h],
      by simp [raise], rfl⟩
  · exact ReleaseOnly.refl s
  · exact ReleaseOnly.refl s
  · exact ReleaseOnly.refl s

theorem evalBase_only (s : State) : ReleaseOnly s (evalBase s) := by
  unfold evalBase
  split
  · exact startQualifying_only s
  · exact holdRelease_only s

/-- R149: an evaluation that finds a base condition failing leaves the release state HELD. -/
theorem evalBase_held (s : State) (h : s.baseConditions = false) : (evalBase s).control.release = .held := by
  simp [evalBase, h]

/-- An evaluation never enters RELEASED or AWAITING_READY. -/
theorem evalBase_release (s : State) : (evalBase s).control.release = s.control.release ∨
    (evalBase s).control.release = .held ∨ (evalBase s).control.release = .qualifying := by
  unfold evalBase
  split
  · unfold startQualifying
    split
    · exact .inr (.inr rfl)
    · exact .inl rfl
    · exact .inl rfl
    · exact .inl rfl
  · exact .inr (.inl (by simp))

theorem ReleaseOnly.mode {s t : State} (h : ReleaseOnly s t) : t.control.mode = s.control.mode := by rw [h.control]

theorem ReleaseOnly.trips {s t : State} (h : ReleaseOnly s t) : t.control.trips = s.control.trips := by rw [h.control]

theorem ReleaseOnly.length {s t : State} (h : ReleaseOnly s t) : t.exchange.queue.length = s.exchange.queue.length := by
  rcases h.queue with e | e <;> simp [e]

/-! ## Trips -/

theorem PerBranch.anyBranch_set_true (p : PerBranch Bool) (b : Branch) : (p.set b true).anyBranch = true := by
  cases b <;> simp [PerBranch.set, PerBranch.anyBranch]

/-- R142: a latched cause leaves a trip latched. -/
theorem TripRecord.latched_latch (t : TripRecord) (c : TripCause) : (t.latch c).latched = true := by
  cases c <;> simp [TripRecord.latch, TripRecord.latched, PerBranch.anyBranch_set_true]

/-- R142, R145, R149: a trip cause is latched and holds release. -/
theorem latchTrip_held (c : TripCause) (s : State) : (latchTrip c s).control.release = .held := by
  refine evalBase_held _ ?_
  simp [State.baseConditions, State.blockCause, TripRecord.latched_latch]

theorem latchTrip_trips (c : TripCause) (s : State) : (latchTrip c s).control.trips = s.control.trips.latch c := by
  unfold latchTrip
  rw [(evalBase_only _).trips]
  rfl

theorem latchTrip_outside (c : TripCause) (s : State) : Outside s (latchTrip c s) :=
  (setControl_outside _ s).trans ((raise_outside .trip _).trans (evalBase_only _).outside)

theorem latchTrip_branches (c : TripCause) (s : State) :
    (latchTrip c s).exchange.branches = s.exchange.branches := (evalBase_only _).branches

theorem latchTrip_transmitter (c : TripCause) (s : State) :
    (latchTrip c s).exchange.transmitter = s.exchange.transmitter := (evalBase_only _).transmitter

theorem latchTrip_length (c : TripCause) (s : State) :
    (latchTrip c s).exchange.queue.length = s.exchange.queue.length := (evalBase_only _).length

/-! ## Readiness and modes -/

theorem gainRelease_outside (s : State) : Outside s (gainRelease s) :=
  (setControl_outside _ s).trans ((countControl_outside _ _).trans (raise_outside _ _))

theorem handReady_outside (v : Bool) (s : State) : Outside s (handReady v s) := by
  unfold handReady
  split
  · exact (setControl_outside _ s).trans (gainRelease_outside _)
  · exact (setControl_outside _ s).trans ((setControl_outside _ _).trans (releaseDrop_only _).outside)
  · exact setControl_outside _ s

theorem checkReady_outside (before : Bool) (s : State) : Outside s (checkReady before s) := by
  unfold checkReady
  split
  · exact Outside.refl s
  · exact handReady_outside _ s

/-- R100: a change of valve ready while HELD is written, and nothing more. -/
theorem checkReady_held (before : Bool) (s : State) (h : s.control.release = .held) :
    checkReady before s =
      if s.allReady = before then s else s.setControl { s.control with valveReady := s.allReady } := by
  unfold checkReady handReady
  split
  · rfl
  · simp [h]

theorem changeMode_outside (m : Mode) (t : Option Target) (s : State) : Outside s (changeMode m t s) := by
  unfold changeMode
  split
  · exact setControl_outside _ s
  · exact (setControl_outside _ s).trans (raise_outside _ _)

/-- R131: what writing a mode does to the controller. -/
theorem changeMode_control (m : Mode) (t : Option Target) (s : State) :
    (changeMode m t s).control = { s.control with mode := m, wakingTarget := t, wakingCount := 0 } := by
  unfold changeMode
  split <;> rfl

@[simp] theorem changeMode_exchange (m : Mode) (t : Option Target) (s : State) :
    (changeMode m t s).exchange = s.exchange := by
  unfold changeMode
  split <;> rfl

@[simp] theorem changeMode_demand (m : Mode) (t : Option Target) (s : State) :
    (changeMode m t s).demand = s.demand := by
  unfold changeMode
  split <;> rfl

@[simp] theorem changeMode_tables (m : Mode) (t : Option Target) (s : State) :
    (changeMode m t s).tables = s.tables := by
  unfold changeMode
  split <;> rfl

@[simp] theorem changeMode_processor (m : Mode) (t : Option Target) (s : State) :
    (changeMode m t s).processor = s.processor := by
  unfold changeMode
  split <;> rfl

/-- R131: a change of mode raises MODE. -/
theorem changeMode_notice (m : Mode) (t : Option Target) (s : State) (h : s.control.mode ≠ m) :
    ((changeMode m t s).notices.records.get .mode).status = true := by
  unfold changeMode
  rw [if_neg h]
  simp [raise]

/-- Turning orders to BLOCK in place leaves the bank orders of a queue as they are. -/
theorem filter_isBank_blocked (l : List VFrame) :
    (l.map VFrame.blocked).filter VFrame.isBank = l.filter VFrame.isBank := by
  induction l with
  | nil => rfl
  | cons f rest ih =>
    cases f with
    | order o => simpa [VFrame.blocked, VFrame.isBank] using ih
    | bank n a => simpa [VFrame.blocked, VFrame.isBank, List.filter_cons] using ih

end Sys2Proof.Machine
end

