-- ==== Sys2Proof/Laws/Outer.lean ====
section
/-! SUPPORT. The parts of the state that crossing events, released sets, orders, reports and aux hand-overs never touch:
one rewrite rule per operation. -/

namespace Sys2Proof.Machine

/-- What the real-time blocks leave alone: the command queue, the reset line, the straps, the parameters, the port
counters, the assembler, the banks, the Directive Processor but for its reply list, and the M transmitter. -/
structure Outer where
  pending : List Instr
  rstn : Bool
  straps : Straps
  params : Params
  ports : Ports
  asm : Assembler
  banks : BankController
  queue : List Directive
  pacing : Option Nat
  resetWait : Bool
  ticks : BitVec 16
  counters : DirectiveCounters
  transmitter : Option MFrame

def State.outer (s : State) : Outer :=
  ⟨s.pending, s.rstn, s.straps, s.params, s.ports, s.asm, s.banks, s.processor.queue, s.processor.pacing,
    s.processor.resetWait, s.processor.ticks, s.processor.counters, s.notices.transmitter⟩

/-! ## Free orders -/

theorem takeAt_subset {α : Type} : ∀ (n : Nat) (xs : List α) (x : α) (r : List α), takeAt n xs = some (x, r) →
    x ∈ xs ∧ ∀ y ∈ r, y ∈ xs
  | _, [], _, _, h => by simp [takeAt] at h
  | 0, z :: zs, _, _, h => by
    simp [takeAt] at h
    obtain ⟨rfl, rfl⟩ := h
    exact ⟨by simp, fun y hy => by simp [hy]⟩
  | n + 1, z :: zs, _, _, h => by
    simp only [takeAt, Option.map_eq_some_iff] at h
    obtain ⟨p, hp, he⟩ := h
    have := takeAt_subset n zs p.1 p.2 hp
    cases he
    refine ⟨by simp [this.1], fun y hy => ?_⟩
    rcases List.mem_cons.mp hy with rfl | hy
    · simp
    · simp [this.2 y hy]

theorem freeOrder_subset {α : Type} : ∀ (fuel k : Nat) (xs : List α), ∀ y ∈ freeOrder fuel k xs, y ∈ xs
  | 0, _, _, _, h => h
  | n + 1, k, xs, y, h => by
    unfold freeOrder at h
    split at h
    · exact h
    · next x rest e =>
      have hs := takeAt_subset _ _ _ _ e
      rcases List.mem_cons.mp h with rfl | h
      · exact hs.1
      · exact hs.2 y (freeOrder_subset n _ rest y h)

theorem takeAt_perm {α : Type} : ∀ (n : Nat) (xs : List α) (x : α) (r : List α), takeAt n xs = some (x, r) →
    (x :: r).Perm xs
  | _, [], _, _, h => by simp [takeAt] at h
  | 0, z :: zs, _, _, h => by
    simp [takeAt] at h
    obtain ⟨rfl, rfl⟩ := h
    exact List.Perm.refl _
  | n + 1, z :: zs, _, _, h => by
    simp only [takeAt, Option.map_eq_some_iff] at h
    obtain ⟨p, hp, he⟩ := h
    have := takeAt_perm n zs p.1 p.2 hp
    cases he
    exact (List.Perm.swap z p.1 p.2).trans (this.cons z)

/-- A free order holds each item exactly once. -/
theorem freeOrder_perm {α : Type} : ∀ (fuel k : Nat) (xs : List α), (freeOrder fuel k xs).Perm xs
  | 0, _, xs => List.Perm.refl xs
  | n + 1, k, xs => by
    unfold freeOrder
    split
    · exact List.Perm.refl xs
    · next x rest e => exact ((freeOrder_perm n _ rest).cons x).trans (takeAt_perm _ _ _ _ e)

theorem ordered_perm {α : Type} (s : State) (contended : Bool) (xs : List α) : (s.ordered contended xs).1.Perm xs := by
  unfold State.ordered
  split
  · exact freeOrder_perm _ _ xs
  · exact List.Perm.refl xs

theorem foldl_keeps {P : State → Prop} : ∀ (fs : List (State → State)), (∀ f ∈ fs, ∀ t, P t → P (f t)) →
    ∀ s, P s → P (fs.foldl (fun t f => f t) s)
  | [], _, _, h => h
  | f :: rest, hf, s, h =>
    foldl_keeps rest (fun g hg => hf g (by simp [hg])) (f s) (hf f (by simp) s h)

/-- What every one of the actions keeps, and the count of free values does not touch, they keep in whatever order they
are taken. -/
theorem ordered_keeps {P : State → Prop} (s : State) (contended : Bool) (fs : List (State → State))
    (count : ∀ k, P { s with freeCount := k }) (h : ∀ f ∈ fs, ∀ t, P t → P (f t)) :
    P ((s.ordered contended fs).1.foldl (fun t f => f t) (s.ordered contended fs).2) := by
  unfold State.ordered
  split
  · exact foldl_keeps _ (fun f hf => h f (freeOrder_subset _ _ _ f hf)) _ (count _)
  · exact foldl_keeps _ h _ (count s.freeCount)

/-- The same, for a part of the state that each action leaves as it is. -/
theorem ordered_same {α : Type} (g : State → α) (s : State) (contended : Bool) (fs : List (State → State))
    (count : ∀ k, g { s with freeCount := k } = g s) (h : ∀ f ∈ fs, ∀ t, g (f t) = g t) :
    g ((s.ordered contended fs).1.foldl (fun t f => f t) (s.ordered contended fs).2) = g s :=
  ordered_keeps (P := fun t => g t = g s) s contended fs count (fun f hf t ht => (h f hf t).trans ht)

@[simp] theorem outer_moment (s : State) : (moment s).outer = s.outer := by
  unfold moment
  split <;> rfl

@[simp] theorem outer_momentAfter (l : List NoticeSource) (s : State) : (momentAfter l s).outer = s.outer := by
  unfold momentAfter
  split <;> simp

@[simp] theorem outer_momentAfterRelease (s : State) : (momentAfterRelease s).outer = s.outer := by
  unfold momentAfterRelease
  split <;> simp

/-- What every one of the actions and a moment keep, actions in turn keep. -/
theorem inTurn_keeps {P : State → Prop} (s : State) (contended : Bool) (fs : List (State → State))
    (count : ∀ k, P { s with freeCount := k }) (h : ∀ f ∈ fs, ∀ t, P t → P (f t)) (hm : ∀ t, P t → P (moment t)) :
    P (s.inTurn contended fs) := by
  have key : ∀ l : List (State → State), (∀ f ∈ l, f ∈ fs) → ∀ t, P t →
      P (l.foldl (fun t f => if contended then moment (f t) else f t) t) := by
    intro l
    induction l with
    | nil => exact fun _ _ ht => ht
    | cons f rest ih =>
      intro hl t ht
      refine ih (fun g hg => hl g (by simp [hg])) _ ?_
      have := h f (hl f (by simp)) t ht
      split
      · exact hm _ this
      · exact this
  refine key _ (fun f hf => (ordered_perm s contended fs).mem_iff.mp hf) _ ?_
  unfold State.ordered
  split
  · exact count _
  · exact count s.freeCount

/-- The same, for a part of the state that each action and a moment leave as it is. -/
theorem inTurn_same {α : Type} (g : State → α) (s : State) (contended : Bool) (fs : List (State → State))
    (count : ∀ k, g { s with freeCount := k } = g s) (h : ∀ f ∈ fs, ∀ t, g (f t) = g t)
    (hm : ∀ t, g (moment t) = g t) : g (s.inTurn contended fs) = g s :=
  inTurn_keeps (P := fun t => g t = g s) s contended fs count (fun f hf t ht => (h f hf t).trans ht)
    fun t ht => (hm t).trans ht

/-- Actions in turn run each of the actions once: as they stand, or in a free order with a moment after each. -/
theorem inTurn_eq (s : State) (contended : Bool) (fs : List (State → State)) :
    ∃ (l : List (State → State)) (k : Nat), l.Perm fs ∧
      (s.inTurn contended fs = l.foldl (fun t f => f t) s ∨
        s.inTurn contended fs = l.foldl (fun t f => moment (f t)) { s with freeCount := k }) := by
  cases contended with
  | false => exact ⟨fs, 0, List.Perm.refl _, .inl rfl⟩
  | true => exact ⟨_, s.freeCount + 1, freeOrder_perm _ _ fs, .inr rfl⟩

theorem foldl_same {α β : Type} (g : State → α) (f : State → β → State) (h : ∀ t x, g (f t x) = g t) :
    ∀ (l : List β) (s : State), g (l.foldl f s) = g s
  | [], _ => rfl
  | x :: rest, s => (foldl_same g f h rest (f s x)).trans (h s x)

/-! ## Field writes -/

@[simp] theorem outer_setTrackers (s : State) (x : PerBranch Tracker) : (s.setTrackers x).outer = s.outer := rfl
@[simp] theorem outer_setDemand (s : State) (x : PerBranch DemandRec) : (s.setDemand x).outer = s.outer := rfl
@[simp] theorem outer_setTables (s : State) (x : TableStore) : (s.setTables x).outer = s.outer := rfl
@[simp] theorem outer_setExchange (s : State) (x : Exchange) : (s.setExchange x).outer = s.outer := rfl
@[simp] theorem outer_setControl (s : State) (x : Controller) : (s.setControl x).outer = s.outer := rfl
@[simp] theorem outer_setCapture (s : State) (x : Capture) : (s.setCapture x).outer = s.outer := rfl
@[simp] theorem outer_setTracker (s : State) (b : Branch) (x : Tracker) : (s.setTracker b x).outer = s.outer := rfl
@[simp] theorem outer_setDemandRec (s : State) (b : Branch) (x : DemandRec) : (s.setDemandRec b x).outer = s.outer :=
  rfl
@[simp] theorem outer_setExchangeRec (s : State) (b : Branch) (x : ExchangeRec) :
    (s.setExchangeRec b x).outer = s.outer := rfl
@[simp] theorem outer_countExchange (s : State) (b : Branch) (f : ExchangeCounters → ExchangeCounters) :
    (s.countExchange b f).outer = s.outer := rfl
@[simp] theorem outer_countControl (s : State) (f : ControlCounters → ControlCounters) :
    (s.countControl f).outer = s.outer := rfl
@[simp] theorem outer_setAux (s : State) (n : Index4) (x : AuxRec) : (s.setAux n x).outer = s.outer := rfl
@[simp] theorem outer_raise (n : NoticeSource) (s : State) : (raise n s).outer = s.outer := rfl
@[simp] theorem outer_appendReply (s : State) (tag kind : Byte) (c : ResultCode) (d : ReplyData) :
    (s.appendReply tag kind c d).outer = s.outer := rfl

/-! ## Release, modes, supply, trips -/

@[simp] theorem outer_completeCommit (c : Completion) (f : TableCounters → TableCounters) (s : State) :
    (completeCommit c f s).outer = s.outer := by
  unfold completeCommit
  split <;> simp

@[simp] theorem outer_releaseDrop (s : State) : (releaseDrop s).outer = s.outer := by
  simp [releaseDrop, commitReleaseDrop, rewriteQueue, zeroClamps, zeroCarries]

@[simp] theorem outer_evalBase (s : State) : (evalBase s).outer = s.outer := by
  unfold evalBase startQualifying holdRelease
  split <;> split <;> simp

@[simp] theorem outer_gainRelease (s : State) : (gainRelease s).outer = s.outer := by simp [gainRelease]

@[simp] theorem outer_handReady (v : Bool) (s : State) : (handReady v s).outer = s.outer := by
  unfold handReady
  dsimp only
  split <;> simp

@[simp] theorem outer_checkReady (v : Bool) (s : State) : (checkReady v s).outer = s.outer := by
  unfold checkReady
  split <;> simp

@[simp] theorem outer_changeMode (m : Mode) (t : Option Target) (s : State) : (changeMode m t s).outer = s.outer := by
  unfold changeMode
  dsimp only
  split <;> simp

@[simp] theorem outer_endWaking (s : State) : (endWaking s).outer = s.outer := by
  unfold endWaking
  split <;> simp

@[simp] theorem outer_countWaking (b : Bool) (s : State) : (countWaking b s).outer = s.outer := by
  unfold countWaking
  dsimp only
  split
  · rfl
  · split <;> simp

@[simp] theorem outer_countQualifying (s : State) : (countQualifying s).outer = s.outer := by
  unfold countQualifying
  dsimp only
  split
  · split <;> simp
  · simp

@[simp] theorem outer_controlEvent (ev : CrossingEvent) (s : State) : (controlEvent ev s).outer = s.outer := by
  unfold controlEvent
  split
  · split
    · simp
    · split <;> simp
  · rfl

@[simp] theorem outer_interrupt (f : ControlCounters → ControlCounters) (s : State) :
    (interrupt f s).outer = s.outer := by
  simp [interrupt]

@[simp] theorem outer_dipInterruption (s : State) : (dipInterruption s).outer = s.outer := by simp [dipInterruption]

@[simp] theorem outer_streamInterruption (s : State) : (streamInterruption s).outer = s.outer := by
  simp [streamInterruption]

@[simp] theorem outer_recover (s : State) : (recover s).outer = s.outer := by
  unfold recover
  split <;> simp

@[simp] theorem outer_supplyReturns (s : State) : (supplyReturns s).outer = s.outer := by
  unfold supplyReturns
  rw [outer_recover]
  split <;> simp

@[simp] theorem outer_dipBegins (s : State) : (dipBegins s).outer = s.outer := by
  unfold dipBegins
  split
  · split <;> simp
  · rfl
  · rfl
  · rfl

@[simp] theorem outer_dipEnds (s : State) : (dipEnds s).outer = s.outer := by
  unfold dipEnds
  split <;> simp

@[simp] theorem outer_evalSupply (s : State) : (evalSupply s).outer = s.outer := by
  have h : ∀ (c : Bool) (t : State), (if c then supplyReturns t else t).outer = t.outer := fun c t => by
    cases c <;> simp
  unfold evalSupply
  dsimp only
  split
  · rw [outer_dipBegins, outer_momentAfterRelease, outer_evalBase, outer_momentAfter, h, outer_setControl]
  · split
    · rw [outer_dipEnds, outer_evalBase, outer_momentAfter, h, outer_setControl]
    · rw [outer_evalBase, outer_momentAfter, h, outer_setControl]

@[simp] theorem outer_latchTrip (c : TripCause) (s : State) : (latchTrip c s).outer = s.outer := by simp [latchTrip]

@[simp] theorem outer_countGap (b : Branch) (s : State) : (countGap b s).outer = s.outer := rfl

@[simp] theorem outer_reportLost (o : Order) (s : State) : (reportLost o s).outer = s.outer := by
  unfold reportLost
  split
  · rfl
  · split <;> simp

@[simp] theorem outer_reportSent (o : Order) (s : State) : (reportSent o s).outer = s.outer := by
  unfold reportSent
  split <;> simp

/-! ## Orders and reports -/

@[simp] theorem outer_beginV (s : State) : (beginV s).outer = s.outer := by
  unfold beginV
  split <;> simp

@[simp] theorem outer_pushFrame (f : VFrame) (s : State) : (pushFrame f s).outer = s.outer := by simp [pushFrame]

@[simp] theorem outer_handOrder (o : Order) (s : State) : (handOrder o s).outer = s.outer := by
  unfold handOrder
  split <;> simp

@[simp] theorem outer_handBankOrder (n : Index4) (a : BankAction) (s : State) :
    (handBankOrder n a s).outer = s.outer := by
  unfold handBankOrder
  dsimp only
  split
  · simp
  · split <;> simp

@[simp] theorem outer_withdrawn (o : Order) (s : State) : (withdrawn o s).outer = s.outer := by simp [withdrawn]

@[simp] theorem outer_deadlineCheck (tag : Tag) (s : State) : (deadlineCheck tag s).outer = s.outer := by
  unfold deadlineCheck
  dsimp only
  rw [foldl_same State.outer _ (fun t o => outer_withdrawn o t)]
  simp

@[simp] theorem outer_countTimeout (b : Branch) (s : State) : (countTimeout b s).outer = s.outer := by
  unfold countTimeout
  dsimp only
  split <;> simp

@[simp] theorem outer_countTimeouts (b : Branch) : ∀ (n : Nat) (s : State), (countTimeouts b n s).outer = s.outer
  | 0, _ => rfl
  | n + 1, s => by
    unfold countTimeouts
    rw [outer_countTimeouts b n, outer_countTimeout]

@[simp] theorem outer_ageOrders (ev : CrossingEvent) (s : State) : (ageOrders ev s).outer = s.outer := by
  simp [ageOrders]

@[simp] theorem outer_lateCompletion (o : Order) (s : State) : (lateCompletion o s).outer = s.outer := by
  unfold lateCompletion
  dsimp only
  refine ordered_same State.outer s _ _ (fun _ => rfl) fun f hf t => ?_
  simp only [List.mem_cons, List.not_mem_nil, or_false] at hf
  rcases hf with rfl | rfl <;> simp

@[simp] theorem outer_applyResult (r : ValveReport) (s : State) (x : OutcomeResult) :
    (applyResult r s x).outer = s.outer := by
  unfold applyResult
  dsimp only
  split
  · simp
  · split <;> simp
  · simp

@[simp] theorem outer_matchReport (r : ValveReport) (s : State) : (matchReport r s).outer = s.outer := by
  unfold matchReport
  dsimp only
  split <;> simp

@[simp] theorem outer_takeReport (r : ValveReport) (s : State) : (takeReport r s).outer = s.outer := by
  unfold takeReport setReadiness
  split <;> simp

@[simp] theorem outer_exchangeQuiescent (s : State) : (exchangeQuiescent s).outer = s.outer := by
  simp [exchangeQuiescent]

@[simp] theorem outer_discardOrders (s : State) : (discardOrders s).outer = s.outer := rfl

@[simp] theorem outer_enterQuiescent (s : State) : (enterQuiescent s).outer = s.outer := by
  unfold enterQuiescent
  dsimp only
  rw [outer_exchangeQuiescent]
  refine (ordered_same State.outer _ _ _ (fun _ => rfl) fun f hf t => ?_).trans (by simp)
  simp only [List.mem_cons, List.not_mem_nil, or_false] at hf
  rcases hf with rfl | rfl <;> simp

/-! ## Capture, demand and events -/

@[simp] theorem outer_freeze (c : Capture) (s : State) : (freeze c s).outer = s.outer := by simp [freeze]

@[simp] theorem outer_countPost (c : Capture) (s : State) : (countPost c s).outer = s.outer := by
  unfold countPost
  split <;> simp

@[simp] theorem outer_offerRecord (r : CaptureRecord) (s : State) : (offerRecord r s).outer = s.outer := by
  unfold offerRecord
  dsimp only
  repeat' split
  all_goals simp

@[simp] theorem outer_trigger (x : TriggerSource) (s : State) : (trigger x s).outer = s.outer := by
  unfold trigger
  dsimp only
  split
  · split <;> simp
  · rfl
  · rfl
  · rfl

@[simp] theorem outer_updateTrim (ev : CrossingEvent) (s : State) : (updateTrim ev s).outer = s.outer := by
  unfold updateTrim
  split <;> simp

@[simp] theorem outer_actOnEvent (ev : CrossingEvent) (s : State) : (actOnEvent ev s).outer = s.outer := by
  unfold actOnEvent
  dsimp only
  split <;> simp <;> split <;> simp

@[simp] theorem outer_demandEvent (ev : CrossingEvent) (s : State) : (demandEvent ev s).outer = s.outer := by
  unfold demandEvent
  split <;> simp

@[simp] theorem outer_tableEvent (ev : CrossingEvent) (s : State) : (tableEvent ev s).outer = s.outer := by
  unfold tableEvent
  split <;> simp

@[simp] theorem outer_offerEvent (ev : CrossingEvent) (s : State) : (offerEvent ev s).outer = s.outer := by
  unfold offerEvent
  refine inTurn_same State.outer s _ _ (fun _ => rfl) (fun f hf t => ?_) outer_moment
  simp only [List.mem_cons, List.not_mem_nil, or_false] at hf
  rcases hf with rfl | rfl | rfl | rfl <;> simp

@[simp] theorem outer_trackerChanged (b : Branch) (s : State) : (trackerChanged b s).outer = s.outer := by
  unfold trackerChanged
  dsimp only
  split <;> simp

@[simp] theorem outer_runTracker (tag : Tag) (b : Branch) (s : State) : (runTracker tag b s).outer = s.outer := by
  unfold runTracker
  dsimp only
  split
  · split <;> simp <;> split <;> simp
  · rw [outer_offerEvent]
    split <;> simp <;> split <;> simp

@[simp] theorem outer_releasedSet (tag : Tag) (s : State) : (releasedSet tag s).outer = s.outer := by
  unfold releasedSet
  refine inTurn_same State.outer s _ _ (fun _ => rfl) (fun f hf t => ?_) outer_moment
  simp only [List.mem_cons, List.not_mem_nil, or_false] at hf
  rcases hf with rfl | rfl | rfl | rfl <;> simp

@[simp] theorem outer_unlockTrackers (s : State) : (unlockTrackers s).outer = s.outer := by
  have h : ∀ b s, (unlockTracker b s).outer = s.outer := by
    intro b s
    unfold unlockTracker
    dsimp only
    split <;> simp
  simp [unlockTrackers, h]

/-! ## Aux inputs -/

@[simp] theorem outer_activateBlanking (w : Nat) (s : State) : (activateBlanking w s).outer = s.outer := by
  simp [activateBlanking]

@[simp] theorem outer_endBlanking (s : State) : (endBlanking s).outer = s.outer := by simp [endBlanking]

@[simp] theorem outer_startBlanking (d w : Nat) (s : State) : (startBlanking d w s).outer = s.outer := by
  unfold startBlanking
  dsimp only
  split
  · split <;> simp
  · simp
  · simp

@[simp] theorem outer_tickBlanking (s : State) : (tickBlanking s).outer = s.outer := by
  unfold tickBlanking
  dsimp only
  split
  · rfl
  · split <;> simp
  · split <;> simp

@[simp] theorem outer_tickDip (s : State) : (tickDip s).outer = s.outer := by
  unfold tickDip
  split
  · split <;> simp
  · rfl
  · rfl
  · rfl

theorem outer_actIf (has : Bool) (f : State → State) (h : ∀ t, (f t).outer = t.outer) (s : State) :
    (actIf has f s).outer = s.outer := by
  unfold actIf
  split
  · exact h s
  · rfl

@[simp] theorem outer_wakeAction (s : State) : (wakeAction s).outer = s.outer := by
  unfold wakeAction
  split <;> simp

@[simp] theorem outer_blockAction (n : Index4) (s : State) : (blockAction n s).outer = s.outer := by
  unfold blockAction
  dsimp only
  rw [outer_evalBase]
  split <;> simp

@[simp] theorem outer_activeEdge (n : Index4) (s : State) : (activeEdge n s).outer = s.outer := by
  unfold activeEdge
  dsimp only
  rw [outer_actIf _ _ (fun t => outer_raise _ t), outer_actIf _ _ (fun t => outer_trigger _ t),
    outer_actIf _ _ (fun t => outer_startBlanking _ _ t), outer_actIf _ _ (fun t => outer_blockAction _ t),
    outer_actIf _ _ (fun t => outer_wakeAction t)]
  simp

@[simp] theorem outer_inactiveEdge (n : Index4) (s : State) : (inactiveEdge n s).outer = s.outer := by
  unfold inactiveEdge
  dsimp only
  rw [outer_actIf _ _ (fun t => outer_raise _ t), outer_actIf _ _ (fun t => outer_evalBase t)]

@[simp] theorem outer_handAux (flags : Four Bool) (s : State) : (handAux flags s).outer = s.outer := by
  have h : ∀ (t : State) (n : Index4), (debounceAux flags t n).outer = t.outer := fun t n => by
    unfold debounceAux
    dsimp only
    split
    · simp
    · split
      · split <;> simp
      · simp
  unfold handAux
  refine inTurn_same State.outer s _ _ (fun _ => rfl) (fun f hf t => ?_) outer_moment
  obtain ⟨n, _, rfl⟩ := List.mem_map.mp hf
  exact h t n

end Sys2Proof.Machine
end

