-- ==== Sys2Proof/Laws/Trackers.lean ====
section
/-! SUPPORT. What becomes of the three branch trackers: each is written by its own step alone, and whatever a step or an
event brings about elsewhere leaves them. -/

namespace Sys2Proof.Machine

/-! ## What leaves the trackers -/

@[simp] theorem State.countControl_trackers (s : State) (f : ControlCounters → ControlCounters) :
    (s.countControl f).trackers = s.trackers := rfl

@[simp] theorem State.appendReply_trackers (s : State) (tag kind : Byte) (c : ResultCode) (d : ReplyData) :
    (s.appendReply tag kind c d).trackers = s.trackers := rfl

@[simp] theorem State.setDemandRec_trackers (s : State) (b : Branch) (r : DemandRec) :
    (s.setDemandRec b r).trackers = s.trackers := rfl

@[simp] theorem State.setExchangeRec_trackers (s : State) (b : Branch) (r : ExchangeRec) :
    (s.setExchangeRec b r).trackers = s.trackers := rfl

@[simp] theorem State.countExchange_trackers (s : State) (b : Branch) (f : ExchangeCounters → ExchangeCounters) :
    (s.countExchange b f).trackers = s.trackers := rfl

@[simp] theorem completeCommit_trackers (c : Completion) (f : TableCounters → TableCounters) (s : State) :
    (completeCommit c f s).trackers = s.trackers := by
  unfold completeCommit
  split <;> simp

@[simp] theorem releaseDrop_trackers (s : State) : (releaseDrop s).trackers = s.trackers := by
  simp [releaseDrop, commitReleaseDrop, rewriteQueue, zeroClamps, zeroCarries]

@[simp] theorem evalBase_trackers (s : State) : (evalBase s).trackers = s.trackers := by
  unfold evalBase startQualifying holdRelease
  split <;> split <;> simp

@[simp] theorem gainRelease_trackers (s : State) : (gainRelease s).trackers = s.trackers := by simp [gainRelease]

@[simp] theorem changeMode_trackers (m : Mode) (t : Option Target) (s : State) : (changeMode m t s).trackers = s.trackers := by
  unfold changeMode
  dsimp only
  split <;> simp

@[simp] theorem endWaking_trackers (s : State) : (endWaking s).trackers = s.trackers := by
  unfold endWaking
  split <;> simp

@[simp] theorem countWaking_trackers (b : Bool) (s : State) : (countWaking b s).trackers = s.trackers := by
  unfold countWaking
  dsimp only
  split
  · rfl
  · split <;> simp

@[simp] theorem countQualifying_trackers (s : State) : (countQualifying s).trackers = s.trackers := by
  unfold countQualifying
  dsimp only
  split
  · split <;> simp
  · simp

@[simp] theorem controlEvent_trackers (ev : CrossingEvent) (s : State) : (controlEvent ev s).trackers = s.trackers := by
  unfold controlEvent
  split
  · split
    · simp
    · split <;> simp
  · rfl

@[simp] theorem interrupt_trackers (f : ControlCounters → ControlCounters) (s : State) :
    (interrupt f s).trackers = s.trackers := by
  simp [interrupt]

@[simp] theorem dipInterruption_trackers (s : State) : (dipInterruption s).trackers = s.trackers := by simp [dipInterruption]

@[simp] theorem recover_trackers (s : State) : (recover s).trackers = s.trackers := by
  unfold recover
  split <;> simp

@[simp] theorem supplyReturns_trackers (s : State) : (supplyReturns s).trackers = s.trackers := by
  unfold supplyReturns
  rw [recover_trackers]
  split <;> simp

@[simp] theorem dipBegins_trackers (s : State) : (dipBegins s).trackers = s.trackers := by
  unfold dipBegins
  split
  · split <;> simp
  · rfl
  · rfl
  · rfl

@[simp] theorem dipEnds_trackers (s : State) : (dipEnds s).trackers = s.trackers := by
  unfold dipEnds
  split <;> simp

@[simp] theorem evalSupply_trackers (s : State) : (evalSupply s).trackers = s.trackers := by
  have h : ∀ (c : Bool) (t : State), (if c then supplyReturns t else t).trackers = t.trackers := fun c t => by
    cases c <;> simp
  unfold evalSupply
  dsimp only
  split
  · rw [dipBegins_trackers, momentAfterRelease_trackers, evalBase_trackers, momentAfter_trackers, h, State.setControl_trackers]
  · split
    · rw [dipEnds_trackers, evalBase_trackers, momentAfter_trackers, h, State.setControl_trackers]
    · rw [evalBase_trackers, momentAfter_trackers, h, State.setControl_trackers]

@[simp] theorem latchTrip_trackers (c : TripCause) (s : State) : (latchTrip c s).trackers = s.trackers := by simp [latchTrip]

@[simp] theorem countGap_trackers (b : Branch) (s : State) : (countGap b s).trackers = s.trackers := rfl

@[simp] theorem reportLost_trackers (o : Order) (s : State) : (reportLost o s).trackers = s.trackers := by
  unfold reportLost
  split
  · rfl
  · split <;> simp

@[simp] theorem beginV_trackers (s : State) : (beginV s).trackers = s.trackers := by
  unfold beginV
  split <;> simp

@[simp] theorem pushFrame_trackers (f : VFrame) (s : State) : (pushFrame f s).trackers = s.trackers := by simp [pushFrame]

@[simp] theorem handOrder_trackers (o : Order) (s : State) : (handOrder o s).trackers = s.trackers := by
  unfold handOrder
  split <;> simp

@[simp] theorem withdrawn_trackers (o : Order) (s : State) : (withdrawn o s).trackers = s.trackers := by simp [withdrawn]

@[simp] theorem deadlineCheck_trackers (tag : Tag) (s : State) : (deadlineCheck tag s).trackers = s.trackers := by
  unfold deadlineCheck
  dsimp only
  rw [foldl_same State.trackers _ (fun t o => withdrawn_trackers o t)]
  simp

@[simp] theorem countTimeout_trackers (b : Branch) (s : State) : (countTimeout b s).trackers = s.trackers := by
  unfold countTimeout
  dsimp only
  split <;> simp

@[simp] theorem countTimeouts_trackers (b : Branch) : ∀ (n : Nat) (s : State), (countTimeouts b n s).trackers = s.trackers
  | 0, _ => rfl
  | n + 1, s => by
    unfold countTimeouts
    rw [countTimeouts_trackers b n, countTimeout_trackers]

@[simp] theorem ageOrders_trackers (ev : CrossingEvent) (s : State) : (ageOrders ev s).trackers = s.trackers := by
  simp [ageOrders]

@[simp] theorem freeze_trackers (c : Capture) (s : State) : (freeze c s).trackers = s.trackers := by simp [freeze]

@[simp] theorem countPost_trackers (c : Capture) (s : State) : (countPost c s).trackers = s.trackers := by
  unfold countPost
  split <;> simp

@[simp] theorem offerRecord_trackers (r : CaptureRecord) (s : State) : (offerRecord r s).trackers = s.trackers := by
  unfold offerRecord
  dsimp only
  repeat' split
  all_goals simp

@[simp] theorem updateTrim_trackers (ev : CrossingEvent) (s : State) : (updateTrim ev s).trackers = s.trackers := by
  unfold updateTrim
  split <;> simp

@[simp] theorem actOnEvent_trackers (ev : CrossingEvent) (s : State) : (actOnEvent ev s).trackers = s.trackers := by
  unfold actOnEvent
  dsimp only
  split <;> simp <;> split <;> simp

@[simp] theorem demandEvent_trackers (ev : CrossingEvent) (s : State) : (demandEvent ev s).trackers = s.trackers := by
  unfold demandEvent
  split <;> simp

@[simp] theorem tableEvent_trackers (ev : CrossingEvent) (s : State) : (tableEvent ev s).trackers = s.trackers := by
  unfold tableEvent
  split <;> simp

@[simp] theorem offerEvent_trackers (ev : CrossingEvent) (s : State) : (offerEvent ev s).trackers = s.trackers := by
  unfold offerEvent
  refine inTurn_same State.trackers s _ _ (fun _ => rfl) (fun f hf t => ?_) moment_trackers
  simp only [List.mem_cons, List.not_mem_nil, or_false] at hf
  rcases hf with rfl | rfl | rfl | rfl <;> simp

@[simp] theorem trackerChanged_trackers (b : Branch) (s : State) : (trackerChanged b s).trackers = s.trackers := by
  unfold trackerChanged
  dsimp only
  split <;> simp

/-! ## A tracker's step and a released set -/

/-- A tracker's step at a released set writes its own record alone (R27). -/
theorem runTracker_trackers (tag : Tag) (b : Branch) (s : State) :
    (runTracker tag b s).trackers = s.trackers.set b (s.trackerResult tag b).1 := by
  unfold runTracker
  dsimp only
  split
  · split <;> simp [State.setTracker] <;> split <;> simp
  · rw [offerEvent_trackers, moment_trackers]
    split <;> simp [State.setTracker] <;> split <;> simp

/-- The orders of four things. -/
theorem perm_four {α : Type} {l : List α} {a b c d : α} (h : l.Perm [a, b, c, d]) :
    l ∈ List.permutations [a, b, c, d] :=
  List.mem_permutations.mpr h

theorem runTracker_params (tag : Tag) (b : Branch) (s : State) : (runTracker tag b s).params = s.params :=
  congrArg Outer.params (outer_runTracker tag b s)

theorem runTracker_asm (tag : Tag) (b : Branch) (s : State) : (runTracker tag b s).asm = s.asm :=
  congrArg Outer.asm (outer_runTracker tag b s)

theorem deadlineCheck_params (tag : Tag) (s : State) : (deadlineCheck tag s).params = s.params :=
  congrArg Outer.params (outer_deadlineCheck tag s)

theorem deadlineCheck_asm (tag : Tag) (s : State) : (deadlineCheck tag s).asm = s.asm :=
  congrArg Outer.asm (outer_deadlineCheck tag s)

/-- R15, R27: at a released set every tracker makes its own step, in whatever order the four act. -/
theorem releasedSet_tracker (tag : Tag) (b : Branch) (s : State) :
    (releasedSet tag s).trackers.get b = (s.trackerResult tag b).1 := by
  unfold releasedSet
  obtain ⟨l, k, hp, h⟩ := inTurn_eq s (s.setContended tag)
    [runTracker tag .ab, runTracker tag .bc, runTracker tag .ca, deadlineCheck tag]
  have hm := perm_four hp
  simp only [List.permutations, List.permutationsAux, List.permutationsAux.rec, List.permutationsAux2,
    List.foldr] at hm
  simp at hm
  rcases h with h | h <;> rw [h] <;>
  rcases hm with rfl | rfl | rfl | rfl | rfl | rfl | rfl | rfl | rfl | rfl | rfl | rfl | rfl | rfl | rfl | rfl | rfl |
    rfl | rfl | rfl | rfl | rfl | rfl | rfl <;>
  cases b <;>
  simp [List.foldl, runTracker_trackers, State.trackerResult, State.entries, runTracker_params, runTracker_asm,
    deadlineCheck_params, deadlineCheck_asm, PerBranch.get_set]

end Sys2Proof.Machine
end

