-- ==== Sys2Proof/Laws/Assembly.lean ====
section
/-! SUPPORT. What a sample frame leaves: no waiting directive is touched by the assembly; and what an unlock of the three
trackers does. -/

namespace Sys2Proof.Machine

/-! ## The trackers sent to UNLOCKED -/

/-- R136: with every tracker UNLOCKED an evaluation of the supply finds it invalid, and a dip. -/
theorem evalSupply_allUnlocked (u : State) (h : ∀ b, (u.trackers.get b).state = .unlocked) :
    (evalSupply u).control.supplyValid = false ∧ (evalSupply u).control.dip = true ∧
      (evalSupply u).capture = u.capture := by
  have hv : u.supplyIsValid = false := by
    have := h .ab; simp [State.supplyIsValid, Branch.all, this]
  have hd : u.dipPresent = true := by
    have := h .ab; simp [State.dipPresent, Branch.all, this]
  unfold evalSupply
  simp only [hv, hd, Bool.false_and, Bool.true_and, Bool.not_true, Bool.false_eq_true, if_false]
  have w := evalBase_only (momentAfter [.mode] (u.setControl { u.control with supplyValid := false, dip := true }))
  generalize evalBase (momentAfter [.mode] (u.setControl { u.control with supplyValid := false, dip := true })) = e at w
  have hc := w.control
  have ho := w.outside.capture
  have h1 : e.control.supplyValid = false := by rw [hc]; simp
  have h2 : e.control.dip = true := by rw [hc]; simp
  have h3 : e.capture = u.capture := by rw [ho]; simp
  split
  · unfold dipBegins
    split
    · split
      · simp [dipInterruption, interrupt, State.countControl, h1, h2, h3]
      · simp [h1, h2, h3]
    all_goals simp [h1, h2, h3]
  · exact ⟨h1, h2, h3⟩

/-- R39, R43: what sending a tracker to UNLOCKED writes. -/
theorem unlockTracker_spec (b : Branch) (s : State) :
    (unlockTracker b s).trackers = s.trackers.set b (s.trackers.get b).unlock ∧
      (unlockTracker b s).capture = s.capture := by
  unfold unlockTracker trackerChanged
  dsimp only
  split
  · exact ⟨rfl, rfl⟩
  · split <;> exact ⟨rfl, rfl⟩

/-- R10, R22: what sending all three trackers to UNLOCKED does. -/
theorem unlockTrackers_spec (s : State) :
    (∀ b, (unlockTrackers s).trackers.get b = (s.trackers.get b).unlock) ∧
      (unlockTrackers s).control.supplyValid = false ∧ (unlockTrackers s).control.dip = true ∧
      (unlockTrackers s).capture = s.capture := by
  have ht : ∀ b, (unlockTracker .ca (unlockTracker .bc (unlockTracker .ab s))).trackers.get b =
      (s.trackers.get b).unlock := by
    intro b; rw [(unlockTracker_spec _ _).1, (unlockTracker_spec _ _).1, (unlockTracker_spec _ _).1]; cases b <;> rfl
  have hd := evalSupply_allUnlocked (unlockTracker .ca (unlockTracker .bc (unlockTracker .ab s))) 
    (fun b => by rw [ht]; rfl)
  refine ⟨fun b => ?_, hd.1, hd.2.1, ?_⟩
  · unfold unlockTrackers
    rw [evalSupply_trackers, ht]
  · unfold unlockTrackers
    rw [hd.2.2, (unlockTracker_spec _ _).2, (unlockTracker_spec _ _).2, (unlockTracker_spec _ _).2]

/-! ## The directive queue -/

@[simp] theorem completeSets_processor (s : State) : (completeSets s).processor = s.processor := rfl

@[simp] theorem closeSlot_processor (e : Tag) (isVoid forced : Bool) (s : State) :
    (closeSlot e isVoid forced s).processor = s.processor := rfl

@[simp] theorem pushWindows_processor (found : Option SampleSet) (s : State) :
    (pushWindows found s).processor = s.processor := rfl

@[simp] theorem State.countAsm_processor (s : State) (f : AssemblyCounters → AssemblyCounters) :
    (s.countAsm f).processor = s.processor := rfl

@[simp] theorem accountMisses_processor (contributors : Four Bool) (s : State) :
    (accountMisses contributors s).processor = s.processor := by
  unfold accountMisses
  refine foldl_same (fun t => t.processor) _ (fun t n => ?_) _ s
  unfold accountMiss
  dsimp only
  split <;> [split <;> [skip; split]; skip] <;> rfl

theorem releasedSet_queue (tag : Tag) (s : State) : (releasedSet tag s).processor.queue = s.processor.queue :=
  congrArg Outer.queue (outer_releasedSet tag s)

theorem releaseSlot_queue (forced : Bool) (s : State) :
    (releaseSlot forced s).processor.queue = s.processor.queue := by
  unfold releaseSlot
  rcases s.asm.expected with _ | e
  · rfl
  · simp [releasedSet_queue]

theorem releaseChain_queue : ∀ (n : Nat) (s : State), (releaseChain n s).processor.queue = s.processor.queue
  | 0, _ => rfl
  | n + 1, s => by
    unfold releaseChain
    split
    · rw [releaseChain_queue n, releaseSlot_queue]
    · rfl

theorem releaseCheck_queue (s : State) : (releaseCheck s).processor.queue = s.processor.queue := by
  unfold releaseCheck
  split
  · rfl
  · split
    · rfl
    · exact releaseChain_queue _ _

theorem forceReleases_queue : ∀ (n : Nat) (s : State), (forceReleases n s).processor.queue = s.processor.queue
  | 0, _ => rfl
  | n + 1, s => by rw [forceReleases, forceReleases_queue n, releaseSlot_queue]

theorem unlockTrackers_queue (s : State) : (unlockTrackers s).processor.queue = s.processor.queue :=
  congrArg Outer.queue (outer_unlockTrackers s)

theorem discontinuity_queue (tag : Tag) (n : Index4) (s : State) :
    (discontinuity tag n s).processor.queue = s.processor.queue := by
  unfold discontinuity
  simp only [moment_processor, raise_processor, State.countAsm_processor]
  exact (unlockTrackers_queue _).trans rfl

theorem acceptFrame_queue (expected tag : Tag) (n : Index4) (f : SampleFrame) (s : State) :
    (acceptFrame expected tag n f s).processor.queue = s.processor.queue := by
  unfold acceptFrame
  split
  · rfl
  · dsimp only
    split
    · refine (inTurn_same (fun t => t.processor.queue) _ _ _ (fun _ => rfl) (fun g hg t => ?_)
        (fun t => by simp)).trans rfl
      simp only [List.mem_cons, List.not_mem_nil, or_false] at hg
      rcases hg with rfl | rfl
      · exact releaseCheck_queue t
      · exact congrArg Outer.queue (outer_handAux _ t)
    · exact (releaseCheck_queue _).trans rfl

/-- R5 to R10: the directives that wait stay as a sample frame is handled. -/
theorem handleFrame_queue (expected tag : Tag) (n : Index4) (f : SampleFrame) (s : State) :
    (handleFrame expected tag n f s).processor.queue = s.processor.queue := by
  unfold handleFrame
  dsimp only
  split
  · exact acceptFrame_queue _ _ _ _ _
  · split
    · rw [acceptFrame_queue, forceReleases_queue]
    · split
      · rw [acceptFrame_queue, discontinuity_queue]
      · rfl

end Sys2Proof.Machine
end

