-- ==== Sys2Proof/Laws/Timers.lean ====
section
/-! SUPPORT. What a local tick is made of, and that it leaves the directive queue as it is. -/

namespace Sys2Proof.Machine

/-- A list of two, reordered. -/
theorem perm_pair {α : Type} {l : List α} {a b : α} (h : l.Perm [a, b]) : l = [a, b] ∨ l = [b, a] := by
  match l, h.length_eq with
  | [x, y], _ =>
    have hx : x ∈ [a, b] := h.mem_iff.mp (by simp)
    simp only [List.mem_cons, List.not_mem_nil, or_false] at hx
    rcases hx with rfl | rfl
    · have := (List.perm_cons x).mp h
      simp at this
      simp [this]
    · have := (List.perm_cons x).mp (h.trans (List.Perm.swap x a []))
      simp at this
      simp [this]

/-! ## The directive queue at a local tick -/

theorem queue_of_outer {s t : State} (h : t.outer = s.outer) : t.processor.queue = s.processor.queue :=
  congrArg Outer.queue h

@[simp] theorem writeBank_queue (n : Index4) (r : BankRec) (s : State) :
    (writeBank n r s).processor.queue = s.processor.queue := by
  unfold writeBank
  dsimp only
  split
  · rfl
  · split <;> rfl

@[simp] theorem tickConfirmation_queue (s : State) (n : Index4) :
    (tickConfirmation s n).processor.queue = s.processor.queue := by
  unfold tickConfirmation
  dsimp only
  split
  · split
    · exact writeBank_queue n _ s
    · rfl
  · rfl

@[simp] theorem tickDischarge_queue (s : State) (n : Index4) :
    (tickDischarge s n).processor.queue = s.processor.queue := by
  unfold tickDischarge
  dsimp only
  split
  · split
    · exact writeBank_queue n _ s
    · rfl
  · rfl

@[simp] theorem tickDwell_queue (s : State) : (tickDwell s).processor.queue = s.processor.queue := by
  unfold tickDwell
  split
  · rfl
  · split <;> rfl

@[simp] theorem placeBankOrder_queue (n : Index4) (a : BankAction) (s : State) :
    (placeBankOrder n a s).processor.queue = s.processor.queue := by
  unfold placeBankOrder
  dsimp only
  rw [queue_of_outer (outer_handBankOrder n a _), queue_of_outer (outer_momentAfter _ _), writeBank_queue]

@[simp] theorem autoSwitch_queue (s : State) : (autoSwitch s).processor.queue = s.processor.queue := by
  unfold autoSwitch
  repeat' split
  all_goals first
    | rfl
    | (rw [placeBankOrder_queue]; rfl)

@[simp] theorem tickBanks_queue (s : State) : (tickBanks s).processor.queue = s.processor.queue := by
  have dwell : ∀ t : State,
      (if s.confirmationExpires then t else tickDwell t).processor.queue = t.processor.queue := fun t => by
    split <;> simp
  unfold tickBanks
  dsimp only
  rw [autoSwitch_queue, dwell, queue_of_outer (outer_momentAfter _ _),
    foldl_same (fun t => t.processor.queue) _ tickDischarge_queue, queue_of_outer (outer_momentAfter _ _),
    foldl_same (fun t => t.processor.queue) _ tickConfirmation_queue]

@[simp] theorem localTick_queue (s : State) : (localTick s).processor.queue = s.processor.queue := by
  unfold localTick
  dsimp only
  refine (inTurn_same (fun t => t.processor.queue) _ _ _ (fun _ => rfl) (fun f hf t => ?_)
    (fun t => queue_of_outer (outer_moment t))).trans ?_
  · simp only [List.mem_cons, List.not_mem_nil, or_false] at hf
    rcases hf with rfl | rfl
    · exact queue_of_outer (outer_tickBlanking t)
    · exact tickBanks_queue t
  · exact (queue_of_outer (outer_tickDip (countTick s))).trans rfl

/-! ## The order of a local tick -/

/-- The dip monitor leaves what decides the order of a tick as it is. -/
theorem tickDip_contended (s : State) : (tickDip s).tickContended = s.tickContended := by
  unfold tickDip
  split
  · split <;> rfl
  all_goals rfl

/-- R121, R154: a tick with no order to choose: the count, the dip monitor, the blanking pulse, the banks. -/
theorem localTick_plain (s : State) (h : s.tickContended = false) :
    localTick s = tickBanks (tickBlanking (tickDip (countTick s))) := by
  have e : (tickDip (countTick s)).tickContended = false := (tickDip_contended _).trans h
  unfold localTick
  simp only [e]
  rfl

/-- R121, R125, R154: a tick at which the blanking pulse ends release: the pulse and the banks in either order (log 12). -/
theorem localTick_contended (s : State) (h : s.tickContended = true) : ∃ k v,
    v = { tickDip (countTick s) with freeCount := k } ∧
      (localTick s = moment (tickBanks (moment (tickBlanking v))) ∨
        localTick s = moment (tickBlanking (moment (tickBanks v)))) := by
  have e : (tickDip (countTick s)).tickContended = true := (tickDip_contended _).trans h
  have hp := ordered_perm (tickDip (countTick s)) true [tickBlanking, tickBanks]
  refine ⟨(tickDip (countTick s)).freeCount + 1, _, rfl, ?_⟩
  unfold localTick State.inTurn
  simp only [e, if_true]
  rcases perm_pair hp with hl | hl <;> rw [hl]
  · exact .inl rfl
  · exact .inr rfl

end Sys2Proof.Machine
end

