-- ==== Sys2Proof/Tests/Slice0.lean ====
section
/-! SUPPORT. Tests on fixed values: ill-formed commands refused, numbers of the manual's worked examples, and, for each
statement of the certificate that has hypotheses, states and operands that meet them, clause by clause. -/

namespace Sys2Proof.Tests

set_option Elab.async false

open Sys2Proof Sys2Proof.Machine

/-! ## Small states -/

/-- The state after reset, on which the tests build. -/
def base : State := .reset

/-- base with its controller changed. -/
def ctl (f : Controller → Controller) : State := base.setControl (f base.control)

/-- In RUN with firing released. -/
def released : State := ctl fun c => { c with mode := .run, release := .released, supplyValid := true }

/-- base with bank 0 in a state, its confirmation timer running. -/
def bank (st : BankState) : State :=
  base.setBankRec .i0 { BankRec.initial with state := st, susceptance := 900, confirmTimer := some 1 }

/-- base with its Capture Unit changed. -/
def cap (f : Capture → Capture) : State := base.setCapture (f base.capture)

/-- base with a pending commit of tag 9. -/
def committing (s : State) : State := s.setTables { s.tables with commit := some 9 }

/-- base with source 0 ALIGNED and expected tag 100. -/
def streaming : State :=
  (base.setAsm { base.asm with expected := some 100 }).setSource .i0 { SourceRec.initial with alignment := .aligned }

/-- A record of the Capture Unit. -/
def record : CaptureRecord := ⟨.ab, .pos, 1, 0, some 8, none, none, 0, 0, {}, 8192, .held⟩

/-- A sample frame of source 0. -/
def frame (source tag : Nat) (status : Byte) (channels : List Half) : SampleFrame :=
  ⟨BitVec.ofNat 8 source, BitVec.ofNat 16 tag, status, channels⟩

/-- A valve report of branch AB. -/
def report (outcome : Byte) (angle : Half) : ReportFrame := ⟨0, 0, 50, outcome, angle, 0, 7⟩

/-- base with an order of angle 6080 and one of BLOCK outstanding on branch AB. -/
def waiting (angle : Nat) : State :=
  base.setExchangeRec .ab { ExchangeRec.initial with outstanding := [⟨51, .neg, 6200⟩, ⟨50, .pos, angle⟩] }

/-- An order of branch AB. -/
def order (h : HalfCycle) (angle : Nat) : Order := ⟨.ab, .pos, h, 0, angle, {}⟩

/-- The outcome is the next state t. -/
def nextIs (o : Host.Outcome State Fault Refusal) (t : State) : Bool :=
  match o with
  | .next u => decide (u = t)
  | _ => false

/-- The state an outcome goes on to, or base. -/
def after : Host.Outcome State Fault Refusal → State
  | .next u => u
  | _ => base

theorem ready_of (s : State) (h1 : s.rstn = true) (h2 : s.processor = .initial) (h3 : s.notices = .initial) :
    Ready s := by
  refine ⟨⟨h1, by rw [h2]; rfl⟩, by rw [h2]; rfl, ?_, by rw [h2]; rfl, Or.inr ⟨by rw [h2]; rfl, ?_⟩⟩
  · unfold State.usedPlaces
    rw [h2]
    cases s.reservedSlot <;> decide
  · unfold State.eligible
    rw [h3]
    rfl

theorem ready_base : Ready base := ready_of _ rfl rfl rfl

/-! ## Well-formedness -/

theorem test_refuses_long_sample : Instr.wellFormed (.sampleFrame ⟨0, 0, 0, List.replicate 77 0⟩) = false := by
  decide +kernel

theorem test_takes_longest_sample : Instr.wellFormed (.sampleFrame ⟨0, 0, 0, List.replicate 76 0⟩) = true := by
  decide +kernel

theorem test_refuses_long_directive : Instr.wellFormed (.directiveFrame 0 0 1 (List.replicate 154 0)) = false := by
  decide +kernel

theorem test_refuses_long_table_write : Instr.wellFormed (.tableWrite 0 0 0 0 0 (List.replicate 75 0)) = false := by
  decide +kernel

/-! ## Numbers of the manual -/

/-- R195. -/
theorem test_check_code : checkCode [0x31, 0x32, 0x33, 0x34, 0x35, 0x36, 0x37, 0x38, 0x39] = 0x29B1 := by
  decide +kernel

/-- 2.6, detection 6: H and the history after an accepted crossing. -/
theorem test_half_period : pushHistory [8240, 8230, 8250, 8240] 8256 = [8230, 8250, 8240, 8256] ∧
    meanHistory [8230, 8250, 8240, 8256] = 8244 := by decide +kernel

/-- 2.6, detection 5: the fourth good half-period locks the tracker, with h 18 and H 8240. -/
theorem test_fourth_half_period_locks :
    let t : Tracker := { Tracker.initial with
      state := .capturing, history := [8240, 8230, 8250], expectedPolarity := some .pos
      lastCrossing := some ⟨296, 184, true⟩, h := 17 }
    let r := takeDetection .ab [] 328 ⟨.pos, 232⟩ t
    r.1.state = .locked ∧ r.1.halfPeriod = 8240 ∧ r.2 = some ⟨.ab, .pos, 18, 328, false, false⟩ := by decide +kernel

/-- 2.6, row 9: the crossing synthesized at 100700 is at tag 393, fraction 92. -/
theorem test_synthesized_crossing : (Crossing.mk 361 40 true).after 8244 = ⟨393, 92, false⟩ := by decide +kernel

/-- 3.14, first event: the trim. -/
theorem test_trim : trimUpdate 20 11300 11000 200 = 34 := by decide +kernel

/-- 3.14, second event: D, carry and clamp counter of a raw demand of -366. -/
theorem test_clamp_low : limitedDemand (-366) = 0 ∧ newCarry (-366) 256 = -256 ∧ newClamp 2 .low = 1 := by decide +kernel

/-- 4.7, directive 4: the first rise of entries 6 to 13. -/
theorem test_first_rise : firstRise 6 [8192, 8192, 7960, 7900, 7850, 7790, 7800, 7775] = some 12 := by decide +kernel

/-- 5.8, rows 3 and 13: a correct report and a misfire. -/
theorem test_outcomes : evaluate ⟨.ab, .pos, 50, .fired, 6100, true, 0⟩ 6080 64 = .correct ∧
    evaluate ⟨.ab, .neg, 53, .notFired, 0, true, 0⟩ 6300 64 = .misfire := by decide +kernel

/-- 10.5, row 3: replies go before notices, and of the sources TRIP, of level 1, before RELEASE. -/
theorem test_best_notice :
    let s := base.setNotices { base.notices with
      records := { base.notices.records with trip := ⟨true, true, 1, false⟩, release := ⟨true, true, 0, false⟩ } }
    s.eligible = [.trip, .release] ∧ s.bestNotice s.eligible = some .trip := by decide +kernel

/-- Table 11-4: the bytes of an IDENTIFY reply with tag 5. -/
theorem test_identify_bytes : (Reply.mk 0 5 1 .done (.identify base.straps)).bytes.take 10 =
    [0xB1, 0, 5, 1, 0, 8, 0x4A, 0x6B, 0x00, 0xF6] := by decide +kernel

/-- A step on a queue of one command, from reset: IDENTIFY is taken and answered at once. -/
theorem test_identify_step : nextIs (step { base with pending := [.identify 0 5] })
    ((base.received.setProcessor { base.processor with counters := { base.processor.counters with taken := 1 }
      }).setNotices { base.notices with
        transmitter := some (.reply ⟨0, 5, 1, .done, .identify base.straps⟩) }) = true := by decide +kernel

/-- A frame spelled as bytes is handed on as the frame it spells. -/
theorem test_bytes_of_bank_status :
    nextIs (exec (.frameRejected .v (withCheckCode [0xD2, 1, 0, 0])) base)
      (after (exec (.bankStatusFrame 1 0 0) base)) = true := by
  decide +kernel

/-- R192: of two notices raised in one step, in an order the manual gives, the first begins; the other then waits. -/
theorem test_first_raised_begins_first :
    let s := base.setNotices { base.notices with records := { base.notices.records with
      source := ⟨false, true, 0, false⟩, tracker := ⟨false, true, 1, false⟩ } }
    let t := settle (raise .tracker (moment (raise .source s)))
    t.notices.transmitter = some (.notice ⟨0, .source, 0, s.snapshot .source⟩) ∧ t.eligible = [.tracker] ∧
      t.notices.front = none := by decide +kernel

/-- R99, R192: with RELEASE disabled, the reply of the commit that a readiness drop completes begins before the TRIP that
the judgement of the same report raises. -/
theorem test_drop_reply_before_trip :
    let s := (((committing released).setExchange { base.exchange with branches := .ofFn fun _ =>
        { ExchangeRec.initial with ready := true, outstanding := [⟨50, .pos, 6080⟩] } }).setControl
      { released.control with valveReady := true }).setNotices { base.notices with records :=
        { base.notices.records with trip := ⟨false, true, 1, false⟩ } }
    let t := after (exec (.valveReport (report 3 0)) s)
    t.notices.transmitter = some (.reply ⟨0, 9, 15, .done, .commit .releaseDrop⟩) ∧ t.eligible = [.trip] := by
  decide +kernel

/-- R103: a misfire hands its cause at MISFIRE_LIMIT, not below it, and again while the count stands at 255. -/
theorem test_misfire_cause_at_limit :
    let t := fun k => after (exec (.valveReport (report 2 0)) ((waiting 6080).setExchangeRec .ab
      { (waiting 6080).exchangeRec .ab with misfireRun := k }))
    (t 1).control.counters.misfireCauses = 0 ∧ (t 2).control.counters.misfireCauses = 1 ∧
      (t 255).control.counters.misfireCauses = 1 ∧ ((t 255).exchangeRec .ab).misfireRun = 255 ∧
      (t 255).control.trips.misfire = ⟨true, false, false⟩ := by decide +kernel

/-- R184, R192: RELEASE, raised by an ENGINE reset, begins before the DONE created after the reset, and so does ABORTED. -/
theorem test_engine_done_comes_last :
    let s := released.setNotices { base.notices with records :=
      { base.notices.records with release := ⟨false, true, 0, false⟩ } }
    let t := after (exec (.resetEngine 0 5) s)
    let u := after (exec (.resetEngine 0 5) (committing base))
    (t.notices.records.get .release).sent = true ∧ t.processor.replies = [⟨0, 5, 25, .done, .reset .engine⟩] ∧
      u.notices.transmitter = some (.reply ⟨0, 9, 15, .aborted, .empty⟩) ∧
      u.processor.replies = [⟨0, 5, 25, .done, .reset .engine⟩] := by decide +kernel

/-- R115, R192: the BANK_CHANGE of a bank order begins before the reply of a commit that the order's hand-over completes, by
the trip of the order it displaces; the directive's own reply, not the oldest, waits behind that one. -/
theorem test_bank_change_before_commit_reply :
    let s := (((((committing released).setBankRec .i0 { BankRec.initial with state := .out }).setExchange
      { base.exchange with
        queue := List.replicate 8 (.order (order 1 6080)), transmitter := some ⟨.order (order 0 6080), false⟩ })
      ).setDemandRec .ab { DemandRec.initial with gapCount := 5 }).setNotices { base.notices with records :=
        { base.notices.records with bankChange := ⟨false, true, 0, false⟩ } }
    let t := after (exec (.bankForce 0 5 0 0) s)
    (t.notices.records.get .bankChange).sent = true ∧ t.control.release = .held ∧
      t.processor.replies = [⟨0, 9, 15, .done, .commit .releaseDrop⟩, ⟨0, 5, 11, .done, .bankForce .i0 .closing⟩] := by
  decide +kernel

/-- R61, R67, R82: outside RELEASED the order carries BLOCK and the capture record the angle looked up (log 33). -/
theorem test_record_shows_looked_up_angle :
    let s := base.setTables { base.tables with active := [8192, 6120] }
    s.orderAngle .ab (some 8) = 8192 ∧ s.tableAngle .ab (some 8) = 6120 := by decide +kernel

/-- R110: the counters of the three branches, those of the exchange, the queue's length, then the states. -/
theorem test_exchange_report_order :
    let r : ExchangeReport := ⟨⟨1, 0, 0, 0, 0, 0, 0, 0, 0, 0⟩, 2, true, 3, 4⟩
    let b := (CounterReport.exchange ⟨r, r, r⟩ ⟨5, 0, 0, 0⟩ 6).bytes
    b.length = 81 ∧ b.take 2 = [0, 1] ∧ (b.drop 60).take 2 = [0, 5] ∧ (b.drop 68).take 7 = [6, 2, 2, 2, 1, 3, 4] := by
  decide +kernel

/-! ## Witnesses: states and operands that meet the hypotheses of the statements -/

theorem ready_ctl (f : Controller → Controller) : Ready (ctl f) := ready_of _ rfl rfl rfl

theorem ready_cap (f : Capture → Capture) : Ready (cap f) := ready_of _ rfl rfl rfl

theorem ready_bank (st : BankState) : Ready (bank st) := ready_of _ rfl rfl rfl

theorem free_base : Free base := ready_base.toFree

theorem witness_step : (State.pending { base with pending := [.localTick] } = [.localTick]) ∧ base.pending = [] := by
  decide +kernel

theorem witness_resetLine : (State.powerOn base.straps false [] 0).rstn = false ∧ base.rstn = true ∧
    Instr.localTick ≠ .powerOnReset ∧ ∀ f u b, Instr.localTick ≠ .rstnRelease f u b :=
  ⟨rfl, rfl, by decide, fun _ _ _ h => by cases h⟩

/-- STAMP: last released tag and last event tag, both set or one unset. -/
theorem witness_stamp :
    let s := (base.setAsm { base.asm with lastReleased := some 4095 }).setTracker .bc { Tracker.initial with
      lastEventTag := some 0 }
    Ready s ∧ s.asm.lastReleased = some 4095 ∧ (s.trackers.get .bc).lastEventTag = some 0 ∧
      (s.trackers.get .ab).lastEventTag = none ∧ base.asm.lastReleased = none :=
  ⟨ready_of _ rfl rfl rfl, rfl, rfl, rfl, rfl⟩

theorem witness_get : Ready base ∧ param? 1 = some .assemblyDepth ∧ param? 80 = some .noticeMask ∧ param? 0 = none ∧
    param? 255 = none := ⟨ready_base, by decide +kernel⟩

theorem witness_counters : Ready base ∧ counterGroup? 0 = some .assembly ∧ counterGroup? 9 = some .ports ∧
    9 < (10 : Byte).toNat ∧ 1 < (2 : Byte).toNat := ⟨ready_base, by decide +kernel⟩

/-- A COUNTERS clear flag of 0 and of 1, and both last codes of the lists. -/
theorem witness_countersClear : (0 : Byte) = 0 ∧ flag? 0 = some false ∧ flag? 1 = some true ∧ flag? 2 = none ∧
    counterGroup? 10 = none := by decide +kernel

theorem witness_tableRead : Ready base ∧ tableBank? 0 = some .active ∧ tableBank? 1 = some .staged ∧
    (63 : Byte).toNat ≤ 63 ∧ (448 : Half).toNat + (63 : Byte).toNat ≤ 511 ∧ tableBank? 2 = none ∧
    63 < (64 : Byte).toNat ∧ 511 < (449 : Half).toNat + (63 : Byte).toNat := ⟨ready_base, by decide +kernel⟩

/-- SET: a parked-only parameter in RUN; out of range; against V_VALID and V_DIP; written. -/
theorem witness_set : Ready released ∧ Ready base ∧ param? 1 = some .assemblyDepth ∧ Param.assemblyDepth.parkedOnly = true ∧
    ¬(released.control.mode ≠ .run ∧ released.control.release = .held) ∧ Param.assemblyDepth.inRange 7 = false ∧
    Param.assemblyDepth.inRange 6 = true ∧ param? 67 = some .vDip ∧ Param.vDip.parkedOnly = false ∧
    base.params.vValid < (1 : Word).toInt ∧ Param.vDip.inRange 0 = true ∧ ¬((base.params.vValid : Int) < (0 : Word).toInt) :=
  ⟨ready_ctl _, ready_base, by decide +kernel⟩

theorem witness_setVValid :
    let s := base.setParams { base.params with vValid := 9, vDip := 5 }
    Ready s ∧ param? 66 = some .vValid ∧ (4 : Word).toInt < s.params.vDip ∧ ¬((5 : Word).toInt < s.params.vDip) :=
  ⟨ready_of _ rfl rfl rfl, by decide +kernel⟩

/-- Parameters at a bound of their ranges and beyond it; counts at theirs. -/
theorem witness_ranges : (Param.settleCode, (0 : Int), (4 : Int)) ∈ ([(.settleCode, 0, 4)] : List (Param × Int × Int)) ∧
    Param.settleCode.inRange 4 = true ∧ Param.settleCode.inRange 5 = false ∧ Param.settleCode.inRange (-1) = false ∧
    Param.releaseBase.inRange 25 = true ∧ Param.releaseBase.inRange 26 = false ∧
    (Param.bias .ab).inRange (-4096) = true ∧ (Param.bias .ab).inRange (-4097) = false ∧ bump 65534 = 65535 ∧
    bump255 254 = 255 := by decide +kernel

/-- What an owner does at once: with the silence timer turned off and on. -/
theorem witness_afterWrite : (base.setParams { base.params with silenceLimit := 0 }).params.silenceLimit = 0 ∧
    base.params.silenceLimit ≠ 0 ∧ Param.assemblyDepth ≠ .silenceLimit ∧ Param.assemblyDepth ≠ .carryLimit ∧
    Param.assemblyDepth ≠ .limitMode ∧ Param.assemblyDepth ≠ .vValid ∧ Param.assemblyDepth ≠ .vDip ∧
    Param.assemblyDepth ≠ .blockSelect := by decide +kernel

theorem witness_notParked : Ready released ∧
    ¬(released.control.mode ≠ .run ∧ released.control.release = .held) := ⟨ready_ctl _, by decide +kernel⟩

theorem witness_mapSet : Ready base ∧ base.control.mode ≠ .run ∧ base.control.release = .held ∧
    quantity? 8 = some .ic2 ∧ index4? 3 = some .i3 ∧ (7 : Byte).toNat = (7 : Fin 8) ∧ 8 < (9 : Byte).toNat ∧
    (4 : Byte) ≠ 255 ∧ 3 < (4 : Byte).toNat ∧ 7 < (8 : Byte).toNat := ⟨ready_base, by decide +kernel⟩

theorem witness_sourceSet : Ready streaming ∧ streaming.control.mode ≠ .run ∧ streaming.control.release = .held ∧
    index4? 0 = some .i0 ∧ index4? 3 = some .i3 ∧ flag? 0 = some false ∧ flag? 1 = some true ∧ gapPolicy? 1 = some .mark ∧
    (15 : Byte).toNat ≤ 15 ∧ 1 ≤ (1 : Byte).toNat ∧ (streaming.asm.sources.get .i0).alignment ≠ .disabled ∧
    (streaming.asm.sources.get .i3).alignment = .disabled ∧ 3 < (4 : Byte).toNat ∧ 1 < (2 : Byte).toNat ∧
    15 < (16 : Byte).toNat ∧ (0 : Byte).toNat = 0 := ⟨ready_of _ rfl rfl rfl, by decide +kernel⟩

theorem witness_auxSet : Ready base ∧ base.control.mode ≠ .run ∧ base.control.release = .held ∧ index4? 3 = some .i3 ∧
    auxPolarity? 1 = some .activeLow ∧ auxType? 0 = some .edge ∧
    auxActions? 31 = some ⟨true, true, true, true, true⟩ ∧ (63 : Byte).toNat ≤ 63 ∧ 1 ≤ (63 : Byte).toNat ∧
    31 < (32 : Byte).toNat ∧ 63 < (64 : Byte).toNat := ⟨ready_base, by decide +kernel⟩

/-- A hand-over: a flag as the record stands; at the last debouncing set and one before it; an edge in QUIESCENT with
every action, and with none; a blanking pulse of delay 0 and 1, and one that runs already. -/
theorem witness_aux :
    let r : AuxRec := { AuxRec.initial with debounce := 1, kind := .edge, actions := ⟨true, true, true, true, true⟩ }
    let s := ctl fun c => { c with mode := .quiescent, aux := ⟨r, { r with pendingCount := 1 }, .initial, .initial⟩ }
    (s.control.aux.get .i0).polarity = .activeHigh ∧ (s.control.aux.get .i2).active = false ∧
      (s.control.aux.get .i0).pendingCount + 1 ≤ (s.control.aux.get .i0).debounce ∧
      (s.control.aux.get .i1).debounce < (s.control.aux.get .i1).pendingCount + 1 ∧
      (s.control.aux.get .i0).actions.wake = true ∧ s.control.mode = .quiescent ∧
      (s.control.aux.get .i0).actions.blank = true ∧ s.control.blanking.state = .idle ∧
      (s.control.aux.get .i2).actions = ⟨false, false, false, false, false⟩ ∧ base.control.mode ≠ .quiescent ∧
      (s.control.aux.get .i0).actions.notice = true ∧
      (ctl fun c => { c with blanking := ⟨.active, 1, 1⟩ }).control.blanking.state ≠ .idle := by decide +kernel

/-- BANK_SET: out of range; busy by a transitional and by a discharging bank; too large a sum; written. -/
theorem witness_bankSet : Ready base ∧ Ready (bank .closing) ∧ Ready (bank .discharging) ∧ Ready (bank .out) ∧
    base.control.mode ≠ .run ∧ base.control.release = .held ∧ 4095 < (4096 : Half).toNat ∧ index4? 0 = some .i0 ∧
    bankSetState? 1 = some .out ∧ (4095 : Half).toNat ≤ 4095 ∧ (bank .closing).anyTransitional = true ∧
    ((bank .discharging).bankRec .i0).state = .discharging ∧ (bank .discharging).anyTransitional = false ∧
    (bank .out).anyTransitional = false ∧ ((bank .out).bankRec .i0).state ≠ .discharging ∧
    (bank .out).otherSusceptance .i0 + (4095 : Half).toNat ≤ 12288 :=
  ⟨ready_base, ready_bank _, ready_bank _, ready_bank _, by decide +kernel⟩

theorem witness_bankSetSum :
    let r : BankRec := { BankRec.initial with state := .inService, susceptance := 4095 }
    let s := base.setBanks { base.banks with banks := ⟨r, r, r, .initial⟩ }
    Ready s ∧ s.anyTransitional = false ∧ 12288 < s.otherSusceptance .i3 + (4 : Half).toNat ∧
      s.otherSusceptance .i3 + (3 : Half).toNat ≤ 12288 := ⟨ready_of _ rfl rfl rfl, by decide +kernel⟩

theorem witness_tableWrite : Ready base ∧ Ready (committing base) ∧ (committing base).tables.commit.isSome = true ∧
    base.tables.commit = none ∧ base.tables.staged.length = 512 ∧ (63 : Byte).toNat ≤ 63 ∧
    (448 : Half).toNat + (63 : Byte).toNat ≤ 511 ∧ ([4096] : List Half).length = 1 ∧
    4096 ≤ (4096 : Half).toNat ∧ (8192 : Half).toNat ≤ 8192 ∧
    ([4096, 8192] : List Half).length = (1 : Byte).toNat + 1 ∧ (4095 : Half).toNat < 4096 ∧ 8192 < (8193 : Half).toNat ∧
    1 < (2 : Byte).toNat ∧ ([] : List Half).length ≠ 1 :=
  ⟨ready_base, ready_of _ rfl rfl rfl, by decide +kernel⟩

/-- TABLE_COPY and TABLE_COMMIT: pending; out of order; in order outside RELEASED and in RELEASED. -/
theorem witness_tableCommit :
    let rising := base.setTables { base.tables with staged := [4096, 4097] }
    Ready (committing base) ∧ Ready rising ∧ Ready base ∧ Ready released ∧
      (committing base).tables.commit.isSome = true ∧ rising.tables.commit = none ∧
      firstRise 0 rising.tables.staged = some 1 ∧ firstRise 0 base.tables.staged = none ∧
      base.control.release ≠ .released ∧ released.control.release = .released ∧ released.tables.commit = none ∧
      firstRise 0 released.tables.staged = none :=
  ⟨ready_of _ rfl rfl rfl, ready_of _ rfl rfl rfl, ready_base, ready_ctl _, by decide +kernel⟩

theorem witness_abCrossing : (committing base).tables.commit = some 9 ∧
    (CrossingEvent.mk .ab .pos 1 0 false false).branch = .ab ∧
    ¬((CrossingEvent.mk .ab .neg 1 0 false false).branch = .ab ∧
      (CrossingEvent.mk .ab .neg 1 0 false false).polarity = .pos) := by decide +kernel

/-- The base conditions: holding in HELD and in RELEASED, failing in each release state, with and without a commit. -/
theorem witness_baseConditions :
    (ctl fun c => { c with mode := .run, supplyValid := true }).baseConditions = true ∧
    (ctl fun c => { c with mode := .run, supplyValid := true }).control.release = .held ∧
    released.baseConditions = true ∧ released.control.release ≠ .held ∧ base.baseConditions = false ∧
    base.control.release = .held ∧ (ctl fun c => { c with release := .qualifying }).baseConditions = false ∧
    (ctl fun c => { c with release := .awaitingReady }).baseConditions = false ∧
    (ctl fun c => { c with release := .released }).baseConditions = false ∧
    (committing (ctl fun c => { c with release := .released })).tables.commit = some 9 := by decide +kernel

/-- The qualifying count one short of its end and at its end, valve ready and not; valve ready handed over in
AWAITING_READY, in RELEASED and in HELD. -/
theorem witness_qualifying :
    let q := fun n v => ctl fun c => { c with release := .qualifying, qualifyCount := n, valveReady := v }
    (q 48 true).control.qualifyCount + 1 < base.params.releaseBase + base.params.releaseExtra ∧
      base.params.releaseBase + base.params.releaseExtra ≤ (q 49 true).control.qualifyCount + 1 ∧
      (q 49 true).control.valveReady = true ∧ (q 49 false).control.valveReady = false ∧
      (q 49 true).control.mode ≠ .waking ∧ (q 49 true).control.release = .qualifying ∧
      (ctl fun c => { c with release := .awaitingReady }).control.release = .awaitingReady ∧
      released.control.release = .released ∧ base.control.release ≠ .awaitingReady := by decide +kernel

/-- The supply: valid, with a return from an interruption; a dip that begins under each tolerance, and one that ends. -/
theorem witness_supply :
    let t : Tracker := { Tracker.initial with state := .locked, magnitude := 900 }
    let up := fun (s : State) => s.setTrackers ⟨t, t, t⟩
    let lost := up (ctl fun c => { c with resume := some .run, dipState := .timing, dipCount := 1 })
    lost.supplyIsValid = true ∧ lost.control.supplyValid = false ∧ lost.control.resume = some .run ∧
      lost.dipPresent = false ∧ lost.control.dip = true ∧ lost.control.dipState = .timing ∧ base.control.resume = none ∧
      base.supplyIsValid = false ∧ base.dipPresent = true ∧
      (ctl fun c => { c with dip := false, dipState := .watching }).control.dip = false ∧
      (evalBase (ctl fun c => { c with dip := true, dipState := .watching })).control.dipState = .watching ∧
      1 ≤ base.params.dipTolerance ∧
      (base.setParams { base.params with dipTolerance := 0 }).params.dipTolerance = 0 := by decide +kernel

/-- MODE RUN and PARK: unmapped; mapped, from each mode. -/
theorem witness_mode :
    let mapped := base.setAsm { base.asm with map := ⟨some ⟨.i0, 0⟩, some ⟨.i0, 1⟩, some ⟨.i0, 2⟩, some ⟨.i1, 0⟩,
      some ⟨.i1, 1⟩, some ⟨.i1, 2⟩, none, none, none⟩ }
    Ready base ∧ base.primaryMapped = false ∧ Ready mapped ∧ mapped.primaryMapped = true ∧ base.control.mode = .park ∧
      released.control.mode = .run ∧ (ctl fun c => { c with mode := .quiescent }).control.mode = .quiescent ∧
      (ctl fun c => { c with mode := .waking, wakingTarget := some .run }).control.mode = .waking ∧
      base.control.mode ≠ Target.run.mode := ⟨ready_base, rfl, ready_of _ rfl rfl rfl, by decide +kernel⟩

/-- R146: MODE RUN taken in PARK with the quantities mapped and the supply valid starts QUALIFYING. -/
theorem test_modeRun_qualifies :
    let s := (ctl fun c => { c with supplyValid := true }).setAsm { base.asm with map := ⟨some ⟨.i0, 0⟩, some ⟨.i0, 1⟩,
      some ⟨.i0, 2⟩, some ⟨.i1, 0⟩, some ⟨.i1, 1⟩, some ⟨.i1, 2⟩, none, none, none⟩ }
    let t := after (exec (.mode s.unitByte 5 0) s)
    s.primaryMapped = true ∧ s.control.mode = .park ∧ s.control.release = .held ∧ s.blockCause = false ∧
      t.control.mode = .run ∧ t.control.release = .qualifying ∧
      (t.notices.records.get .mode).status = true ∧ (t.notices.records.get .release).status = true := by decide +kernel

/-- A crossing event in WAKING: another branch; one short of the settle length, and at it. -/
theorem witness_waking :
    let w := fun n => ctl fun c => { c with mode := .waking, wakingTarget := some .run, wakingCount := n }
    (w 30).control.mode = .waking ∧ (CrossingEvent.mk .bc .pos 1 0 false false).branch ≠ .ab ∧
      (CrossingEvent.mk .ab .pos 1 0 true false).synthesized = true ∧
      (w 30).control.wakingCount + 1 < 8 * 2 ^ base.params.settleCode ∧
      8 * 2 ^ base.params.settleCode ≤ (w 31).control.wakingCount + 1 ∧
      (w 31).control.wakingTarget = some .run := by decide +kernel

theorem witness_modeQuiescent : Ready released ∧ released.control.mode ≠ .quiescent ∧
    released.control.valveReady = released.allReady ∧ 2 < (3 : Byte).toNat := ⟨ready_ctl _, by decide +kernel⟩

/-- R107: MODE QUIESCENT with an order in transmission and bank orders among the orders queued; with a bank order in
transmission. -/
theorem test_modeQuiescent_keeps_bank_orders :
    let q := [VFrame.order (order 51 8192), .bank .i0 .close, .order (order 52 8192), .bank .i1 .opening]
    let s := fun f => base.setExchange { base.exchange with queue := q, transmitter := some ⟨f, false⟩ }
    let t := fun f => (after (exec (.mode base.unitByte 5 2) (s f))).exchange
    (t (.order (order 50 6080))).queue = [.bank .i0 .close, .bank .i1 .opening] ∧
      (t (.order (order 50 6080))).transmitter = some ⟨.order (order 50 6080), true⟩ ∧
      (t (.bank .i2 .close)).transmitter = some ⟨.bank .i2 .close, false⟩ := by decide +kernel

theorem witness_quiescentAgain :
    Ready (ctl fun c => { c with mode := .quiescent, resume := some .run }) ∧
    (ctl fun c => { c with mode := .quiescent, resume := some .run }).control.mode = .quiescent :=
  ⟨ready_ctl _, by decide +kernel⟩

theorem witness_block : Ready base ∧ 1 < (2 : Byte).toNat := ⟨ready_base, by decide +kernel⟩

theorem witness_captureSet : Ready base ∧ Ready (cap fun c => { c with mode := .stream, state := .running }) ∧
    captureMode? 3 = none ∧ 1023 < (1024 : Half).toNat ∧ captureMode? 2 = some .stopOnFull ∧
    (1023 : Half).toNat ≤ 1023 ∧ (cap fun c => { c with mode := .stream, state := .running }).capture.state = .running ∧
    base.capture.state ≠ .running ∧ base.capture.state ≠ .triggered ∧ captureMode? 0 = some .bypass :=
  ⟨ready_base, ready_cap _, by decide +kernel⟩

theorem witness_captureTrigger :
    let s := cap fun c => { c with mode := .stream, state := .running, post := 1 }
    Ready s ∧ s.capture.state = .running ∧ 1 ≤ s.capture.post ∧
      (cap fun c => { c with mode := .stream, state := .running }).capture.post = 0 ∧ base.capture.state ≠ .running :=
  ⟨ready_cap _, by decide +kernel⟩

theorem witness_captureRead : Ready base ∧ 1 ≤ (1 : Byte).toNat ∧ (12 : Byte).toNat ≤ 12 ∧ (0 : Byte).toNat = 0 ∧
    12 < (13 : Byte).toNat := ⟨ready_base, by decide +kernel⟩

/-- An offered record: a full buffer in each mode, and the last two post-trigger records. -/
theorem witness_offeredRecord :
    let full := List.replicate 1024 record
    base.capture.state = .off ∧ (cap fun c => { c with state := .frozen }).capture.state = .frozen ∧
    (cap fun c => { c with mode := .stopOnFull, state := .running, buffer := full }).capture.mode = .stopOnFull ∧
    1024 ≤ (cap fun c => { c with state := .running, buffer := full }).capture.buffer.length ∧
    (cap fun c => { c with state := .running, buffer := full.drop 1 }).capture.buffer.length < 1024 ∧
    (cap fun c => { c with mode := .stream, state := .running, buffer := full }).capture.mode ≠ .stopOnFull ∧
    (cap fun c => { c with mode := .stream, state := .triggered, postCount := 2, buffer := full }).capture.state =
      .triggered ∧
    (cap fun c => { c with mode := .stream, state := .triggered, postCount := 2, buffer := full }).capture.mode ≠
      .stopOnFull ∧
    1024 ≤ (cap fun c => { c with state := .triggered, postCount := 1, buffer := full }).capture.buffer.length ∧
    1 < (cap fun c => { c with state := .triggered, postCount := 2 }).capture.postCount ∧
    (cap fun c => { c with state := .triggered, postCount := 1 }).capture.postCount = 1 := by decide +kernel

theorem witness_noticeSet : Ready base ∧ noticeSource? 11 = some .clamp ∧ flag? 1 = some true ∧ (1 : Byte).toNat ≤ 1 ∧
    11 < (12 : Byte).toNat ∧ 1 < (2 : Byte).toNat := ⟨ready_base, by decide +kernel⟩

theorem witness_noticeClear : Ready base ∧ (4095 : Half).toNat < 4096 ∧ 4096 ≤ (4096 : Half).toNat :=
  ⟨ready_base, by decide +kernel⟩

/-- Admission: another unit; a full queue with and without a free place; room behind an unanswered directive. -/
theorem witness_admission :
    let notice := some (MFrame.notice ⟨0, .trip, 0, .trip .empty⟩)
    let d : Directive := ⟨1, 4, .stamp⟩
    let r : Reply := ⟨0, 1, 4, .done, .empty⟩
    let s := fun q n => (base.setNotices { base.notices with transmitter := notice }).setProcessor
      { base.processor with queue := List.replicate q d, replies := List.replicate n r, pacing := some 0 }
    ∀ q ∈ [3, 4], ∀ n ∈ [7, 8], (s q n).rstn = true ∧ (s q n).canTake = false ∧
      (s q n).notices.transmitter.isSome = true ∧ (1 : Byte) ≠ (s q n).unitByte ∧ (0 : Byte) = (s q n).unitByte ∧
      (s q n).processor.queue.length = q ∧ (s q n).usedPlaces = n ∧ (s q n).processor.pacing.isSome = true := by
  decide +kernel

/-- A directive taken at once: answered, and with its answer deferred. -/
theorem witness_takenAtOnce : Ready released ∧ ([] : List Byte).length ≤ 153 ∧
    (act ⟨1, 15, decodeRequest 15 []⟩ released.taken).2 = none ∧
    (act ⟨1, 2, decodeRequest 2 []⟩ released.taken).2.isSome = true ∧ (2 : Byte) ≠ 25 :=
  ⟨ready_of _ rfl rfl rfl, by decide +kernel⟩

theorem witness_unknownAndMalformed : Ready base ∧ 25 < (26 : Byte).toNat ∧
    ((25, 1) : Byte × Nat) ∈ ([(1, 0), (25, 1)] : List (Byte × Nat)) ∧ ([] : List Byte).length ≠ 1 ∧
    ([0, 0, 0] : List Byte).length < 4 := ⟨ready_base, by decide +kernel⟩

theorem witness_engineReset : Ready base ∧ base.tables.commit = none ∧ Ready (committing released) ∧
    (committing released).tables.commit = some 9 ∧ base.notices.transmitter = none ∧ base.notices.front = none :=
  ⟨ready_base, rfl, ready_of _ rfl rfl rfl, rfl, rfl, rfl⟩

theorem witness_fullReset : Ready base ∧ 1 < (2 : Byte).toNat := ⟨ready_base, by decide +kernel⟩

/-- A transmit completion: of a RESET FULL reply; with a reply waiting; with nothing; with an eligible source. -/
theorem witness_transmitCompletion :
    let last : Reply := ⟨0, 1, 25, .done, .reset .full⟩
    let idle := base.setNotices { base.notices with transmitter := some (.reply last) }
    let s := idle.setProcessor { base.processor with replies := [last] }
    let n := idle.setNotices { idle.notices with records := { idle.notices.records with trip := ⟨true, true, 1, false⟩ } }
    Free s ∧ awaitedReply (s.setProcessor { s.processor with resetWait := true }) (.reply last) = true ∧
      s.notices.transmitter = some (.reply last) ∧ awaitedReply s (.reply last) = false ∧
      s.processor.replies = [last] ∧ idle.processor.replies = [] ∧ idle.eligible = [] ∧ n.eligible ≠ [] :=
  ⟨⟨rfl, rfl⟩, by decide +kernel⟩

/-- What is offered: nothing yet, an offer that still stands and one that does not; a moment with and without a frame. -/
theorem witness_offered :
    let r : Reply := ⟨0, 1, 4, .done, .empty⟩
    let s := base.setProcessor { base.processor with replies := [r] }
    let t := fun o => s.setNotices { s.notices with front := some o }
    s.processor.replies = r :: [] ∧ s.notices.front = none ∧ s.candidates = ⟨true, []⟩ ∧
      (t ⟨true, [.trip]⟩).candidates = ⟨true, []⟩ ∧ (t ⟨false, [.trip]⟩).candidates = ⟨true, []⟩ ∧
      s.notices.transmitter = none ∧ (moment s).notices.front = some ⟨true, []⟩ ∧ (moment base).notices.front = none ∧
      (t ⟨false, [.trip]⟩).offerReply.notices.front = some ⟨true, [.trip]⟩ := by decide +kernel

/-- The pacing reply begins with a directive waiting, with none, and while a reset is awaited; another reply begins. -/
theorem witness_pacing :
    let r : Reply := ⟨0, 1, 4, .done, .empty⟩
    let s := fun p w q => (base.setNotices { base.notices with transmitter := some (.reply r) }).setProcessor
      { base.processor with replies := [r], pacing := p, resetWait := w, queue := q }
    let d : Directive := ⟨2, 2, .status⟩
    (s (some 0) false [d]).rstn = true ∧ (s (some 0) false [d]).notices.transmitter = some (.reply r) ∧
      awaitedReply (s (some 0) true [d]) (.reply r) = false ∧ (s (some 0) false [d]).processor.replies = [r] ∧
      (s (some 1) false [d]).processor.pacing = some (0 + 1) ∧ (s (some 0) false []).processor.queue = [] ∧
      (s (some 0) true [d]).processor.resetWait = true ∧ (s (some 0) false [d]).processor.queue = [d] ∧
      (s (some 0) false [d]).usedPlaces ≤ 8 ∧
      (act d (s none false [])).2.isSome = true := by decide +kernel

/-- Sample frames that are not accepted: oversize, format, unsolicited, test, late, duplicate. -/
theorem witness_sampleDiscarded :
    let set : SampleSet := { SampleSet.new 100 with contributors := ⟨true, false, false, false⟩ }
    let s := streaming.setAsm { streaming.asm with queue := [set] }
    Free s ∧ 76 < (frame 0 0 0 (List.replicate 77 0)).channels.length ∧ 3 < (frame 4 0 0 [0]).source.toNat ∧
      (frame 0 0 0 []).channels.length = 0 ∧ 8 < (frame 0 0 0 (List.replicate 9 0)).channels.length ∧
      4095 < (frame 0 4096 0 [0]).tag.toNat ∧ index4? (frame 3 0 0 [0]).source = some .i3 ∧
      (s.asm.sources.get .i3).alignment = .disabled ∧ (s.asm.sources.get .i0).alignment ≠ .disabled ∧
      (frame 0 100 0x80 [0]).status.getLsbD 7 = true ∧ s.asm.expected = some 100 ∧
      2048 ≤ tagDistance 100 ((frame 0 2148 0 [0]).tag.setWidth 12) ∧
      tagDistance 100 ((frame 0 100 0 [0]).tag.setWidth 12) ≤ 7 ∧ isDuplicate 100 .i0 s.asm.queue = true :=
  ⟨⟨rfl, rfl⟩, by decide +kernel⟩

/-- Accepted sample frames: from an unset expected tag, and at the far end of the window with no release due. -/
theorem witness_sampleAccepted :
    let two := streaming.setSource .i1 { SourceRec.initial with alignment := .aligned }
    let f := frame 1 102 0 [1, 2]
    Free two ∧ index4? f.source = some .i1 ∧ 1 ≤ f.channels.length ∧ f.channels.length ≤ 8 ∧ f.tag.toNat ≤ 4095 ∧
      (two.asm.sources.get .i1).alignment ≠ .disabled ∧ f.status.getLsbD 7 = false ∧ two.asm.expected = some 100 ∧
      tagDistance 100 (f.tag.setWidth 12) ≤ 7 ∧ isDuplicate (f.tag.setWidth 12) .i1 two.asm.queue = false ∧
      two.params.statusSource ≠ .i1 ∧
      (completeSets (closeSets 100 102 (placeFrame 100 102 .i1 f.channels two.received))).releaseDue = false ∧
      base.asm.expected = none ∧ base.asm.queue = [] := ⟨⟨rfl, rfl⟩, by decide +kernel⟩

/-- Frames of an ALIGNED source at both ends of each range of distances, and from an unset expected tag. -/
theorem witness_distances :
    let s := base.setSource .i0 { SourceRec.initial with alignment := .aligned }
    Free streaming ∧ Free s ∧ s.asm.expected = none ∧ (s.asm.sources.get .i0).alignment ≠ .disabled ∧
      streaming.asm.expected = some 100 ∧
      (∀ p ∈ [(7, 107), (8, 108), (63, 163), (64, 164), (2047, 2147)], let f := frame 0 p.2 0 [0]
        (f.tag.setWidth 12 - (100 : Tag)).toNat = p.1 ∧ index4? f.source = some .i0 ∧ f.channels.length = 1 ∧
          f.tag.toNat ≤ 4095 ∧ f.status.getLsbD 7 = false) ∧
      (forceReleases 1 streaming).asm.expected = some 101 ∧
      (discontinuity 164 .i0 streaming).asm.expected = some 164 := ⟨⟨rfl, rfl⟩, ⟨rfl, rfl⟩, by decide +kernel⟩

/-- Acceptance: a duplicate; a frame of the status source, and one of another, that are none. -/
theorem witness_acceptance :
    let s := streaming.setAsm { streaming.asm with queue :=
      [{ SampleSet.new 101 with contributors := ⟨true, false, false, false⟩ }] }
    isDuplicate 101 .i0 s.asm.queue = true ∧ isDuplicate 101 .i1 s.asm.queue = false ∧
      isDuplicate 102 .i0 s.asm.queue = false ∧ s.params.statusSource = .i0 ∧ s.params.statusSource ≠ .i1 := by
  decide +kernel

theorem streaming_assembly : AssemblyInv (streaming.setAsm { streaming.asm with queue := [SampleSet.new 102] }) := by
  refine ⟨fun h => absurd h (by decide +kernel), fun e h => ?_, fun e h => ?_⟩ <;>
    (cases (Option.some.inj h : (100 : Tag) = e); decide +kernel)

/-- Placement at both ends of the window, into a set and between sets; a set that waits and one that does not. -/
theorem witness_placement :
    let s := streaming.setAsm { streaming.asm with queue := [SampleSet.new 102] }
    s.asm.expected = some 100 ∧ ((100 : Tag) - 100).toNat ≤ 7 ∧ ((107 : Tag) - 100).toNat ≤ 7 ∧
      (s.asm.sources.get .i0).alignment = .aligned ∧
      ({ SourceRec.initial with alignment := .lost } : SourceRec).alignment = .lost ∧
      (SampleSet.new 102).state = .opened ∧ (SampleSet.new 102).contributors.get .i0 = false ∧
      s.asm.queue[0]? = some (SampleSet.new 102) := by decide +kernel

/-- A miss below the limit and at it; a source that contributed, and one that is not ALIGNED; a release due for a closed
set, and for a gap ASSEMBLY_DEPTH long, and not due one tag before. -/
theorem witness_misses :
    let r : SourceRec := { SourceRec.initial with alignment := .aligned, missRun := 6 }
    let s := fun l => streaming.setAsm { streaming.asm with queue := l }
    bump255 r.missRun < r.missLimit ∧ r.missLimit ≤ bump255 7 ∧ SourceRec.initial.alignment ≠ .aligned ∧
      (s [{ SampleSet.new 100 with state := .closed }]).releaseDue = true ∧ (s [SampleSet.new 100]).releaseDue = false ∧
      (s [SampleSet.new 103]).releaseDue = true ∧ (s [SampleSet.new 102]).releaseDue = false ∧
      base.asm.expected = none := by decide +kernel

/-- A release, and the window of a quantity by its map entry, its value and the policy of its source. -/
theorem witness_release : streaming.asm.expected = some 100 ∧ Window.cleared.entries.length = 64 ∧
    (SourceRec.initial).policy = .mark ∧ ({ SourceRec.initial with policy := .hold, holdLimit := 1 } : SourceRec).policy = .hold ∧
    ({ Window.cleared with lastValid := some 5 } : Window).heldRun < 1 ∧ Window.cleared.lastValid = none ∧
    1 ≤ ({ Window.cleared with lastValid := some 5, heldRun := 1 } : Window).heldRun := by decide +kernel

theorem witness_silence : Free (base.setAsm { base.asm with silence := some 2 }) ∧ base.asm.silence = none ∧
    (base.setAsm { base.asm with silence := some 2 }).asm.silence = some 2 ∧ 2 ≤ 2 ∧
    (base.setAsm { base.asm with silence := some 1 }).asm.silence = some 1 := ⟨⟨rfl, rfl⟩, by decide +kernel⟩

/-- Tracker events: a POS event with 48 valid entries, a synthesized one, and no event. -/
theorem witness_crossing :
    let t : Tracker := { Tracker.initial with
      state := .locked, halfPeriod := 8192, expectedPolarity := some .pos, risingArmed := true
      lastCrossing := some ⟨0, 0, true⟩ }
    let hits := (trackerStep .ab 256 (List.replicate 48 ⟨some 0, false⟩) 32 t)
    let misses := (trackerStep .ab 256 [] 34 t)
    hits.2 = some ⟨.ab, .pos, 1, 32, false, true⟩ ∧ misses.2 = some ⟨.ab, .pos, 1, 32, true, false⟩ ∧
      (trackerStep .ab 256 [] 33 t).2 = none := by decide +kernel

/-- A tracker's step: its state changes without an event and with one; an event without a magnitude; and neither. -/
theorem witness_runTracker :
    let w : Window := ⟨List.replicate 64 ⟨some 0, false⟩, none, 0⟩
    let t : Tracker := { Tracker.initial with
      state := .locked, halfPeriod := 8192, expectedPolarity := some .pos, risingArmed := true
      lastCrossing := some ⟨0, 0, true⟩ }
    let s := fun (x : Window) (t : Tracker) => (base.setAsm { base.asm with
      windows := base.asm.windows.set .vab x }).setTrackers (base.trackers.set .ab t)
    let r := fun tag x t => (s x t).trackerResult tag .ab
    (r 38 .cleared { t with state := .capturing }).1.state = .unlocked ∧
      (r 38 .cleared { t with state := .capturing }).2 = none ∧
      (r 32 w t).1.state = t.state ∧ (r 32 w t).2 = some ⟨.ab, .pos, 1, 32, false, true⟩ ∧
      (r 34 .cleared t).1.state = .holdover ∧ (r 34 .cleared t).2 = some ⟨.ab, .pos, 1, 32, true, false⟩ ∧
      (r 33 .cleared t).1.state = t.state ∧ (r 33 .cleared t).2 = none ∧
      (base.trackers.get .ab).state = .unlocked := by decide +kernel

/-- A detection: an invalid entry; a rise, whose fraction is interpolated; a fall without an entry before it. -/
theorem witness_detection :
    let t : Tracker := { Tracker.initial with risingArmed := true, fallingArmed := true }
    detect 256 [⟨none, false⟩] t = (none, t) ∧
      (detect 256 [⟨some 100, false⟩, ⟨some (-300), false⟩] t).1 = some ⟨.pos, 192⟩ ∧
      (detect 256 [⟨some (-1), false⟩] t).1 = some ⟨.neg, 0⟩ := by decide +kernel

/-- Detections at both bounds of a good half-period and of the acceptance window, and one beyond each. -/
theorem witness_takeDetection :
    let t := fun st (c : Crossing) => ({ Tracker.initial with
      state := st, history := [8192, 8192, 8192], expectedPolarity := some .pos, lastCrossing := some c } : Tracker)
    (Crossing.mk 0 0 true).elapsed 29 0 = 7424 ∧ (Crossing.mk 0 0 true).elapsed 35 0 = 8960 ∧
      (Crossing.mk 0 0 true).elapsed 35 1 = 8961 ∧ (Crossing.mk 0 0 true).elapsed 30 0 = 8192 - 512 ∧
      (Crossing.mk 0 0 true).elapsed 34 0 = 8192 + 512 ∧ (Crossing.mk 0 1 true).elapsed 30 0 < 8192 - 512 ∧
      (takeDetection .ab [] 29 ⟨.pos, 0⟩ (t .capturing ⟨0, 0, true⟩)).2 = some ⟨.ab, .pos, 1, 29, false, false⟩ ∧
      (takeDetection .ab [] 34 ⟨.pos, 0⟩ (t .locked ⟨0, 0, true⟩)).2 = some ⟨.ab, .pos, 1, 34, false, false⟩ ∧
      (takeDetection .ab [] 30 ⟨.pos, 0⟩ (t .holdover ⟨0, 1, false⟩)).2 = none ∧
      (t .locked ⟨0, 0, true⟩).expectedPolarity ≠ some Polarity.neg ∧
      (t .locked ⟨0, 0, true⟩).expectedPolarity = some (Polarity.neg).opposite ∧
      Tracker.initial.state = .unlocked := by decide +kernel

/-- Deadlines at their last tag and one tag later, in CAPTURING, LOCKED and HOLDOVER with counts 1 and 2. -/
theorem witness_deadline :
    let t := fun st n => ({ Tracker.initial with
      state := st, holdoverCount := n, expectedPolarity := some .pos, lastCrossing := some ⟨0, 0, true⟩ } : Tracker)
    (256 * 36 + 256 - 0 : Int) ≤ 9472 ∧ (9472 : Int) < 256 * 37 + 256 - 0 ∧ (256 * 33 + 256 - 0 : Int) ≤ 8192 + 512 ∧
      (deadlineStage .ab [] 36 (t .capturing 0)) = (t .capturing 0, none) ∧
      (deadlineStage .ab [] 37 (t .capturing 0)) = ((t .capturing 0).unlock, none) ∧
      (deadlineStage .ab [] 34 (t .holdover 2)) = ((t .holdover 2).unlock, none) ∧
      (deadlineStage .ab [] 34 (t .holdover 1)).2 = some ⟨.ab, .pos, 1, 32, true, false⟩ := by decide +kernel

theorem witness_demandLimits : (0 : Int) ≤ 4095 ∧ (-1 : Int) < 0 ∧ (4095 : Int) < 4096 ∧ (-128 : Int) ≤ 127 ∧
    released.control.release = .released ∧ base.control.release ≠ .released ∧
    released.tables.active[(4095 : Nat) / 8]? = some 8192 ∧
    (released.setTables { released.tables with active := [6120] }).tables.active[(7 : Nat) / 8]? = some 6120 := by
  decide +kernel

/-- The limits of the demand: a raw demand of 4095 and 0, and beyond them; windows with and without too many invalid
entries; both cases of the gap policy; a POS event with its magnitude. -/
theorem witness_formation :
    let good : Window := { Window.cleared with entries := List.replicate 64 ⟨some 1, false⟩ }
    let s := base.setAsm { base.asm with windows := ⟨good, good, good, good, good, good, .cleared, .cleared, .cleared⟩ }
    (0 : Nat) < 32 ∧ (31 : Nat) < 32 ∧ (s.asm.windows.get Branch.ab.currents.1).entries[31]? = some ⟨some 1, false⟩ ∧
      s.demandForms .ab = true ∧ base.demandForms .ab = false ∧ s.load2Takes .ab = false ∧ s.secondLoadMapped = false ∧
      s.substituted .ab = false ∧ s.params.gapPolicy ≠ .repeatLast ∧
      (CrossingEvent.mk .ab .pos 1 0 false true).magnitudeUpdated = true := by decide +kernel

/-- A crossing event with a full send queue, with an idle transmitter, and with a gap that brings the count to its limit
and one that does not. -/
theorem witness_demandEventQueue :
    let full := base.setExchange { base.exchange with
      queue := List.replicate 8 (.bank .i0 .close), transmitter := some ⟨.bank .i0 .close, false⟩ }
    8 ≤ full.exchange.queue.length ∧ base.exchange.queue.length < 8 ∧ base.exchange.transmitter = none ∧
      (5 : Nat) < 255 ∧ base.params.gapLimit ≤ 5 + 1 ∧ 4 + 1 < base.params.gapLimit ∧
      (base.demandResult .ab).flags.notFormed = true := by decide +kernel

/-- A crossing event at the Demand Unit: in QUIESCENT; with room behind a transmission and no gap trip due. -/
theorem witness_demandEvent :
    let s := base.setExchange { base.exchange with transmitter := some ⟨.bank .i0 .close, false⟩ }
    (ctl fun c => { c with mode := .quiescent }).control.mode = .quiescent ∧ s.control.mode ≠ .quiescent ∧
      s.exchange.queue.length < 8 ∧ s.exchange.transmitter.isSome = true ∧ s.gapTripDue .ab = false := by decide +kernel

/-- Completions at the V port: idle; of an order of age 3, of a disowned order, of an order of age 4, of a bank order. -/
theorem witness_completion :
    let s := fun f d => (base.setTracker .ab { Tracker.initial with h := 54 }).setExchange
      { base.exchange with transmitter := some ⟨f, d⟩ }
    Free (s (.order (order 51 6080)) false) ∧ base.exchange.transmitter = none ∧
      (s (.order (order 51 6080)) false).exchange.transmitter = some ⟨.order (order 51 6080), false⟩ ∧
      (((s (.order (order 51 6080)) false).trackers.get (order 51 6080).branch).h - (order 51 6080).h).toNat ≤ 3 ∧
      3 < (((s (.order (order 50 6080)) false).trackers.get (order 50 6080).branch).h - (order 50 6080).h).toNat ∧
      (s (.bank .i0 .close) false).exchange.transmitter = some ⟨.bank .i0 .close, false⟩ := ⟨⟨rfl, rfl⟩, by decide +kernel⟩

/-- The deadline check: an order 12 sets old and one 11 sets old; the gaps that reach the limit. -/
theorem witness_deadlineCheck :
    let q := [VFrame.order (order 1 6080), .bank .i0 .close]
    let s := base.setExchange { base.exchange with queue := q, transmitter := some ⟨.bank .i0 .close, false⟩ }
    (deadlineCheck 11 s).exchange.queue = q ∧ (deadlineCheck 12 s).exchange.queue = [.bank .i0 .close] ∧
      ((deadlineCheck 12 s).demand.get .ab).gapCount = 1 ∧ (s.exchangeRec .ab).counters.late + 1 ≤ 65535 ∧
      (s.demand.get .ab).gapCount + 1 ≤ 255 ∧
      (s.setParams { s.params with gapLimit := 1 }).params.gapLimit ≤ (s.demand.get .ab).gapCount + 1 := by decide +kernel

/-- Ageing: an entry four half-cycles old and one three old; timeouts that reach the limit and that do not. -/
theorem witness_ageing :
    let ev : CrossingEvent := ⟨.ab, .pos, 54, 0, false, false⟩
    ((waiting 6080).exchangeRec ev.branch).outstanding = [⟨51, .neg, 6200⟩, ⟨50, .pos, 6080⟩] ∧
      4 ≤ (ev.h - 50).toNat ∧ (ev.h - 51).toNat ≤ 3 ∧ 0 + 1 < base.params.timeoutLimit ∧
      base.params.timeoutLimit ≤ 2 + 1 ∧ (Branch.ab ≠ .bc) := by decide +kernel

/-- A list of ages 3, 2, 1 and 0. -/
theorem witness_ages :
    let l : List Outstanding := [⟨254, .pos, 0⟩, ⟨255, .neg, 0⟩, ⟨0, .pos, 0⟩, ⟨1, .neg, 0⟩]
    (∀ e ∈ l, ((1 : HalfCycle) - e.h).toNat ≤ 3) ∧ l.map (fun e => ((1 : HalfCycle) - e.h).toNat) = [3, 2, 1, 0] ∧
      l.length ≤ 4 := by decide +kernel

/-- Readiness: a report that makes the third branch ready, and one that leaves valve ready as it stands. -/
theorem witness_readiness :
    let r : ExchangeRec := { ExchangeRec.initial with ready := true }
    let s := base.setExchange { base.exchange with branches := ⟨.initial, r, r⟩ }
    (s.setExchangeRec .ab { s.exchangeRec .ab with ready := true }).allReady ≠ s.allReady ∧
      (s.setExchangeRec .bc { s.exchangeRec .bc with ready := false }).allReady = s.allReady ∧ Free s :=
  ⟨by decide +kernel, by decide +kernel, ⟨rfl, rfl⟩⟩

/-- Valve reports: of bad format; in QUIESCENT; stray; matching a real angle and matching BLOCK. -/
theorem witness_valveReport :
    let at6080 := waiting 6080
    Free at6080 ∧ valveReport? (report 0 4095) = none ∧ valveReport? (report 4 0) = none ∧
      valveReport? (report 0 4096) = some ⟨.ab, .pos, 50, .fired, 4096, false, 7⟩ ∧
      valveReport? (report 0 8191) = some ⟨.ab, .pos, 50, .fired, 8191, false, 7⟩ ∧
      valveReport? (report 2 0) = some ⟨.ab, .pos, 50, .notFired, 0, false, 7⟩ ∧
      valveReport? (report 3 0) = some ⟨.ab, .pos, 50, .fault, 0, false, 7⟩ ∧
      (ctl fun c => { c with mode := .quiescent }).control.mode = .quiescent ∧ at6080.control.mode ≠ .quiescent ∧
      false = (at6080.exchangeRec .ab).ready ∧ (base.exchangeRec .ab).outstanding = [] ∧
      (at6080.exchangeRec .ab).outstanding = [⟨51, .neg, 6200⟩] ++ ⟨50, .pos, 6080⟩ :: [] ∧
      ((waiting 8192).exchangeRec .ab).outstanding = [⟨51, .neg, 6200⟩] ++ ⟨50, .pos, 8192⟩ :: [] ∧
      (∀ x ∈ [Outstanding.mk 51 .neg 6200], ¬(x.h = 50 ∧ x.polarity = .pos)) ∧
      ((4144 : Int) - 4080).natAbs ≤ at6080.params.angleTolerance ∧
      (at6080.params.angleTolerance : Nat) < ((8191 : Int) - 6080).natAbs ∧
      bump255 (at6080.exchangeRec .ab).misfireRun < at6080.params.misfireLimit ∧ bump255 2 = at6080.params.misfireLimit ∧
      at6080.params.misfireLimit ≤ bump255 255 := ⟨⟨rfl, rfl⟩, by decide +kernel⟩

/-- Bank status frames: out of list; each status against each state. -/
theorem witness_bankStatus : 3 < (4 : Byte).toNat ∧ 2 < (3 : Byte).toNat ∧ index4? 0 = some .i0 ∧
    bankStatus? 0 = some .closed ∧ bankStatus? 1 = some .opened ∧ bankStatus? 2 = some .failed ∧
    ∀ st ∈ [BankState.absent, .out, .closing, .inService, .opening, .discharging, .faulted],
      (bank st).rstn = true ∧ (bank st).processor.queue = [] ∧ ((bank st).bankRec .i0).state = st := by decide +kernel

theorem witness_bankForce : Ready (bank .out) ∧ Ready (bank .inService) ∧ Ready (bank .opening) ∧
    (bank .opening).anyTransitional = true ∧ (bank .out).anyTransitional = false ∧
    ((bank .out).bankRec .i0).state = .out ∧ ((bank .inService).bankRec .i0).state = .inService ∧
    bankAction? 0 = some .close ∧ bankAction? 1 = some .opening ∧ 1 < (2 : Byte).toNat ∧
    ((bank .out).setExchange { base.exchange with
      transmitter := some ⟨.bank .i1 .close, false⟩ }).exchange.transmitter.isSome = true :=
  ⟨ready_bank _, ready_bank _, ready_bank _, by decide +kernel⟩

/-- A bank order with an idle transmitter; with a queue full of bank orders; and with one that has an order to displace,
formed and not formed. -/
theorem witness_bankOrder :
    let full := fun q => base.setExchange { base.exchange with
      queue := q, transmitter := some ⟨.bank .i1 .close, false⟩ }
    let banks := full (List.replicate 8 (.bank .i0 .close))
    let mixed := full (List.replicate 6 (.bank .i0 .close) ++ .order (order 1 6080) :: [.bank .i0 .close])
    base.exchange.transmitter = none ∧ base.exchange.queue = [] ∧ 8 ≤ banks.exchange.queue.length ∧
      (∀ f ∈ banks.exchange.queue, f.isBank = true) ∧ 8 ≤ mixed.exchange.queue.length ∧
      mixed.exchange.queue = List.replicate 6 (.bank .i0 .close) ++ .order (order 1 6080) :: [.bank .i0 .close] ∧
      (order 1 6080).flags.notFormed = false ∧ (mixed.demand.get .ab).gapCount + 1 < mixed.params.gapLimit ∧
      (mixed.setParams { mixed.params with gapLimit := 1 }).params.gapLimit ≤ (mixed.demand.get .ab).gapCount + 1 := by
  decide +kernel

theorem one_transitional_closing : OneTransitional (bank .closing) := by
  intro n m hn hm
  cases n <;> cases m <;> first | rfl | (revert hn hm; decide)

/-- Running timers, for the expiries and for the local tick. -/
theorem witness_timers : Free base ∧ Free (bank .closing) ∧ OneTransitional (bank .closing) ∧
    ((bank .closing).bankRec .i0).state.transitional = true ∧ ((bank .closing).bankRec .i0).confirmTimer = some 1 ∧
    ((bank .discharging).bankRec .i0).state = .discharging ∧
    (ctl fun c => { c with dipState := .timing, dipCount := 1 }).control.dipState = .timing ∧
    (ctl fun c => { c with blanking := ⟨.pending, 1, 5⟩ }).control.blanking.state = .pending ∧
    (ctl fun c => { c with blanking := ⟨.active, 1, 5⟩ }).control.blanking.state = .active :=
  ⟨free_base, ⟨rfl, rfl⟩, one_transitional_closing, by decide +kernel⟩

theorem witness_localTick :
    let r : BankRec := { BankRec.initial with state := .discharging, dischargeTimer := some 2 }
    let c : BankRec := { BankRec.initial with state := .closing, confirmTimer := some 2 }
    let s := base.setBanks { base.banks with banks := ⟨r, c, .initial, .initial⟩, dwell := some 2 }
    Free s ∧ (s.bankRec .i0).dischargeTimer = some 2 ∧ (s.bankRec .i0).state = .discharging ∧
      (s.bankRec .i1).state.transitional = true ∧ (s.bankRec .i1).confirmTimer = some 2 ∧
      s.confirmationExpires = false ∧ s.banks.dwell = some 2 ∧
      2 ≤ (ctl fun c => { c with dipState := .timing, dipCount := 2 }).control.dipCount ∧
      (ctl fun c => { c with blanking := ⟨.pending, 1, 5⟩ }).control.blanking.count = 1 := ⟨⟨rfl, rfl⟩, by decide +kernel⟩

/-- The order of a local tick: a pulse that becomes ACTIVE while firing is released; at 2, and while HELD. -/
theorem witness_tickOrder :
    let s := fun n => released.setControl { released.control with blanking := ⟨.pending, n, 5⟩ }
    Free (s 1) ∧ Free base ∧ (s 1).control.blanking.state = .pending ∧ (s 1).control.blanking.count ≤ 1 ∧
      (s 1).control.release = .released ∧ ¬((s 2).control.blanking.count ≤ 1) ∧ base.control.release ≠ .released ∧
      base.control.dipState ≠ .timing := ⟨⟨rfl, rfl⟩, free_base, by decide +kernel⟩

/-- R121, R125: a local tick runs automatic switching: at the threshold the bank that is OUT is ordered to close. -/
theorem test_localTick_switches :
    let d := ({ DemandRec.initial with clamp := -96 } : DemandRec)
    let s := ((((bank .out).setControl { base.control with release := .released }).setParams
      { base.params with autoBanks := true }).setDemand ⟨d, .initial, .initial⟩)
    ((after (exec .localTick s)).bankRec .i0).state = .closing ∧
      (after (exec .localTick s)).exchange.transmitter = some ⟨.bank .i0 .close, false⟩ := by decide +kernel

/-- Timers at 1 at a local tick: each stage of the Bank Controller, the dip monitor and both ends of a blanking pulse. -/
theorem witness_localTickAtOne :
    let r : BankRec := { BankRec.initial with state := .discharging, dischargeTimer := some 1 }
    let s := base.setBanks { base.banks with banks := ⟨r, .initial, .initial, .initial⟩, dwell := some 1 }
    Free s ∧ (s.bankRec .i0).state = .discharging ∧ (s.bankRec .i0).dischargeTimer = some 1 ∧ s.banks.dwell = some 1 ∧
      s.confirmationExpires = false ∧ (bank .closing).confirmationExpires = true ∧
      ((bank .closing).bankRec .i0).confirmTimer = some 1 ∧
      (ctl fun c => { c with dipState := .timing, dipCount := 1 }).control.dipCount = 1 ∧
      (ctl fun c => { c with blanking := ⟨.active, 1, 5⟩ }).control.blanking.count = 1 ∧
      2 ≤ (ctl fun c => { c with blanking := ⟨.active, 2, 5⟩ }).control.blanking.count ∧
      (s.bankRec .i1).state ≠ .discharging ∧ (s.bankRec .i1).state.transitional = false := ⟨⟨rfl, rfl⟩, by decide +kernel⟩

/-- Automatic switching: at both thresholds, one short of each, and with no bank to switch. -/
theorem witness_autoSwitch :
    let d := fun x => ({ DemandRec.initial with clamp := x } : DemandRec)
    let s := fun x st => ((bank st).setControl { base.control with release := .released }).setParams
      { base.params with autoBanks := true } |>.setDemand ⟨d x, d 0, d 0⟩
    (s (-96) .out).switchingEvaluated = true ∧ (s (-96) .out).clampSum ≤ -(base.params.bankInThreshold : Int) ∧
      -(base.params.bankInThreshold : Int) < (s (-95) .out).clampSum ∧
      (base.params.bankOutThreshold : Int) ≤ (s 96 .inService).clampSum ∧
      (s 95 .inService).clampSum < base.params.bankOutThreshold ∧ ((s (-96) .out).bankRec .i0).state = .out ∧
      ((s 96 .inService).bankRec .i0).state = .inService ∧ ((s 96 .inService).bankRec .i3).state ≠ .inService ∧
      (∀ n ∈ Index4.all, ((s (-96) .inService).bankRec n).state ≠ .out) ∧ base.switchingEvaluated = false := by
  decide +kernel

/-- Received bytes: too long; too short; a wrong code; an unknown kind; a wrong length; and one frame of each kind. -/
theorem witness_bytes :
    let passes := fun (b : List Byte) => decide (b.drop (b.length - 2) = halfBytes (checkCode (b.take (b.length - 2))))
    160 < (List.replicate 161 (0 : Byte)).length ∧ ([0, 0] : List Byte).length < 3 ∧ passes [0, 0, 0] = false ∧
      passes (withCheckCode [0xB1]) = true ∧ (withCheckCode [0xB1]).length = 3 ∧
      (withCheckCode [0xB1]).head? ≠ some 0xA1 ∧ passes (withCheckCode [0xA1]) = true ∧
      (withCheckCode [0xA1])[5]? = none ∧ passes (withCheckCode [0xA1, 0, 0, 1, 0, 1, 0, 5]) = true ∧
      (withCheckCode [0xA1, 0, 0, 1, 0, 1, 0, 5]).length = 10 ∧ passes (withCheckCode [0xA2, 0, 1, 1, 0]) = true ∧
      (withCheckCode [0xA2, 0, 1, 1, 0]).length = 7 ∧ passes (withCheckCode [0xD1, 0, 0, 1, 1, 0, 0, 1, 0]) = true ∧
      (withCheckCode [0xD1, 0, 0, 1, 1, 0, 0, 1, 0]).length = 11 ∧ passes (withCheckCode [0xD2, 0, 0, 0]) = true ∧
      (withCheckCode [0xD2, 0, 0, 0]).length = 6 := by decide +kernel

theorem base_bank_range : ∀ a ∈ TableStore.blockBank, 4096 ≤ a ∧ a ≤ Config.blockAngle := by
  intro a h
  simp [TableStore.blockBank] at h
  simp [h, Config.blockAngle]

/-- The state after reset, and the idle step from it, meet what the statements about every step ask for. -/
theorem witness_invariants : TablesInv base ∧ StationInv base ∧ SendInv base ∧ ModeInv base ∧ BlockedInv base ∧
    OneTransitional base ∧ CaptureInv base ∧ WindowsFull base ∧ AssemblyInv base ∧ AgesInv base ∧ step base = .next base := by
  have shape : BankShape TableStore.blockBank := ⟨by decide +kernel, base_bank_range⟩
  have level : NonIncreasing TableStore.blockBank := by unfold NonIncreasing; decide +kernel
  refine ⟨⟨shape, shape, level, fun _ => level, fun _ h => by cases h⟩,
    ⟨by decide +kernel, by decide +kernel, fun n h => (by cases n <;> cases h), .inr ⟨rfl, rfl⟩⟩,
    ⟨by decide +kernel, fun _ => rfl⟩, ⟨fun h => absurd rfl h, by decide +kernel⟩,
    ⟨fun _ b => (by cases b <;> rfl), fun _ b => (by cases b <;> rfl), fun _ _ h => (by cases h), fun _ => rfl⟩,
    fun n _ h => (by cases n <;> cases h), ⟨by decide +kernel, by decide +kernel, fun h => (by cases h)⟩,
    fun q => (by cases q <;> rfl), ⟨fun _ => rfl, fun _ h => (by cases h), fun _ h => (by cases h)⟩,
    fun b _ h => (by cases b <;> cases h), rfl⟩

theorem witness_parameters : ParamsInv base := by
  refine ⟨fun p => ?_, Nat.le_refl 0⟩
  cases p with
  | loadGain b | load2Gain b | bias b | angleOffset b => cases b <;> rfl
  | _ => rfl

end Sys2Proof.Tests
end

section
/-! Directives answered at once, and what the station's side of a step leaves of a property of the rest of the state. -/

namespace Sys2Proof.Machine

/-! ## The state in which a directive acts -/

@[simp] theorem taken_params (s : State) : s.taken.params = s.params := rfl
@[simp] theorem taken_asm (s : State) : s.taken.asm = s.asm := rfl
@[simp] theorem taken_trackers (s : State) : s.taken.trackers = s.trackers := rfl
@[simp] theorem taken_demand (s : State) : s.taken.demand = s.demand := rfl
@[simp] theorem taken_tables (s : State) : s.taken.tables = s.tables := rfl
@[simp] theorem taken_exchange (s : State) : s.taken.exchange = s.exchange := rfl
@[simp] theorem taken_banks (s : State) : s.taken.banks = s.banks := rfl
@[simp] theorem taken_control (s : State) : s.taken.control = s.control := rfl
@[simp] theorem taken_capture (s : State) : s.taken.capture = s.capture := rfl
@[simp] theorem taken_notices (s : State) : s.taken.notices = s.notices := rfl
@[simp] theorem taken_straps (s : State) : s.taken.straps = s.straps := rfl
@[simp] theorem taken_replies (s : State) : s.taken.processor.replies = s.processor.replies := rfl

/-- R175: the parked condition is that of the mode and the release state. -/
theorem parked_iff (s : State) : s.parked = true ↔ s.control.mode ≠ .run ∧ s.control.release = .held := by
  simp [State.parked]

/-- A directive row whose directive is taken at once ends with its answer appended and the arbiter served. -/
theorem exec_answered {i : Instr} {s : State} {tag kind : Byte} {length : Nat} {r : Request} {u : State}
    {code : ResultCode} {data : ReplyData} (h : Ready s)
    (hi : exec i s = whileReleased s (directiveArrives s.unitByte tag kind length r))
    (hl : length ≤ Config.frameLimit) (hr : r.answeredAfter = false)
    (ha : act ⟨tag, kind, r⟩ s.taken = (u, some (code, data))) :
    ∃ t, exec i s = .next t ∧ Settled (u.replied tag kind code data) t :=
  ⟨_, hi.trans (whileReleased_high h.high _), directive_settled s tag kind length r u code data h hl ha hr⟩

/-- A command that arrives while no directive waits ends with the arbiter served after its own work. -/
theorem exec_settled {i : Instr} {s : State} {f : State → State} (h : s.rstn = true)
    (hi : exec i s = whileReleased s fun s => settle (f s)) (hq : (f s).processor.queue = []) :
    ∃ t, exec i s = .next t ∧ Settled (f s) t :=
  ⟨_, hi.trans (whileReleased_high h _), settle_settled _ hq⟩

/-! ## Properties that the station's side does not touch -/

/-- The property does not rest on the count of free values, the ports, the Directive Processor or the Notice Unit. -/
structure StationFree (P : State → Prop) : Prop where
  free : ∀ s k, P s → P { s with freeCount := k }
  ports : ∀ s x, P s → P (s.setPorts x)
  processor : ∀ s x, P s → P (s.setProcessor x)
  notices : ∀ s x, P s → P (s.setNotices x)

section
variable {P : State → Prop}

theorem StationFree.beginReply (hP : StationFree P) {s : State} (h : P s) : P (beginReply s) := by
  unfold Machine.beginReply
  split
  · exact h
  · exact hP.notices _ _ (hP.processor _ _ h)

theorem StationFree.settled (hP : StationFree P) {u t : State} (ht : Settled u t) (h : P u) : P t := by
  cases ht with
  | busy _ => exact h
  | nothing _ _ => exact h
  | reply k _ _ => exact hP.free _ _ (hP.beginReply h)
  | notice k n _ _ => exact hP.free _ _ (hP.notices _ _ h)

theorem StationFree.replyTo (hP : StationFree P) (d : Directive) (code : ResultCode) (data : ReplyData) {u : State}
    (h : P u) : P (replyTo d code data u) := by
  refine hP.settled (replyTo_settled d code data u) ?_
  split
  · exact hP.processor _ _ h
  · exact hP.notices _ _ (hP.processor _ _ h)

theorem StationFree.takeHead (hP : StationFree P) (hact : ∀ d s, P s → P (act d s).1) {s : State} (h : P s) :
    P (takeHead s) := by
  unfold Machine.takeHead
  split
  · exact h
  · next d rest _ =>
    dsimp only
    have ha := hact d _ (hP.processor s { s.processor with
      queue := rest, counters := { s.processor.counters with taken := bump s.processor.counters.taken } } h)
    split
    · exact ha
    · exact hP.replyTo _ _ _ ha

theorem StationFree.takeLoop (hP : StationFree P) (hact : ∀ d s, P s → P (act d s).1) :
    ∀ (n : Nat) {s : State}, P s → P (takeLoop n s)
  | 0, _, h => h
  | n + 1, s, h => by
    unfold Machine.takeLoop
    split
    · exact StationFree.takeLoop hP hact n (hP.takeHead hact h)
    · exact h

/-- What every directive's action keeps, the end of a step keeps. -/
theorem StationFree.settle (hP : StationFree P) (hact : ∀ d s, P s → P (act d s).1) {s : State} (h : P s) :
    P (settle s) :=
  hP.takeLoop hact _ (hP.settled (offer_candidates s) h)

theorem StationFree.admission (hP : StationFree P) (unit : Byte) (d : Directive) {s : State} (h : P s) :
    P (admission unit d s) := by
  unfold Machine.admission
  dsimp only
  split
  · exact hP.processor _ _ h
  · split
    · exact hP.processor _ _ h
    · split
      · exact hP.processor _ _ (hP.processor _ _ h)
      · exact hP.processor _ _ h

theorem StationFree.receiveM (hP : StationFree P) {f : State → State} (hf : ∀ s, P s → P (f s)) (length : Nat)
    {s : State} (h : P s) : P (receiveM length f s) := by
  unfold Machine.receiveM
  split
  · exact hP.ports _ _ h
  · exact hf _ (hP.ports _ _ h)

/-- What every directive's action keeps, the arrival of a directive keeps. -/
theorem StationFree.directiveArrives (hP : StationFree P) (hact : ∀ d s, P s → P (act d s).1)
    (unit tag kind : Byte) (length : Nat) (r : Request) {s : State} (h : P s) :
    P (directiveArrives unit tag kind length r s) :=
  hP.settle hact (hP.receiveM (fun _ => hP.admission unit _) length h)

theorem StationFree.completeM (hP : StationFree P) (hact : ∀ d s, P s → P (act d s).1)
    (hfull : ∀ s, P s → P (fullReset s)) {s : State} (h : P s) : P (completeM s) := by
  have key : ∀ u, P u → P (chooseNext u) := fun u hu => by
    unfold chooseNext
    split
    · exact hu
    · split
      · split
        · exact hu
        · exact hP.notices _ _ hu
      · exact hP.beginReply hu
  unfold Machine.completeM
  split
  · exact h
  · have h1 := hP.ports _ { s.ports with m := { s.ports.m with sent := bump s.ports.m.sent } }
      (hP.notices _ { s.notices with transmitter := none } h)
    dsimp only
    split
    · exact hfull _ h1
    · exact hP.takeLoop hact _ (key _ h1)

theorem whileReleased_keeps {s t : State} {f : State → State} (hf : P s → P (f s)) (h : P s)
    (ht : whileReleased s f = .next t) : P t := by
  unfold whileReleased at ht
  split at ht <;> cases ht
  · exact hf h
  · exact h

end

end Sys2Proof.Machine
end

section
/-! The assembly queue and the windows: placement, release and the invariant of section 1. -/

namespace Sys2Proof.Machine

/-! ## Tags as distances from the expected tag (R6) -/

theorem tagDistance_inj {e t u : Tag} (h : tagDistance e t = tagDistance e u) : t = u := by
  unfold tagDistance at h
  bv_omega

theorem tagDistance_self (e : Tag) : tagDistance e e = 0 := by simp [tagDistance]

theorem tagDistance_eq_zero {e t : Tag} : tagDistance e t = 0 ↔ t = e :=
  ⟨fun h => tagDistance_inj (h.trans (tagDistance_self e).symm), fun h => h ▸ tagDistance_self e⟩

/-- Once the expected tag has advanced, every other tag is one nearer. -/
theorem tagDistance_succ {e t : Tag} (h : t ≠ e) : tagDistance (e + 1) t + 1 = tagDistance e t := by
  unfold tagDistance
  bv_omega

/-- R9: the tag a number of slots before another lies at that distance from it. -/
theorem tagDistance_advance {e t : Tag} {k : Nat} (h : k ≤ tagDistance e t) :
    tagDistance (e + BitVec.ofNat 12 k) t = tagDistance e t - k := by
  unfold tagDistance at *
  have := (t - e).isLt
  bv_omega

/-! ## The invariant (R8, R17) -/

/-- Tags in strictly rising distance from the expected tag. -/
def InTagOrder (e : Tag) (queue : List SampleSet) : Prop :=
  queue.Pairwise fun x y => tagDistance e x.tag < tagDistance e y.tag

theorem assemblyInv_iff (s : State) : AssemblyInv s ↔
    (s.asm.expected = none → s.asm.queue = []) ∧
      ∀ e, s.asm.expected = some e → (∀ x ∈ s.asm.queue, tagDistance e x.tag ≤ 7) ∧ InTagOrder e s.asm.queue := by
  have near : ∀ e, (∀ d ∈ s.queueDistances e, d ≤ 7) ↔ ∀ x ∈ s.asm.queue, tagDistance e x.tag ≤ 7 := fun e => by
    simp [State.queueDistances]
  have rising : ∀ e, (s.queueDistances e).Pairwise (· < ·) ↔ InTagOrder e s.asm.queue := fun e => by
    simp [State.queueDistances, InTagOrder, List.pairwise_map]
  constructor
  · rintro ⟨h1, h2, h3⟩
    exact ⟨h1, fun e he => ⟨(near e).mp (h2 e he), (rising e).mp (h3 e he)⟩⟩
  · rintro ⟨h1, h2⟩
    exact ⟨h1, fun e he => (near e).mpr (h2 e he).1, fun e he => (rising e).mpr (h2 e he).2⟩

theorem AssemblyInv.inTagOrder {s : State} (h : AssemblyInv s) {e : Tag} (he : s.asm.expected = some e) :
    InTagOrder e s.asm.queue := (((assemblyInv_iff s).mp h).2 e he).2

/-- The invariant of the queue rests on the expected tag and the tags of the queue alone. -/
theorem AssemblyInv.of_tags {s t : State} (h : AssemblyInv s) (he : t.asm.expected = s.asm.expected)
    (hq : t.asm.queue.map SampleSet.tag = s.asm.queue.map SampleSet.tag) : AssemblyInv t := by
  have hd : ∀ e, t.queueDistances e = s.queueDistances e := fun e => by
    have : ∀ u : State, u.queueDistances e = (u.asm.queue.map SampleSet.tag).map (tagDistance e) := fun u => by
      simp [State.queueDistances]
    rw [this, this, hq]
  refine ⟨fun hn => ?_, fun e hn => ?_, fun e hn => ?_⟩
  · have h0 := h.unset (he ▸ hn)
    rw [h0] at hq
    simpa using hq
  · exact hd e ▸ h.near e (he ▸ hn)
  · exact hd e ▸ h.rising e (he ▸ hn)

theorem AssemblyInv.of_empty {t : State} (hq : t.asm.queue = []) : AssemblyInv t := by
  refine ⟨fun _ => hq, fun e _ => ?_, fun e _ => ?_⟩ <;> simp [State.queueDistances, hq]

/-- R8, R17: what every step keeps of the assembler. -/
structure AssemblySound (s : State) : Prop where
  inv : AssemblyInv s
  full : WindowsFull s

theorem AssemblySound.of_tags {s t : State} (h : AssemblySound s) (he : t.asm.expected = s.asm.expected)
    (hq : t.asm.queue.map SampleSet.tag = s.asm.queue.map SampleSet.tag) (hw : t.asm.windows = s.asm.windows) :
    AssemblySound t :=
  ⟨h.inv.of_tags he hq, fun q => hw ▸ h.full q⟩

theorem AssemblySound.of_asm {s t : State} (h : AssemblySound s) (ha : t.asm = s.asm) : AssemblySound t :=
  h.of_tags (by rw [ha]) (by rw [ha]) (by rw [ha])

theorem AssemblySound.of_outer {s t : State} (h : AssemblySound s) (ho : t.outer = s.outer) : AssemblySound t :=
  h.of_asm (congrArg Outer.asm ho)

/-! ## Completion and closure (R12, R13) -/

theorem completeSet_tag (sources : Four SourceRec) (x : SampleSet) : (completeSet sources x).tag = x.tag := by
  unfold completeSet
  split <;> rfl

theorem completeSet_contributors (sources : Four SourceRec) (x : SampleSet) :
    (completeSet sources x).contributors = x.contributors := by
  unfold completeSet
  split <;> rfl

theorem closeSet_tag (depth : Nat) (e placed : Tag) (x : SampleSet) : (closeSet depth e placed x).tag = x.tag := by
  unfold closeSet
  split <;> rfl

theorem completeSets_tags (s : State) :
    (completeSets s).asm.queue.map SampleSet.tag = s.asm.queue.map SampleSet.tag := by
  simp [completeSets, completeSet_tag]

theorem closeSets_tags (e placed : Tag) (s : State) :
    (closeSets e placed s).asm.queue.map SampleSet.tag = s.asm.queue.map SampleSet.tag := by
  simp [closeSets, closeSet_tag]

theorem AssemblySound.completeSets {s : State} (h : AssemblySound s) : AssemblySound (completeSets s) :=
  h.of_tags rfl (completeSets_tags s) rfl

/-! ## Miss accounting (R16) -/

/-- R16: a source's record after a release to which it did or did not contribute. -/
def SourceRec.accounted (r : SourceRec) (contributed : Bool) : SourceRec :=
  if r.alignment = .aligned then
    if contributed then { r with missRun := 0 }
    else { r with
      missRun := bump255 r.missRun
      alignment := if r.missLimit ≤ bump255 r.missRun then .lost else .aligned
      counters := { r.counters with miss := bump r.counters.miss } }
  else r

/-- R16: the accounting of one source writes source records, and may raise SOURCE. -/
theorem accountMiss_eq (contributors : Four Bool) (s : State) (n : Index4) : ∃ sources records,
    accountMiss contributors s n =
      (s.setAsm { s.asm with sources := sources }).setNotices { s.notices with records := records } := by
  unfold accountMiss
  dsimp only
  split
  · split
    · exact ⟨s.asm.sources.set n _, s.notices.records, rfl⟩
    · split
      · exact ⟨_, _, rfl⟩
      · exact ⟨s.asm.sources.set n _, s.notices.records, rfl⟩
  · exact ⟨s.asm.sources, s.notices.records, rfl⟩

/-- R16: it writes its own source's record alone. -/
theorem accountMiss_source (contributors : Four Bool) (s : State) (n m : Index4) :
    (accountMiss contributors s n).asm.sources.get m =
      if m = n then (s.asm.sources.get n).accounted (contributors.get n) else s.asm.sources.get m := by
  unfold accountMiss SourceRec.accounted
  dsimp only
  split
  · next ha =>
    split
    · exact Four.get_set _ _ _ _
    · split
      · exact Four.get_set _ _ _ _
      · rw [← ha]
        exact Four.get_set _ _ _ _
  · by_cases h : m = n <;> simp [h]

theorem accountMisses_eq (contributors : Four Bool) (s : State) : ∃ sources records,
    accountMisses contributors s =
      (s.setAsm { s.asm with sources := sources }).setNotices { s.notices with records := records } := by
  unfold accountMisses
  generalize Index4.all = l
  induction l generalizing s with
  | nil => exact ⟨s.asm.sources, s.notices.records, rfl⟩
  | cons n rest ih =>
    obtain ⟨_, _, h1⟩ := accountMiss_eq contributors s n
    obtain ⟨x, r, h2⟩ := ih (accountMiss contributors s n)
    exact ⟨x, r, by rw [List.foldl_cons, h2, h1]; rfl⟩

/-- R16: every source is accounted once. -/
theorem accountMisses_source (contributors : Four Bool) (s : State) (n : Index4) :
    (accountMisses contributors s).asm.sources.get n =
      (s.asm.sources.get n).accounted (contributors.get n) := by
  cases n <;> simp [accountMisses, Index4.all, accountMiss_source]

/-! ## A release (R15) -/

/-- R15, 1 to 4: the state in which the released-set event is raised. -/
def slotClosed (e : Tag) (forced : Bool) (s : State) : State :=
  closeSlot e (setAt e s.asm.queue).isNone forced
    (momentAfter [.source] (accountMisses (contributorsOf (setAt e s.asm.queue)) (pushWindows (setAt e s.asm.queue) s)))

theorem releaseSlot_eq {s : State} {e : Tag} (h : s.asm.expected = some e) (forced : Bool) :
    releaseSlot forced s = moment (completeSets (releasedSet e (slotClosed e forced s))) := by
  simp [releaseSlot, h, slotClosed]

theorem releaseSlot_none {s : State} (h : s.asm.expected = none) (forced : Bool) : releaseSlot forced s = s := by
  simp [releaseSlot, h]

/-- R15, R16, R17, R21: what the first steps of a release write. -/
theorem slotClosed_eq (e : Tag) (forced : Bool) (s : State) : ∃ sources notices,
    (∀ n, sources.get n = (s.asm.sources.get n).accounted ((contributorsOf (setAt e s.asm.queue)).get n)) ∧
    slotClosed e forced s = (s.setAsm { s.asm with
      sources := sources
      windows := .ofFn fun q => pushEntry s.asm.sources (s.asm.map.get q)
        ((setAt e s.asm.queue).bind fun x => x.values.get q) (s.asm.windows.get q)
      lastReleased := some e
      expected := some (e + 1)
      queue := s.asm.queue.filter fun x => !decide (x.tag = e)
      counters := s.asm.counters.countRelease (setAt e s.asm.queue).isNone forced
      silence := if s.params.silenceLimit = 0 then none else some s.params.silenceLimit }).setNotices notices := by
  obtain ⟨sources, records, ha⟩ :=
    accountMisses_eq (contributorsOf (setAt e s.asm.queue)) (pushWindows (setAt e s.asm.queue) s)
  obtain ⟨front, hm⟩ := momentAfter_eq [.source]
    (accountMisses (contributorsOf (setAt e s.asm.queue)) (pushWindows (setAt e s.asm.queue) s))
  refine ⟨sources, ⟨records, s.notices.transmitter, front⟩, fun n => ?_, ?_⟩
  · have hn := accountMisses_source (contributorsOf (setAt e s.asm.queue)) (pushWindows (setAt e s.asm.queue) s) n
    rwa [ha] at hn
  · unfold slotClosed
    rw [hm, ha]
    rfl

theorem releasedSet_asm (tag : Tag) (s : State) : (releasedSet tag s).asm = s.asm :=
  congrArg Outer.asm (outer_releasedSet tag s)

/-- What a release leaves of the assembler: the slot closed, then the completion test. -/
theorem releaseSlot_asm {s : State} {e : Tag} (h : s.asm.expected = some e) (forced : Bool) :
    (releaseSlot forced s).asm = (completeSets (slotClosed e forced s)).asm := by
  rw [releaseSlot_eq h, moment_asm]
  simp only [completeSets, State.setAsm_asm, releasedSet_asm]

theorem releaseSlot_expected {s : State} {e : Tag} (h : s.asm.expected = some e) (forced : Bool) :
    (releaseSlot forced s).asm.expected = some (e + 1) := by
  rw [releaseSlot_asm h]
  rfl

/-- R15, 4: the released slot's set leaves the queue; the other tags stay. -/
theorem releaseSlot_tags {s : State} {e : Tag} (h : s.asm.expected = some e) (forced : Bool) :
    (releaseSlot forced s).asm.queue.map SampleSet.tag =
      (s.asm.queue.filter fun x => !decide (x.tag = e)).map SampleSet.tag := by
  obtain ⟨_, _, -, hs⟩ := slotClosed_eq e forced s
  rw [releaseSlot_asm h, completeSets_tags, hs]
  rfl

/-- R17: a push keeps the length of a full window. -/
theorem pushEntry_length (sources : Four SourceRec) (m : Option ChannelRef) (v : Option Int) {w : Window}
    (h : w.entries.length = Config.windowLength) :
    (pushEntry sources m v w).entries.length = Config.windowLength := by
  have hp : ∀ e, (w.push e).length = Config.windowLength := fun e => by simp [Window.push, h]
  unfold pushEntry
  dsimp only
  split
  · exact hp _
  · split
    · exact hp _
    · split <;> exact hp _
    · exact hp _
    · exact hp _

theorem releaseSlot_windows {s : State} {e : Tag} (h : s.asm.expected = some e) (forced : Bool) (q : Quantity) :
    (releaseSlot forced s).asm.windows.get q = pushEntry s.asm.sources (s.asm.map.get q)
      ((setAt e s.asm.queue).bind fun x => x.values.get q) (s.asm.windows.get q) := by
  obtain ⟨_, _, -, hs⟩ := slotClosed_eq e forced s
  rw [releaseSlot_asm h, hs]
  simp [completeSets]

/-- R15: a release keeps the tags in order, each one nearer to the expected tag. -/
theorem AssemblyInv.releaseSlot {s : State} (h : AssemblyInv s) (forced : Bool) :
    AssemblyInv (releaseSlot forced s) := by
  rcases he : s.asm.expected with _ | e
  · rwa [releaseSlot_none he]
  · obtain ⟨near, rising⟩ := ((assemblyInv_iff s).mp h).2 e he
    have closed : AssemblyInv (s.setAsm { s.asm with
        expected := some (e + 1), queue := s.asm.queue.filter fun x => !decide (x.tag = e) }) := by
      refine (assemblyInv_iff _).mpr ⟨nofun, fun e' he' => ?_⟩
      cases he'
      have hne : ∀ x ∈ s.asm.queue.filter (fun x => !decide (x.tag = e)), x.tag ≠ e := fun x hx => by
        simpa using List.of_mem_filter hx
      refine ⟨fun x hx => ?_, List.Pairwise.imp_of_mem (fun {x y} hx hy hlt => ?_) (rising.filter _)⟩
      · have h1 := tagDistance_succ (hne x hx)
        have h2 := near x (List.mem_of_mem_filter hx)
        omega
      · have h1 := tagDistance_succ (hne x hx)
        have h2 := tagDistance_succ (hne y hy)
        omega
    exact closed.of_tags (releaseSlot_expected he forced) (releaseSlot_tags he forced)

theorem AssemblySound.releaseSlot {s : State} (h : AssemblySound s) (forced : Bool) :
    AssemblySound (releaseSlot forced s) := by
  refine ⟨h.inv.releaseSlot forced, fun q => ?_⟩
  rcases he : s.asm.expected with _ | e
  · rw [releaseSlot_none he]
    exact h.full q
  · rw [releaseSlot_windows he]
    exact pushEntry_length _ _ _ (h.full q)

theorem AssemblySound.releaseChain : ∀ (n : Nat) {s : State}, AssemblySound s → AssemblySound (releaseChain n s)
  | 0, _, h => h
  | n + 1, s, h => by
    unfold Machine.releaseChain
    split
    · exact AssemblySound.releaseChain n (h.releaseSlot false)
    · exact h

theorem AssemblySound.releaseCheck {s : State} (h : AssemblySound s) : AssemblySound (releaseCheck s) := by
  unfold Machine.releaseCheck
  split
  · exact h
  · split
    · exact h
    · exact h.releaseChain _

theorem AssemblySound.forceReleases : ∀ (n : Nat) {s : State}, AssemblySound s → AssemblySound (forceReleases n s)
  | 0, _, h => h
  | n + 1, _, h => AssemblySound.forceReleases n (h.releaseSlot true)

/-- R9: the expected tag after a number of forced releases. -/
theorem forceReleases_expected : ∀ (n : Nat) {s : State} {e : Tag}, s.asm.expected = some e →
    (forceReleases n s).asm.expected = some (e + BitVec.ofNat 12 n)
  | 0, _, _, h => by simpa [forceReleases] using h
  | n + 1, s, e, h => by
    have e1 : e + 1 + BitVec.ofNat 12 n = e + BitVec.ofNat 12 (n + 1) := by
      rw [Nat.add_comm n 1, BitVec.ofNat_add, ← BitVec.add_assoc]
      rfl
    rw [forceReleases, forceReleases_expected n (releaseSlot_expected h true), e1]

/-! ## Placement (R7, R8) -/

theorem InTagOrder.nodup {e : Tag} {queue : List SampleSet} (h : InTagOrder e queue) {x y : SampleSet}
    (hx : x ∈ queue) (hy : y ∈ queue) (ht : x.tag = y.tag) : x = y := by
  by_contra hne
  rcases List.pairwise_iff_getElem.mp h with hp
  obtain ⟨i, hi, rfl⟩ := List.getElem_of_mem hx
  obtain ⟨j, hj, rfl⟩ := List.getElem_of_mem hy
  rcases Nat.lt_trichotomy i j with hij | hij | hij
  · have := hp i j hi hj hij
    rw [ht] at this
    omega
  · subst hij
    exact hne rfl
  · have := hp j i hj hi hij
    rw [ht] at this
    omega

/-- In a queue in tag order a set stands between those nearer and those farther. -/
theorem InTagOrder.split {e : Tag} : ∀ {queue : List SampleSet}, InTagOrder e queue → ∀ {z : SampleSet}, z ∈ queue →
    queue = queue.filter (fun x => decide (tagDistance e x.tag < tagDistance e z.tag)) ++
      z :: queue.filter (fun x => decide (tagDistance e z.tag < tagDistance e x.tag))
  | [], _, _, hz => by cases hz
  | y :: rest, h, z, hz => by
    obtain ⟨hy, hrest⟩ := List.pairwise_cons.mp h
    rcases List.mem_cons.mp hz with rfl | hz
    · have h1 : rest.filter (fun x => decide (tagDistance e x.tag < tagDistance e z.tag)) = [] := by
        simpa using fun x hx => (hy x hx).le
      have h2 : rest.filter (fun x => decide (tagDistance e z.tag < tagDistance e x.tag)) = rest := by
        simpa using hy
      simp [h1, h2]
    · have hlt := hy z hz
      have ih := InTagOrder.split hrest hz
      simp only [List.filter_cons, hlt, decide_true, if_true, Nat.lt_asymm hlt, decide_false, Bool.false_eq_true,
        if_false, List.cons_append]
      exact congrArg _ ih

/-- R8: a set with a new tag is put between those nearer and those farther. -/
theorem insertSet_split {e : Tag} {z : SampleSet} : ∀ {queue : List SampleSet}, InTagOrder e queue →
    (∀ x ∈ queue, x.tag ≠ z.tag) → insertSet e z queue =
      queue.filter (fun x => decide (tagDistance e x.tag < tagDistance e z.tag)) ++
        z :: queue.filter (fun x => decide (tagDistance e z.tag < tagDistance e x.tag))
  | [], _, _ => rfl
  | y :: rest, h, hne => by
    obtain ⟨hy, hrest⟩ := List.pairwise_cons.mp h
    have hyz : tagDistance e y.tag ≠ tagDistance e z.tag := fun k => hne y (by simp) (tagDistance_inj k)
    unfold insertSet
    by_cases hlt : tagDistance e z.tag < tagDistance e y.tag
    · have h1 : rest.filter (fun x => decide (tagDistance e x.tag < tagDistance e z.tag)) = [] := by
        simpa using fun x hx => (hlt.trans (hy x hx)).le
      have h2 : rest.filter (fun x => decide (tagDistance e z.tag < tagDistance e x.tag)) = rest := by
        simpa using fun x hx => hlt.trans (hy x hx)
      simp [hlt, Nat.lt_asymm hlt, h1, h2]
    · have hgt : tagDistance e y.tag < tagDistance e z.tag := by omega
      have ih := insertSet_split hrest fun x hx => hne x (by simp [hx])
      simp [hlt, hgt, ih]

/-- R7, R8: the queue with a set for a tag: the set that was there, or a new one, in its place. -/
theorem withSet_split {e tag : Tag} {queue : List SampleSet} (h : InTagOrder e queue) :
    ∃ z : SampleSet, z.tag = tag ∧ (z ∈ queue ∨ (∀ x ∈ queue, x.tag ≠ tag) ∧ z = .new tag) ∧
      withSet e tag queue =
        queue.filter (fun x => decide (tagDistance e x.tag < tagDistance e tag)) ++
          z :: queue.filter (fun x => decide (tagDistance e tag < tagDistance e x.tag)) := by
  unfold withSet
  by_cases hs : hasSet tag queue = true
  · obtain ⟨z, hz, ht⟩ : ∃ z ∈ queue, z.tag = tag := by simpa [hasSet] using hs
    subst ht
    exact ⟨z, rfl, .inl hz, by rw [if_pos hs]; exact h.split hz⟩
  · have hne : ∀ x ∈ queue, x.tag ≠ tag := by simpa [hasSet] using hs
    exact ⟨.new tag, rfl, .inr ⟨hne, rfl⟩, by rw [if_neg hs]; exact insertSet_split h hne⟩

/-- R7: a placement changes a set's contributors and values, not its tag. -/
theorem placeFrame_tags (e tag : Tag) (n : Index4) (channels : List Half) (s : State) :
    (placeFrame e tag n channels s).asm.queue.map SampleSet.tag =
      (withSet e tag s.asm.queue).map SampleSet.tag := by
  show List.map SampleSet.tag (List.map _ _) = _
  rw [List.map_map]
  refine List.map_congr_left fun x _ => ?_
  dsimp only [Function.comp]
  split <;> rfl

theorem AssemblyInv.placeFrame {s : State} (h : AssemblyInv s) {e tag : Tag} (he : s.asm.expected = some e)
    (hd : tagDistance e tag ≤ 7) (n : Index4) (channels : List Half) :
    AssemblyInv (placeFrame e tag n channels s) := by
  obtain ⟨near, rising⟩ := ((assemblyInv_iff s).mp h).2 e he
  have placed : AssemblyInv (s.setAsm { s.asm with queue := withSet e tag s.asm.queue }) := by
    refine (assemblyInv_iff _).mpr ⟨fun hn => absurd (he.symm.trans hn) (by simp), fun e' he' => ?_⟩
    have hee : e = e' := Option.some.inj (he.symm.trans he')
    subst hee
    obtain ⟨z, hz, -, hw⟩ := withSet_split (tag := tag) rising
    simp only [State.setAsm_asm, hw]
    constructor
    · intro x hx
      rcases List.mem_append.mp hx with hx | hx
      · exact near x (List.mem_of_mem_filter hx)
      · rcases List.mem_cons.mp hx with rfl | hx
        · rwa [hz]
        · exact near x (List.mem_of_mem_filter hx)
    · refine List.pairwise_append.mpr ⟨rising.filter _, List.pairwise_cons.mpr ⟨fun x hx => ?_, rising.filter _⟩,
        fun x hx y hy => ?_⟩
      · simpa [hz] using List.of_mem_filter hx
      · have hx' : tagDistance e x.tag < tagDistance e tag := by simpa using List.of_mem_filter hx
        rcases List.mem_cons.mp hy with rfl | hy
        · rwa [hz]
        · exact hx'.trans (by simpa using List.of_mem_filter hy)
  exact placed.of_tags rfl (placeFrame_tags e tag n channels s)

theorem AssemblySound.placeFrame {s : State} (h : AssemblySound s) {e tag : Tag} (he : s.asm.expected = some e)
    (hd : tagDistance e tag ≤ 7) (n : Index4) (channels : List Half) :
    AssemblySound (placeFrame e tag n channels s) :=
  ⟨h.inv.placeFrame he hd n channels, h.full⟩

/-! ## Acceptance and arrival (R5, R6) -/

theorem AssemblySound.countSource {s : State} (h : AssemblySound s) (n : Index4)
    (f : SourceCounters → SourceCounters) : AssemblySound (s.countSource n f) :=
  h.of_tags rfl rfl rfl

theorem AssemblySound.acceptFrame {s : State} (h : AssemblySound s) {e tag : Tag} (he : s.asm.expected = some e)
    (hd : tagDistance e tag ≤ 7) (n : Index4) (f : SampleFrame) : AssemblySound (acceptFrame e tag n f s) := by
  unfold Machine.acceptFrame
  split
  · exact h.countSource n _
  · have placed : AssemblySound (Machine.completeSets (closeSets e tag (Machine.placeFrame e tag n f.channels s))) :=
      AssemblySound.completeSets ((h.placeFrame he hd n f.channels).of_tags rfl (closeSets_tags e tag _) rfl)
    dsimp only
    split
    · refine inTurn_keeps _ _ _ (fun k => placed.of_asm rfl) (fun g hg t ht => ?_)
        (fun t ht => ht.of_outer (outer_moment t))
      simp only [List.mem_cons, List.not_mem_nil, or_false] at hg
      rcases hg with rfl | rfl
      · exact ht.releaseCheck
      · exact ht.of_outer (outer_handAux _ t)
    · exact placed.releaseCheck

theorem unlockTrackers_asm (s : State) : (unlockTrackers s).asm = s.asm :=
  congrArg Outer.asm (outer_unlockTrackers s)

theorem streamInterruption_asm (s : State) : (streamInterruption s).asm = s.asm :=
  congrArg Outer.asm (outer_streamInterruption s)

/-- R10: what a discontinuity writes in the assembler. -/
theorem discontinuity_asm (tag : Tag) (n : Index4) (s : State) :
    (discontinuity tag n s).asm = { s.asm with
      queue := []
      expected := some tag
      sources := (Four.ofFn fun m => (s.asm.sources.get m).seek).set n
        { (s.asm.sources.get n).seek with alignment := .aligned, missRun := 0 }
      counters := { s.asm.counters with discontinuity := bump s.asm.counters.discontinuity } } := by
  simp only [discontinuity, moment_asm, raise_asm, State.countAsm, State.setAsm_asm, unlockTrackers_asm, seekAll,
    State.setSource, Four.get_ofFn]

theorem AssemblySound.discontinuity {s : State} (h : AssemblySound s) (tag : Tag) (n : Index4) :
    AssemblySound (discontinuity tag n s) := by
  refine ⟨.of_empty ?_, fun q => ?_⟩ <;> rw [discontinuity_asm]
  exact h.full q

theorem AssemblySound.handleFrame {s : State} (h : AssemblySound s) {e : Tag} (he : s.asm.expected = some e)
    (tag : Tag) (n : Index4) (f : SampleFrame) : AssemblySound (handleFrame e tag n f s) := by
  unfold Machine.handleFrame
  dsimp only
  split
  · next hd => exact h.acceptFrame he hd n f
  · split
    · refine (h.forceReleases _).acceptFrame (forceReleases_expected _ he) ?_ n f
      rw [tagDistance_advance (by omega)]
      omega
    · split
      · exact (h.discontinuity tag n).acceptFrame (by rw [discontinuity_asm]) (by simp [tagDistance_self]) n f
      · exact h.countSource n _

theorem AssemblySound.takeSample {s : State} (h : AssemblySound s) (f : SampleFrame) :
    AssemblySound (takeSample f s) := by
  unfold Machine.takeSample
  split
  · exact h.of_asm rfl
  · next n _ =>
    split
    · exact h.of_asm rfl
    · split
      · exact h.of_asm rfl
      · split
        · exact h.countSource n _
        · dsimp only
          split
          · next he =>
            have hs : AssemblySound (s.setAsm { s.asm with expected := some (f.tag.setWidth 12) }) :=
              ⟨.of_empty (h.inv.unset he), h.full⟩
            exact hs.handleFrame rfl _ n f
          · next e he => exact h.handleFrame he _ n f

/-! ## Silence and resets (R22, R26) -/

theorem cleared_length : Window.cleared.entries.length = Config.windowLength := List.length_replicate

/-- R22: what an expiry of the silence timer writes in the assembler. -/
theorem expireSilence_asm (s : State) : (expireSilence s).asm = { s.asm with
    queue := [], expected := none, silence := none, windows := .ofFn fun _ => .cleared
    sources := .ofFn fun n => (s.asm.sources.get n).seek
    counters := { s.asm.counters with streamLoss := bump s.asm.counters.streamLoss } } := by
  simp only [expireSilence, State.countAsm, raise_asm, State.setAsm_asm, streamInterruption_asm, moment_asm,
    unlockTrackers_asm, clearWindows, seekAll]

theorem expireSilence_sound (s : State) : AssemblySound (expireSilence s) := by
  refine ⟨.of_empty ?_, fun q => ?_⟩ <;> rw [expireSilence_asm]
  simpa using cleared_length

theorem AssemblySound.endSamplePeriod {s : State} (h : AssemblySound s) : AssemblySound (endSamplePeriod s) := by
  unfold Machine.endSamplePeriod
  split
  · exact h
  · split
    · exact expireSilence_sound s
    · exact h.of_tags rfl rfl rfl

theorem AssemblySound.silenceExpires {s : State} (h : AssemblySound s) : AssemblySound (silenceExpires s) := by
  unfold Machine.silenceExpires
  split
  · exact h
  · exact expireSilence_sound s

theorem powerOn_sound (straps : Straps) (rstn : Bool) (p : List Instr) (k : Nat) :
    AssemblySound (State.powerOn straps rstn p k) := by
  refine ⟨.of_empty rfl, fun q => ?_⟩
  cases q <;> exact cleared_length

end Sys2Proof.Machine
end

section
/-! Every step keeps the assembly queue and the windows (R8, R17). -/

namespace Sys2Proof.Machine

/-! ## The Bank Controller leaves the assembler as it is -/

theorem asm_of_outer {s t : State} (h : t.outer = s.outer) : t.asm = s.asm := congrArg Outer.asm h

@[simp] theorem writeBank_asm (n : Index4) (r : BankRec) (s : State) : (writeBank n r s).asm = s.asm := by
  unfold writeBank
  dsimp only
  split
  · rfl
  · split <;> rfl

@[simp] theorem faultBank_asm (n : Index4) (code : Option Byte) (f : BankCounters → BankCounters) (s : State) :
    (faultBank n code f s).asm = s.asm := writeBank_asm n _ s

@[simp] theorem handBankOrder_asm (n : Index4) (a : BankAction) (s : State) : (handBankOrder n a s).asm = s.asm :=
  asm_of_outer (outer_handBankOrder n a s)

@[simp] theorem placeBankOrder_asm (n : Index4) (a : BankAction) (s : State) : (placeBankOrder n a s).asm = s.asm := by
  simp [placeBankOrder]

@[simp] theorem takeBankStatus_asm (n : Index4) (st : BankStatus) (code : Byte) (s : State) :
    (takeBankStatus n st code s).asm = s.asm := by
  unfold takeBankStatus
  dsimp only
  split
  case h_1 | h_9 | h_10 | h_11 | h_12 | h_13 | h_14 => rfl
  case h_15 | h_16 | h_17 | h_18 | h_19 => exact faultBank_asm _ _ _ _
  all_goals exact writeBank_asm _ _ _

@[simp] theorem tickConfirmation_asm (s : State) (n : Index4) : (tickConfirmation s n).asm = s.asm := by
  unfold tickConfirmation
  dsimp only
  split
  · split
    · exact faultBank_asm _ _ _ _
    · rfl
  · rfl

@[simp] theorem tickDischarge_asm (s : State) (n : Index4) : (tickDischarge s n).asm = s.asm := by
  unfold tickDischarge
  dsimp only
  split
  · split
    · exact writeBank_asm _ _ _
    · rfl
  · rfl

@[simp] theorem tickDwell_asm (s : State) : (tickDwell s).asm = s.asm := by
  unfold tickDwell
  split
  · rfl
  · split <;> rfl

@[simp] theorem autoSwitch_asm (s : State) : (autoSwitch s).asm = s.asm := by
  unfold autoSwitch
  split
  · split
    · split
      · exact placeBankOrder_asm _ _ _
      · rfl
    · split
      · split
        · exact placeBankOrder_asm _ _ _
        · rfl
      · rfl
  · rfl

@[simp] theorem tickBanks_asm (s : State) : (tickBanks s).asm = s.asm := by
  have dwell : ∀ t : State, (if s.confirmationExpires then t else tickDwell t).asm = t.asm := fun t => by
    split <;> simp
  unfold tickBanks
  dsimp only
  rw [autoSwitch_asm, dwell, momentAfter_asm, foldl_same State.asm _ tickDischarge_asm, momentAfter_asm,
    foldl_same State.asm _ tickConfirmation_asm]

@[simp] theorem localTick_asm (s : State) : (localTick s).asm = s.asm := by
  unfold localTick
  refine (inTurn_same State.asm _ _ _ (fun _ => rfl) (fun f hf t => ?_) moment_asm).trans ?_
  · simp only [List.mem_cons, List.not_mem_nil, or_false] at hf
    rcases hf with rfl | rfl
    · exact asm_of_outer (outer_tickBlanking t)
    · exact tickBanks_asm t
  · exact (asm_of_outer (outer_tickDip _)).trans rfl

@[simp] theorem confirmationExpiresAt_asm (s : State) (n : Index4) : (confirmationExpiresAt s n).asm = s.asm := by
  unfold confirmationExpiresAt
  split
  · exact faultBank_asm _ _ _ _
  · rfl

@[simp] theorem dischargeExpires_asm (n : Index4) (s : State) : (dischargeExpires n s).asm = s.asm := by
  unfold dischargeExpires
  split
  · exact writeBank_asm _ _ _
  · rfl

theorem completeV_asm (s : State) : (completeV s).asm = s.asm := by
  have sent : ∀ o t, (orderSent o t).asm = t.asm := fun o t => asm_of_outer ((outer_reportSent o _).trans rfl)
  have begins : ∀ t, (beginV t).asm = t.asm := fun t => asm_of_outer (outer_beginV t)
  unfold completeV
  split
  · rfl
  · dsimp only
    split
    · exact begins _
    · split
      · rw [begins, sent]
        rfl
      · split
        · rw [begins]
          exact sent _ _
        · rw [asm_of_outer (outer_lateCompletion _ _), sent]
          rfl

theorem receiveReport_asm (r : ReportFrame) (s : State) : (receiveReport r s).asm = s.asm := by
  unfold receiveReport
  split
  · rfl
  · exact asm_of_outer (outer_takeReport _ s)

theorem receiveBankStatus_asm (bank status code : Byte) (s : State) :
    (receiveBankStatus bank status code s).asm = s.asm := by
  unfold receiveBankStatus
  split
  · exact takeBankStatus_asm _ _ _ s
  · rfl

/-! ## What a directive's action does to the assembler -/

theorem AssemblySound.clearCounters {s : State} (h : AssemblySound s) (g : CounterGroup) :
    AssemblySound (clearCounters s g) := by
  cases g with
  | assembly => exact h.of_tags rfl rfl rfl
  | _ => exact h.of_asm rfl

theorem AssemblySound.afterWrite {s : State} (h : AssemblySound s) (p : Param) : AssemblySound (afterWrite p s) := by
  unfold Machine.afterWrite
  split
  · split
    · exact h.of_tags rfl rfl rfl
    · exact h
  · exact h.of_asm rfl
  · exact h.of_asm rfl
  · exact h.of_outer (outer_evalSupply s)
  · exact h.of_outer (outer_evalSupply s)
  · exact h.of_outer (outer_evalBase s)
  · exact h

theorem AssemblySound.actSet {s : State} (h : AssemblySound s) (ident : Byte) (value : Word) :
    AssemblySound (actSet ident value s).1 := by
  unfold Machine.actSet
  split
  · exact h
  · next p _ =>
    split
    · exact h
    · split
      · have written : AssemblySound (s.setParams (s.params.write p value.toInt)) := h.of_asm rfl
        exact written.afterWrite p
      · exact h

theorem AssemblySound.actMapSet {s : State} (h : AssemblySound s) (quantity source channel : Byte) :
    AssemblySound (actMapSet quantity source channel s).1 := by
  unfold Machine.actMapSet
  split
  · exact h
  · split
    · exact h.of_tags rfl rfl rfl
    · exact h

theorem AssemblySound.actSourceSet {s : State} (h : AssemblySound s) (source enabled policy hold miss : Byte) :
    AssemblySound (actSourceSet source enabled policy hold miss s).1 := by
  unfold Machine.actSourceSet
  split
  · exact h
  · split
    · have written : ∀ n r, AssemblySound (s.setSource n r) := fun _ _ => h.of_tags rfl rfl rfl
      exact (written _ _).completeSets.releaseCheck
    · exact h

theorem actAuxSet_asm (aux polarity kind debounce actions delay width : Byte) (s : State) :
    (actAuxSet aux polarity kind debounce actions delay width s).1.asm = s.asm := by
  unfold actAuxSet
  split
  · rfl
  · split
    · exact asm_of_outer ((outer_evalBase _).trans (outer_setAux _ _ _))
    · rfl

theorem actBankSet_asm (bank present : Byte) (susceptance : Half) (state : Byte) (s : State) :
    (actBankSet bank present susceptance state s).1.asm = s.asm := by
  have record : ∀ n st x, (setBankRecord n st x s).1.asm = s.asm := fun _ _ _ => writeBank_asm _ _ s
  unfold actBankSet
  split
  · rfl
  · split
    · split
      · rfl
      · exact record _ _ _
    · split
      · split
        · rfl
        · split
          · rfl
          · exact record _ _ _
      · rfl
    · rfl

theorem actBankForce_asm (bank action : Byte) (s : State) : (actBankForce bank action s).1.asm = s.asm := by
  unfold actBankForce
  split
  · split
    · rfl
    · split
      · rfl
      · exact placeBankOrder_asm _ _ s
  · rfl

/-- The directives of the Table Store leave the assembler. -/
theorem actTableWrite_asm (start : Half) (n fill : Byte) (values : List Half) (s : State) :
    (actTableWrite start n fill values s).1.asm = s.asm := by
  unfold actTableWrite
  split
  · rfl
  · split
    · split
      · rfl
      · split <;> rfl
    · rfl

theorem actTableRead_asm (bank : Byte) (start : Half) (n : Byte) (s : State) :
    (actTableRead bank start n s).1.asm = s.asm := by
  unfold actTableRead
  split
  · split <;> rfl
  · rfl

theorem actTableCommit_asm (tag : Byte) (s : State) : (actTableCommit tag s).1.asm = s.asm := by
  unfold actTableCommit
  split
  · rfl
  · split
    · rfl
    · split <;> rfl

theorem requestMode_asm (t : Target) (s : State) : (requestMode t s).asm = s.asm := by
  have hc : ∀ m g u, (changeMode m g u).asm = u.asm := fun m g u => asm_of_outer (outer_changeMode m g u)
  unfold requestMode
  split
  · exact (asm_of_outer (outer_evalBase _)).trans (hc _ _ _)
  · exact (asm_of_outer (outer_evalBase _)).trans (hc _ _ _)
  · exact hc _ _ _
  · rfl

theorem takeMode_asm (m : Mode) (s : State) : (takeMode m s).asm = s.asm := by
  have quiet : (if s.control.mode = .quiescent then cancelResume s else enterQuiescent s).asm = s.asm := by
    split
    · rfl
    · exact asm_of_outer (outer_enterQuiescent s)
  cases m with
  | run | park => exact requestMode_asm _ _
  | quiescent | waking => exact quiet

theorem actMode_asm (operand : Byte) (s : State) : (actMode operand s).1.asm = s.asm := by
  unfold actMode
  split
  · rfl
  · split
    · rfl
    · exact takeMode_asm _ s

theorem actBlock_asm (operand : Byte) (s : State) : (actBlock operand s).1.asm = s.asm := by
  unfold actBlock
  split
  · rfl
  · exact asm_of_outer (outer_evalBase _)

theorem actCaptureSet_asm (mode : Byte) (post : Half) (s : State) : (actCaptureSet mode post s).1.asm = s.asm := by
  unfold actCaptureSet
  split
  · split <;> rfl
  · rfl

theorem actCaptureTrigger_asm (s : State) : (actCaptureTrigger s).1.asm = s.asm := by
  unfold actCaptureTrigger
  split
  · exact asm_of_outer (outer_trigger _ s)
  · rfl

theorem actNoticeSet_asm (source enable level : Byte) (s : State) :
    (actNoticeSet source enable level s).1.asm = s.asm := by
  unfold actNoticeSet
  split <;> rfl

theorem actNoticeClear_asm (sources : Half) (s : State) : (actNoticeClear sources s).1.asm = s.asm := by
  unfold actNoticeClear
  split <;> rfl

/-! ## The ENGINE reset -/

@[simp] theorem engineResetTrackers_asm (s : State) : (engineResetTrackers s).asm = s.asm := by
  unfold engineResetTrackers
  dsimp only
  split <;> rfl

@[simp] theorem abortCommit_asm (s : State) : (abortCommit s).asm = s.asm := by
  unfold abortCommit
  split <;> rfl

@[simp] theorem engineResetControl_asm (s : State) : (engineResetControl s).asm = s.asm := by
  unfold engineResetControl
  dsimp only
  split <;> rfl

@[simp] theorem engineResetExchange_asm (s : State) : (engineResetExchange s).asm = s.asm :=
  asm_of_outer (outer_exchangeQuiescent s)

@[simp] theorem engineResetDemand_asm (s : State) : (engineResetDemand s).asm = s.asm := rfl

/-- R26: what an ENGINE reset leaves of the assembler. -/
theorem engineReset_asm (s : State) : (engineReset s).asm = (engineResetAssembly s).asm := by
  simp [engineReset]

theorem engineReset_sound (s : State) : AssemblySound (engineReset s) := by
  refine ⟨.of_empty ?_, fun q => ?_⟩ <;> rw [engineReset_asm]
  · rfl
  · simpa [engineResetAssembly, clearWindows] using cleared_length

theorem AssemblySound.actReset {s : State} (h : AssemblySound s) (scope : Byte) :
    AssemblySound (actReset scope s).1 := by
  unfold Machine.actReset
  split
  · exact h
  · exact (engineReset_sound s).of_outer (outer_moment _)
  · exact h.of_asm rfl

/-! ## A directive, a command, a step -/

theorem AssemblySound.act (d : Directive) (s : State) (h : AssemblySound s) : AssemblySound (act d s).1 := by
  unfold Machine.act
  split
  case h_3 =>
    unfold actCounters
    split
    · split
      · exact h.clearCounters _
      · exact h
    · exact h
  case h_5 =>
    unfold actGet
    split <;> exact h
  case h_6 => exact h.actSet _ _
  case h_7 => exact h.actMapSet _ _ _
  case h_8 => exact h.actSourceSet _ _ _ _ _
  case h_9 => exact h.of_asm (actAuxSet_asm _ _ _ _ _ _ _ s)
  case h_10 => exact h.of_asm (actBankSet_asm _ _ _ _ s)
  case h_11 => exact h.of_asm (actBankForce_asm _ _ s)
  case h_12 => exact h.of_asm (actTableWrite_asm _ _ _ _ s)
  case h_13 => exact h.of_asm (actTableRead_asm _ _ _ s)
  case h_14 =>
    unfold actTableCopy
    split <;> exact h.of_asm rfl
  case h_15 => exact h.of_asm (actTableCommit_asm _ s)
  case h_16 => exact h.of_asm (actMode_asm _ s)
  case h_17 => exact h.of_asm (actBlock_asm _ s)
  case h_18 => exact h.of_asm (asm_of_outer (outer_evalBase _))
  case h_19 => exact h.of_asm (actCaptureSet_asm _ _ s)
  case h_20 => exact h.of_asm (actCaptureTrigger_asm s)
  case h_21 =>
    unfold actCaptureRead
    split <;> exact h.of_asm rfl
  case h_23 => exact h.of_asm (actNoticeSet_asm _ _ _ s)
  case h_24 => exact h.of_asm (actNoticeClear_asm _ s)
  case h_25 => exact h.actReset _
  all_goals exact h.of_asm rfl

theorem assemblySound_stationFree : StationFree AssemblySound :=
  ⟨fun _ _ h => h.of_asm rfl, fun _ _ h => h.of_asm rfl, fun _ _ h => h.of_asm rfl, fun _ _ h => h.of_asm rfl⟩

theorem AssemblySound.settle {s : State} (h : AssemblySound s) : AssemblySound (settle s) :=
  assemblySound_stationFree.settle AssemblySound.act h

theorem AssemblySound.receiveBytes {s : State} (h : AssemblySound s) (port : Port) (bytes : List Byte) :
    AssemblySound (receiveBytes port bytes s) := by
  have counted : ∀ v, AssemblySound (s.countPort port fun c => c.count v) := fun v => by
    cases port <;> exact h.of_asm rfl
  unfold Machine.receiveBytes
  dsimp only
  split
  · unfold handOn
    split
    · exact (counted _).takeSample _
    · exact assemblySound_stationFree.admission _ _ (counted _)
    · exact (counted _).of_asm (receiveReport_asm _ _)
    · exact (counted _).of_asm (receiveBankStatus_asm _ _ _ _)
    · exact counted _
  · exact counted _

/-- R8, R17: every command keeps the assembler sound. -/
theorem AssemblySound.exec {i : Instr} {s t : State} (h : AssemblySound s) (ht : exec i s = .next t) :
    AssemblySound t := by
  have directive : ∀ {unit tag kind : Byte} {length : Nat} {r : Request},
      whileReleased s (directiveArrives unit tag kind length r) = .next t → AssemblySound t :=
    whileReleased_keeps (assemblySound_stationFree.directiveArrives AssemblySound.act _ _ _ _ _) h
  have settled : ∀ {f : State → State}, AssemblySound (f s) →
      whileReleased s (fun s => Machine.settle (f s)) = .next t → AssemblySound t :=
    fun hf => whileReleased_keeps (fun _ => AssemblySound.settle hf) h
  cases i with
  | sampleFrame f =>
    exact settled (assemblySound_stationFree.receiveM (fun _ hs => hs.takeSample f) _ h) ht
  | localSamplePeriod => exact settled h.endSamplePeriod ht
  | silenceTimerExpiry => exact settled h.silenceExpires ht
  | localTick => exact settled (h.of_asm (localTick_asm s)) ht
  | confirmationTimerExpiry =>
    exact settled (f := Index4.all.foldl confirmationExpiresAt)
      (h.of_asm (foldl_same State.asm _ confirmationExpiresAt_asm _ s)) ht
  | dischargeTimerExpiry n => exact settled (h.of_asm (dischargeExpires_asm n s)) ht
  | dwellTimerExpiry => exact settled (f := expireDwell) (h.of_asm rfl) ht
  | dipToleranceExpiry =>
    refine settled (f := dipToleranceExpires) ?_ ht
    unfold dipToleranceExpires
    split
    · exact h.of_outer (outer_dipInterruption s)
    · exact h
  | blankingDelayExpiry =>
    refine settled (f := blankingDelayExpires) ?_ ht
    unfold blankingDelayExpires
    split
    · exact h.of_outer (outer_activateBlanking _ s)
    · exact h
  | blankingPulseEnd =>
    refine settled (f := blankingPulseEnds) ?_ ht
    unfold blankingPulseEnds
    split
    · exact h.of_outer (outer_endBlanking s)
    · exact h
  | valveReport r =>
    exact settled (f := fun s => receiveReport r s.receivedV) (h.of_asm (receiveReport_asm r _)) ht
  | bankStatusFrame bank status code =>
    exact settled (f := fun s => receiveBankStatus bank status code s.receivedV)
      (h.of_asm (receiveBankStatus_asm bank status code _)) ht
  | vTransmitCompletion => exact settled (h.of_asm (completeV_asm s)) ht
  | frameRejected port bytes => exact settled (h.receiveBytes port bytes) ht
  | mTransmitCompletion =>
    exact whileReleased_keeps
      (assemblySound_stationFree.completeM AssemblySound.act fun _ _ => powerOn_sound _ _ _ _) h ht
  | powerOnReset =>
    cases ht
    exact powerOn_sound _ _ _ _
  | rstnRelease fsel unit boot =>
    change execRstnRelease fsel unit boot s = .next t at ht
    unfold execRstnRelease at ht
    split at ht <;> cases ht
    · exact h
    · exact powerOn_sound _ _ _ _
  | _ => exact directive ht

theorem AssemblySound.step {s t : State} (h : AssemblySound s) (ht : step s = .next t) : AssemblySound t := by
  unfold Machine.step at ht
  split at ht
  · cases ht
    exact h
  · next c rest _ =>
    have waiting : AssemblySound { s with pending := rest } := h.of_asm rfl
    exact waiting.exec ht

end Sys2Proof.Machine

/-- Settles O59: every command keeps the assembler sound, the directives it takes included. -/
theorem stepKeepsAssembly : Obligations.StepKeepsAssembly := by
  unfold Obligations.StepKeepsAssembly
  intro s t hi hw ht
  obtain ⟨inv, full⟩ := Sys2Proof.Machine.AssemblySound.step ⟨hi, hw⟩ ht
  exact ⟨inv, full⟩
end

section
/-! Power-on values, counters, parameters and the configuration directives. -/

namespace Sys2Proof.Machine

/-! ## Operands outside their lists and ranges (R196) -/

theorem flag?_none {b : Byte} (h : 1 < b.toNat) : flag? b = none := by
  unfold flag?
  split
  case h_3 => rfl
  all_goals omega

theorem flag?_zero : flag? 0 = some false := rfl

theorem flag?_one : flag? 1 = some true := rfl

theorem index4?_none {b : Byte} (h : 3 < b.toNat) : index4? b = none := by
  unfold index4?
  split
  case h_5 => rfl
  all_goals omega

theorem gapPolicy?_none {b : Byte} (h : 1 < b.toNat) : gapPolicy? b = none := by
  unfold gapPolicy?
  split
  case h_3 => rfl
  all_goals omega

theorem quantity?_none {b : Byte} (h : 8 < b.toNat) : quantity? b = none :=
  List.getElem?_eq_none h

theorem within?_some {lo hi n : Nat} (h1 : lo ≤ n) (h2 : n ≤ hi) : within? lo hi n = some n := if_pos ⟨h1, h2⟩

theorem within?_none {lo hi n : Nat} (h : n < lo ∨ hi < n) : within? lo hi n = none := if_neg (by omega)

theorem counterGroup?_none {b : Byte} (h : 9 < b.toNat) : counterGroup? b = none := by
  unfold counterGroup?
  split
  case h_11 => rfl
  all_goals omega

/-! ## COUNTERS (R182) -/

theorem actCounters_some {group clear : Byte} {g : CounterGroup} {c : Bool} (hg : counterGroup? group = some g)
    (hc : flag? clear = some c) (s : State) : actCounters group clear s =
      (if c then clearCounters s g else s).done (.counters group c (s.counterReport g)) := by
  simp [actCounters, hg, hc]

theorem actCounters_range {group clear : Byte} (h : 9 < group.toNat ∨ 1 < clear.toNat) (s : State) :
    actCounters group clear s = s.refuse .range := by
  unfold actCounters
  rcases h with h | h
  · simp [counterGroup?_none h]
  · rw [flag?_none h]
    cases counterGroup? group <;> rfl

/-! ## Parameters (R177, Table 9-3) -/

/-- A value written in its range reads back. -/
theorem Params.value_write_self (q : Params) (p : Param) {v : Int} (h : p.inRange v = true) :
    (q.write p v).value p = v := by
  cases p with
  | statusSource =>
    obtain rfl | rfl | rfl | rfl : v = 0 ∨ v = 1 ∨ v = 2 ∨ v = 3 := by
      simp [Param.inRange] at h
      omega
    all_goals rfl
  | blockSelect =>
    obtain rfl | rfl | rfl : v = 0 ∨ v = 1 ∨ v = 2 := by
      simp [Param.inRange] at h
      omega
    all_goals rfl
  | resumePolicy =>
    obtain rfl | rfl | rfl | rfl : v = 0 ∨ v = 1 ∨ v = 2 ∨ v = 3 := by
      simp [Param.inRange] at h
      omega
    all_goals rfl
  | limitMode | gapPolicy | autoBanks | wakeTarget | resumePreset =>
    obtain rfl | rfl : v = 0 ∨ v = 1 := by
      simp [Param.inRange] at h
      omega
    all_goals rfl
  | loadGain b | load2Gain b | bias b | angleOffset b =>
    simp [Param.inRange] at h
    simp [Params.write, Params.value] <;> omega
  | _ =>
    simp [Param.inRange] at h
    simp only [Params.write, Params.value]
    omega

/-- A write leaves the other parameters. -/
theorem Params.value_write_ne (q : Params) {p r : Param} (v : Int) (h : r ≠ p) :
    (q.write p v).value r = q.value r := by
  cases p with
  | loadGain b =>
    cases r with
    | loadGain c => simp [Params.write, Params.value, PerBranch.get_set_ne _ _ (fun e => h (e ▸ rfl) : c ≠ b)]
    | _ => rfl
  | load2Gain b =>
    cases r with
    | load2Gain c => simp [Params.write, Params.value, PerBranch.get_set_ne _ _ (fun e => h (e ▸ rfl) : c ≠ b)]
    | _ => rfl
  | bias b =>
    cases r with
    | bias c => simp [Params.write, Params.value, PerBranch.get_set_ne _ _ (fun e => h (e ▸ rfl) : c ≠ b)]
    | _ => rfl
  | angleOffset b =>
    cases r with
    | angleOffset c => simp [Params.write, Params.value, PerBranch.get_set_ne _ _ (fun e => h (e ▸ rfl) : c ≠ b)]
    | _ => rfl
  | _ => cases r <;> first | rfl | exact absurd rfl h

/-- R136: the cross check fails exactly where V_DIP would exceed V_VALID. -/
theorem Params.crossCheck_iff (q : Params) (p : Param) (v : Int) :
    q.crossCheck p v = true ↔ ¬(p = .vDip ∧ (q.vValid : Int) < v) ∧ ¬(p = .vValid ∧ v < q.vDip) := by
  cases p <;> simp [Params.crossCheck]

/-- R175, R177: the checks of SET, in order. -/
theorem actSet_some {ident : Byte} {p : Param} (hp : param? ident = some p) (value : Word) (s : State) :
    actSet ident value s =
      if p.parkedOnly && !s.parked then s.refuse .wrongMode
      else if p.inRange value.toInt && s.params.crossCheck p value.toInt then
        (afterWrite p (s.setParams (s.params.write p value.toInt))).done
          (.set ident (s.params.value p) ((s.params.write p value.toInt).value p))
      else s.refuse .range := by
  simp [actSet, hp]

/-- R175: with the directive allowed, the range and the cross check decide. -/
theorem actSet_allowed {ident : Byte} {p : Param} (hp : param? ident = some p) (value : Word) {s : State}
    (ha : (p.parkedOnly && !s.parked) = false) :
    actSet ident value s =
      if p.inRange value.toInt && s.params.crossCheck p value.toInt then
        (afterWrite p (s.setParams (s.params.write p value.toInt))).done
          (.set ident (s.params.value p) ((s.params.write p value.toInt).value p))
      else s.refuse .range := by
  rw [actSet_some hp, ha]
  rfl

theorem parkedOnly_allows {p : Param} {s : State}
    (h : p.parkedOnly = false ∨ (s.control.mode ≠ .run ∧ s.control.release = .held)) :
    (p.parkedOnly && !s.parked) = false := by
  rcases h with h | h
  · simp [h]
  · simp [(parked_iff s).mpr h]

/-- R177: a value is answered RANGE outside its range, or where the cross check fails. -/
theorem setRange_iff (q : Params) (p : Param) (v : Int) :
    ¬(p.inRange v && q.crossCheck p v) = true ↔
      p.inRange v = false ∨ (p = .vDip ∧ (q.vValid : Int) < v) ∨ (p = .vValid ∧ v < q.vDip) := by
  rw [Bool.and_eq_true, q.crossCheck_iff, ← Bool.not_eq_true]
  tauto

theorem clip_eq_max_min {x a b : Int} (h : a ≤ b) : clip x a b = max a (min x b) := by
  unfold clip
  split
  · omega
  · split <;> omega

/-! ## Configuration outside the parked condition (R175) -/

section
variable {s : State} (h : s.parked = false)
include h

theorem actMapSet_wrongMode (a b c : Byte) : actMapSet a b c s = s.refuse .wrongMode := by simp [actMapSet, h]

theorem actSourceSet_wrongMode (a b c d e : Byte) : actSourceSet a b c d e s = s.refuse .wrongMode := by
  simp [actSourceSet, h]

theorem actAuxSet_wrongMode (a b c d e f g : Byte) : actAuxSet a b c d e f g s = s.refuse .wrongMode := by
  simp [actAuxSet, h]

theorem actBankSet_wrongMode (a b c : Byte) (w : Half) : actBankSet a b w c s = s.refuse .wrongMode := by
  simp [actBankSet, h]

end

/-! ## MAP_SET and SOURCE_SET in the parked condition (R1, R3) -/

theorem mapEntry?_absent (channel : Byte) : mapEntry? 255 channel = some none := by simp [mapEntry?]

theorem mapEntry?_some {source channel : Byte} {n : Index4} {c : Fin 8} (hs : index4? source = some n)
    (hc : channel.toNat = c) : mapEntry? source channel = some (some ⟨n, c⟩) := by
  have hne : source ≠ 255 := by
    rintro rfl
    cases hs
  have hlt : channel.toNat < 8 := hc ▸ c.isLt
  have he : (⟨channel.toNat, hlt⟩ : Fin 8) = c := Fin.ext hc
  unfold mapEntry?
  rw [if_neg hne, hs]
  simp [hlt, he]

theorem mapEntry?_none {source channel : Byte} (hne : source ≠ 255) (h : 3 < source.toNat ∨ 7 < channel.toNat) :
    mapEntry? source channel = none := by
  unfold mapEntry?
  rw [if_neg hne]
  split
  · rfl
  · next n hn =>
    rcases h with h | h
    · rw [index4?_none h] at hn
      cases hn
    · rw [dif_neg (by omega)]

theorem actMapSet_parked {s : State} (h : s.parked = true) {quantity source channel : Byte} {q : Quantity}
    {e : Option ChannelRef} (hq : quantity? quantity = some q) (he : mapEntry? source channel = some e) :
    actMapSet quantity source channel s = (s.setAsm { s.asm with map := s.asm.map.set q e }).done .empty := by
  simp [actMapSet, h, hq, he]

theorem actMapSet_range {s : State} (h : s.parked = true) {quantity source channel : Byte}
    (hr : 8 < quantity.toNat ∨ (source ≠ 255 ∧ (3 < source.toNat ∨ 7 < channel.toNat))) :
    actMapSet quantity source channel s = s.refuse .range := by
  unfold actMapSet
  rcases hr with hr | ⟨hne, hr⟩
  · simp [h, quantity?_none hr]
  · rw [mapEntry?_none hne hr]
    cases quantity? quantity <;> simp [h]

theorem actSourceSet_parked {s : State} (h : s.parked = true) {source enabled policy hold miss : Byte} {n : Index4}
    {e : Bool} {g : GapPolicy} (hn : index4? source = some n) (he : flag? enabled = some e)
    (hg : gapPolicy? policy = some g) (hh : hold.toNat ≤ 15) (hm : 1 ≤ miss.toNat) :
    actSourceSet source enabled policy hold miss s =
      (releaseCheck (completeSets (s.setSource n
        ((s.asm.sources.get n).configure e g hold.toNat miss.toNat)))).done .empty := by
  have hl : miss.toNat ≤ 255 := by
    have := miss.isLt
    omega
  simp [actSourceSet, h, hn, he, hg, within?_some (Nat.zero_le _) hh, within?_some hm hl]

theorem actSourceSet_range {s : State} (h : s.parked = true) {source enabled policy hold miss : Byte}
    (hr : 3 < source.toNat ∨ 1 < enabled.toNat ∨ 1 < policy.toNat ∨ 15 < hold.toNat ∨ miss.toNat = 0) :
    actSourceSet source enabled policy hold miss s = s.refuse .range := by
  unfold actSourceSet
  rw [h, Bool.not_true, if_neg Bool.false_ne_true]
  split
  · next n e p l m hn he hp hl hm =>
    rcases hr with hr | hr | hr | hr | hr
    · cases (index4?_none hr).symm.trans hn
    · cases (flag?_none hr).symm.trans he
    · cases (gapPolicy?_none hr).symm.trans hp
    · cases (within?_none (.inr hr)).symm.trans hl
    · cases (within?_none (.inl (by omega))).symm.trans hm
  · rfl

/-- R1, R2: the record after a SOURCE_SET. -/
theorem SourceRec.configure_spec (r : SourceRec) (e : Bool) (g : GapPolicy) (hold miss : Nat) :
    ∃ c, c = r.configure e g hold miss ∧ c.policy = g ∧ c.holdLimit = hold ∧ c.missLimit = miss ∧
      c.counters = r.counters ∧
      c.alignment = (if e then (if r.alignment = .disabled then .seeking else r.alignment) else .disabled) ∧
      (e = true → r.alignment ≠ .disabled → c.missRun = r.missRun) ∧
      (e = true → r.alignment = .disabled → c.missRun = 0) ∧
      (e = false → r.alignment ≠ .disabled → c.missRun = 0) := by
  refine ⟨_, rfl, ?_⟩
  obtain ⟨p, hl, ml, al, mr, ct⟩ := r
  cases e <;> cases al <;> simp [SourceRec.configure]

end Sys2Proof.Machine

open Sys2Proof Sys2Proof.Machine

/-- Settles O4: every record stands at its initial value. -/
theorem powerOnValuesOfStreamPath : Obligations.PowerOnValuesOfStreamPath := by
  unfold Obligations.PowerOnValuesOfStreamPath
  intro straps rstn p k t
  refine ⟨fun n => ?_, fun q => ?_, rfl, rfl, rfl, rfl, rfl, rfl, rfl, rfl, fun b => ?_, rfl, fun b => ?_, rfl, rfl, rfl,
    rfl, rfl, rfl, rfl⟩
  · have h : t.asm.sources.get n = .initial := by cases n <;> rfl
    rw [h]
    exact ⟨rfl, rfl, rfl, rfl, rfl, rfl⟩
  · have hm : t.asm.map.get q = none := by cases q <;> rfl
    have hw : t.asm.windows.get q = .cleared := by cases q <;> rfl
    rw [hm, hw]
    exact ⟨rfl, rfl, rfl, rfl⟩
  · have h : t.trackers.get b = .initial := by cases b <;> rfl
    rw [h]
    exact ⟨rfl, rfl, rfl, rfl, rfl, rfl, rfl, rfl, rfl, rfl, rfl, rfl⟩
  · have h : t.demand.get b = .initial := by cases b <;> rfl
    rw [h]
    refine ⟨rfl, rfl, rfl, rfl, rfl, rfl, ?_⟩
    cases b <;> exact ⟨rfl, rfl, rfl, rfl⟩

/-- Settles O9: the answer is what actCounters gives; the reports and the clears are read off their definitions. -/
theorem countersReadsThenClears : Obligations.CountersReadsThenClears := by
  unfold Obligations.CountersReadsThenClears
  refine ⟨fun n hn => if_pos hn, rfl, fun s tag group clear h => ⟨?_, ?_, fun hr => ?_⟩,
    ⟨rfl, rfl, rfl, rfl, rfl, rfl, rfl, rfl, rfl, rfl⟩, fun s => ?_, fun s => ?_⟩
  · rintro g hg rfl
    exact exec_answered h rfl (by decide) rfl (actCounters_some hg flag?_zero s.taken)
  · rintro g hg rfl
    exact exec_answered h rfl (by decide) rfl (actCounters_some hg flag?_one s.taken)
  · exact exec_answered h rfl (by decide) rfl (actCounters_range hr s.taken)
  · exact ⟨⟨_, rfl, Four.get_ofFn _⟩, ⟨_, rfl, PerBranch.get_ofFn _⟩, ⟨_, rfl, PerBranch.get_ofFn _⟩, rfl,
      ⟨_, rfl, PerBranch.get_ofFn _⟩, ⟨_, rfl, Four.get_ofFn _⟩, rfl, rfl, rfl, rfl⟩
  · exact ⟨⟨_, rfl, Four.get_ofFn _⟩, ⟨_, rfl, PerBranch.get_ofFn _⟩, ⟨_, rfl, PerBranch.get_ofFn _⟩, rfl,
      ⟨_, rfl, PerBranch.get_ofFn _⟩, ⟨_, rfl, Four.get_ofFn _⟩, rfl, rfl, rfl, rfl⟩

/-- Settles O11: SET's checks in their order, the round trip of a written value, and what each owner does at once. -/
theorem setChecksThenWrites : Obligations.SetChecksThenWrites := by
  unfold Obligations.SetChecksThenWrites
  refine ⟨fun p lo hi v hm => ?_, fun b v => ?_, fun q p v hv =>
    ⟨q.value_write_self p hv, fun r hr => q.value_write_ne v hr⟩, fun s tag ident value h => ⟨fun hp => ?_, fun p hp => ?_⟩,
    fun s => ⟨fun hz => if_pos hz, fun hz => if_neg hz, ⟨_, rfl, fun b => ?_⟩, ⟨_, rfl, PerBranch.get_ofFn _⟩, rfl, rfl,
      rfl, fun p h1 h2 h3 h4 h5 h6 => ?_⟩⟩
  · fin_cases hm <;> simp [Param.inRange]
  · simp [Param.inRange, or_assoc]
  · exact exec_answered h rfl (by decide) rfl (by simp only [act, actSet, hp]; rfl)
  · have allowed : (p.parkedOnly = false ∨ (s.control.mode ≠ .run ∧ s.control.release = .held)) →
        (p.parkedOnly && !s.taken.parked) = false := parkedOnly_allows
    refine ⟨fun hpo hnp => ?_, fun hc => ⟨fun hr => ?_, fun hi hd hv => ?_⟩⟩
    · have hn : s.taken.parked = false := by
        rw [← Bool.not_eq_true, parked_iff]
        exact hnp
      exact exec_answered h rfl (by decide) rfl ((actSet_some hp value s.taken).trans (if_pos (by simp [hpo, hn])))
    · exact exec_answered h rfl (by decide) rfl ((actSet_allowed hp value (allowed hc)).trans
        (if_neg ((setRange_iff _ _ _).mpr hr)))
    · have hk : s.params.crossCheck p value.toInt = true := (s.params.crossCheck_iff p value.toInt).mpr ⟨hd, hv⟩
      have ha : act ⟨tag, 6, .set ident value⟩ s.taken = _ :=
        (actSet_allowed hp value (allowed hc)).trans (if_pos (by simp [hi, hk]))
      rw [Params.value_write_self _ p hi] at ha
      exact exec_answered h rfl (by decide) rfl ha
  · rw [PerBranch.get_ofFn, clip_eq_max_min (by omega)]
  · cases p <;> first | rfl | contradiction

/-- Settles O12: each of the four directives checks the parked condition first. -/
theorem configurationNeedsParkedCondition : Obligations.ConfigurationNeedsParkedCondition := by
  unfold Obligations.ConfigurationNeedsParkedCondition
  intro s tag a b c d e f g w h hp
  have hn : s.taken.parked = false := by
    rw [← Bool.not_eq_true, parked_iff]
    exact hp
  exact ⟨exec_answered h rfl (by decide) rfl (actMapSet_wrongMode hn _ _ _),
    exec_answered h rfl (by decide) rfl (actSourceSet_wrongMode hn _ _ _ _ _),
    exec_answered h rfl (by decide) rfl (actAuxSet_wrongMode hn _ _ _ _ _ _ _),
    exec_answered h rfl (by decide) rfl (actBankSet_wrongMode hn _ _ _ _)⟩

/-- Settles O13: the entry the operands name is written, or there is none. -/
theorem mapSetWritesEntry : Obligations.MapSetWritesEntry := by
  unfold Obligations.MapSetWritesEntry
  intro s tag quantity source channel h hm hr
  have hp : s.taken.parked = true := (parked_iff _).mpr ⟨hm, hr⟩
  refine ⟨?_, fun q n c hq hs hc => ?_, fun hb => ?_⟩
  · rintro q hq rfl
    exact exec_answered h rfl (by decide) rfl (actMapSet_parked hp hq (mapEntry?_absent channel))
  · exact exec_answered h rfl (by decide) rfl (actMapSet_parked hp hq (mapEntry?_some hs hc))
  · exact exec_answered h rfl (by decide) rfl (actMapSet_range hp hb)

/-- Settles O14: the record that the operands configure is written, then completion and release are tested. -/
theorem sourceSetWritesRecord : Obligations.SourceSetWritesRecord := by
  unfold Obligations.SourceSetWritesRecord
  intro s tag source enabled policy hold miss h hm hr
  have hp : s.taken.parked = true := (parked_iff _).mpr ⟨hm, hr⟩
  refine ⟨fun hb => exec_answered h rfl (by decide) rfl (actSourceSet_range hp hb), fun n e g hn he hg hh hmi => ?_⟩
  obtain ⟨t, ht, hs⟩ := exec_answered (i := .sourceSet s.unitByte tag source enabled policy hold miss) h rfl (by decide)
    rfl (actSourceSet_parked hp hn he hg hh hmi)
  obtain ⟨r, rfl, hspec⟩ := (s.asm.sources.get n).configure_spec e g hold.toNat miss.toNat
  exact ⟨t, _, ht, hs, hspec⟩
end

section
/-! Releases: what one writes, when the next is due, and how a chain of them ends (R14, R15, R16, R17). -/

namespace Sys2Proof.Machine

/-! ## What a release writes -/

@[simp] theorem completeSets_trackers (s : State) : (completeSets s).trackers = s.trackers := rfl

/-- R15, 4, R12: the sets that stay after a release are those of the other slots, tested for completion. -/
theorem releaseSlot_sets {s : State} {e : Tag} (h : s.asm.expected = some e) (forced : Bool) :
    (releaseSlot forced s).asm.queue = (s.asm.queue.filter fun x => !decide (x.tag = e)).map
      (completeSet (slotClosed e forced s).asm.sources) := by
  obtain ⟨_, _, -, hs⟩ := slotClosed_eq e forced s
  rw [releaseSlot_asm h, hs]
  rfl

/-- A set that stays was there before, with its tag and its contributors. -/
theorem releaseSlot_mem {s : State} {e : Tag} (h : s.asm.expected = some e) {forced : Bool} {x : SampleSet}
    (hx : x ∈ (releaseSlot forced s).asm.queue) :
    ∃ y ∈ s.asm.queue, y.tag = x.tag ∧ y.contributors = x.contributors ∧ x.tag ≠ e := by
  rw [releaseSlot_sets h] at hx
  obtain ⟨y, hy, rfl⟩ := List.mem_map.mp hx
  obtain ⟨hy, hne⟩ := List.mem_filter.mp hy
  rw [completeSet_tag, completeSet_contributors]
  exact ⟨y, hy, rfl, rfl, by simpa using hne⟩

/-- The sets of the other slots stay. -/
theorem releaseSlot_keeps {s : State} {e : Tag} (h : s.asm.expected = some e) (forced : Bool) {y : SampleSet}
    (hy : y ∈ s.asm.queue) (hne : y.tag ≠ e) : ∃ x ∈ (releaseSlot forced s).asm.queue, x.tag = y.tag := by
  rw [releaseSlot_sets h]
  exact ⟨_, List.mem_map_of_mem (List.mem_filter.mpr ⟨hy, by simpa using hne⟩), completeSet_tag _ _⟩

theorem contributorsOf_iff (x : Option SampleSet) (n : Index4) :
    (contributorsOf x).get n = true ↔ (x.map fun y => y.contributors.get n) = some true := by
  cases x with
  | none => cases n <;> simp [contributorsOf, Four.get]
  | some y => simp [contributorsOf]

/-- R16: a source's record after a release. -/
theorem releaseSlot_source {s : State} {e : Tag} (h : s.asm.expected = some e) (forced : Bool) (n : Index4) :
    (releaseSlot forced s).asm.sources.get n =
      (s.asm.sources.get n).accounted ((contributorsOf (setAt e s.asm.queue)).get n) := by
  obtain ⟨_, _, hsrc, hs⟩ := slotClosed_eq e forced s
  rw [releaseSlot_asm h, hs]
  exact hsrc n

/-- R15, R27: a release runs each tracker on its own window as the release has left it. -/
theorem releaseSlot_tracker {s : State} {e : Tag} (h : s.asm.expected = some e) (forced : Bool) (b : Branch) :
    (releaseSlot forced s).trackers.get b = (trackerStep b s.params.crossHyst
      ((slotClosed e forced s).asm.windows.get b.voltage).entries e (s.trackers.get b)).1 := by
  obtain ⟨_, _, -, hs⟩ := slotClosed_eq e forced s
  rw [releaseSlot_eq h, moment_trackers, completeSets_trackers, releasedSet_tracker, hs]
  rfl

/-! ## Windows (R17, R18) -/

theorem Window.push_eq (w : Window) (x : WindowEntry) : w.push x = x :: w.entries.take 63 := rfl

/-! ## Miss accounting (R16) -/

theorem accountMiss_not_aligned {contributors : Four Bool} {s : State} {n : Index4}
    (h : (s.asm.sources.get n).alignment ≠ .aligned) : accountMiss contributors s n = s := by simp [accountMiss, h]

theorem accountMiss_contributed {contributors : Four Bool} {s : State} {n : Index4}
    (h : (s.asm.sources.get n).alignment = .aligned) (hc : contributors.get n = true) :
    accountMiss contributors s n = s.setSource n { s.asm.sources.get n with missRun := 0 } := by
  simp [accountMiss, h, hc]

theorem accountMiss_missed {contributors : Four Bool} {s : State} {n : Index4}
    (h : (s.asm.sources.get n).alignment = .aligned) (hc : contributors.get n = false) {r : SourceRec}
    (hr : r = { s.asm.sources.get n with
      missRun := bump255 (s.asm.sources.get n).missRun
      counters := { (s.asm.sources.get n).counters with miss := bump (s.asm.sources.get n).counters.miss } }) :
    accountMiss contributors s n =
      if r.missLimit ≤ r.missRun then raise .source (s.setSource n { r with alignment := .lost })
      else s.setSource n r := by
  subst hr
  simp [accountMiss, h, hc]

/-! ## When a release is due (R14) -/

theorem newestDistance_none {e : Tag} {queue : List SampleSet} : newestDistance e queue = none ↔ queue = [] := by
  cases queue with
  | nil => simp [newestDistance]
  | cons x rest =>
    simp only [newestDistance, List.cons_ne_nil, iff_false]
    split <;> simp

/-- R8: the newest set is at the greatest distance. -/
theorem newestDistance_spec {e : Tag} : ∀ {queue : List SampleSet} {d : Nat}, newestDistance e queue = some d →
    (∀ x ∈ queue, tagDistance e x.tag ≤ d) ∧ ∃ x ∈ queue, tagDistance e x.tag = d
  | [], _, h => by cases h
  | x :: rest, d, h => by
    unfold newestDistance at h
    split at h
    · next hn =>
      cases h
      obtain rfl := newestDistance_none.mp hn
      exact ⟨by simp, x, by simp, rfl⟩
    · next d' hd' =>
      cases h
      obtain ⟨hle, y, hy, hyd⟩ := newestDistance_spec hd'
      refine ⟨fun z hz => ?_, ?_⟩
      · rcases List.mem_cons.mp hz with rfl | hz
        · exact Nat.le_max_right _ _
        · exact (hle z hz).trans (Nat.le_max_left _ _)
      · rcases Nat.le_total d' (tagDistance e x.tag) with hm | hm
        · exact ⟨x, by simp, (Nat.max_eq_right hm).symm⟩
        · exact ⟨y, by simp [hy], hyd.trans (Nat.max_eq_left hm).symm⟩

theorem releaseDue_unset {s : State} (h : s.asm.expected = none) : s.releaseDue = false := by
  simp [State.releaseDue, h]

theorem releaseDue_empty {s : State} (h : s.asm.queue = []) : s.releaseDue = false := by
  unfold State.releaseDue
  split
  · rfl
  · simp [h, setAt, newestDistance]

theorem setAt_none {e : Tag} {queue : List SampleSet} (h : ∀ x ∈ queue, x.tag ≠ e) : setAt e queue = none := by
  simpa [setAt] using h

/-- In a queue in tag order the set of a slot is the only one with its tag. -/
theorem setAt_some {e : Tag} {queue : List SampleSet} (h : InTagOrder e queue) {x : SampleSet} (hx : x ∈ queue)
    (ht : x.tag = e) : setAt e queue = some x := by
  rcases hf : setAt e queue with _ | y
  · have := List.find?_eq_none.mp hf x hx
    simp [ht] at this
  · have hy : y.tag = e := by simpa using List.find?_some hf
    rw [h.nodup (List.mem_of_find?_eq_some hf) hx (hy.trans ht.symm)]

/-- R14: the slot's own set makes the release due once it is no longer OPEN. -/
theorem releaseDue_set {s : State} (hi : AssemblyInv s) {e : Tag} (he : s.asm.expected = some e) {x : SampleSet}
    (hx : x ∈ s.asm.queue) (ht : x.tag = e) : s.releaseDue = true ↔ x.state ≠ .opened := by
  simp [State.releaseDue, he, setAt_some (hi.inTagOrder he) hx ht]

/-- R14: without a set of its own the slot is due once the queue reaches ASSEMBLY_DEPTH beyond it. -/
theorem releaseDue_void {s : State} {e : Tag} (he : s.asm.expected = some e) (hv : ∀ x ∈ s.asm.queue, x.tag ≠ e) :
    s.releaseDue = true ↔ ∃ x ∈ s.asm.queue, s.params.assemblyDepth ≤ tagDistance e x.tag := by
  simp only [State.releaseDue, he, setAt_none hv]
  rcases hd : newestDistance e s.asm.queue with _ | d
  · simp [newestDistance_none.mp hd]
  · obtain ⟨hle, y, hy, hyd⟩ := newestDistance_spec hd
    simp only [decide_eq_true_eq]
    exact ⟨fun h => ⟨y, hy, hyd ▸ h⟩, fun ⟨x, hx, h⟩ => h.trans (hle x hx)⟩

/-! ## The chain of releases (R14) -/

theorem releaseChain_done {s : State} (h : s.releaseDue = false) (n : Nat) : releaseChain n s = s := by
  cases n <;> simp [releaseChain, h]

theorem releaseCheck_unset {s : State} (h : s.asm.expected = none) : releaseCheck s = s := by simp [releaseCheck, h]

theorem releaseCheck_empty {s : State} (h : s.asm.queue = []) : releaseCheck s = s := by
  unfold releaseCheck
  split
  · rfl
  · rw [h]
    rfl

theorem releaseCheck_chain {s : State} {e : Tag} (he : s.asm.expected = some e) {d : Nat}
    (hd : newestDistance e s.asm.queue = some d) : releaseCheck s = releaseChain (d + 1) s := by
  simp [releaseCheck, he, hd]

theorem releaseCheck_done {s : State} (h : s.releaseDue = false) : releaseCheck s = s := by
  unfold releaseCheck
  split
  · rfl
  · split
    · rfl
    · exact releaseChain_done h _

/-- A chain with a release for each slot up to the newest set leaves none due. -/
theorem releaseChain_ends : ∀ (n : Nat) {s : State} {e : Tag}, s.asm.expected = some e →
    (∀ x ∈ s.asm.queue, tagDistance e x.tag < n) → (releaseChain n s).releaseDue = false
  | 0, s, _, _, h => releaseDue_empty (List.eq_nil_iff_forall_not_mem.mpr fun x hx => Nat.not_lt_zero _ (h x hx))
  | n + 1, s, e, he, h => by
    unfold releaseChain
    by_cases hd : s.releaseDue = true
    · rw [if_pos hd]
      refine releaseChain_ends n (releaseSlot_expected he false) fun x hx => ?_
      obtain ⟨y, hy, hyx, -, hne⟩ := releaseSlot_mem he hx
      have h1 := h y hy
      have h2 := tagDistance_succ hne
      rw [hyx] at h1
      omega
    · rw [if_neg hd]
      simpa using hd

theorem releaseCheck_ends (s : State) : (releaseCheck s).releaseDue = false := by
  rcases he : s.asm.expected with _ | e
  · rw [releaseCheck_unset he]
    exact releaseDue_unset he
  · rcases hd : newestDistance e s.asm.queue with _ | d
    · have hq := newestDistance_none.mp hd
      rw [releaseCheck_empty hq]
      exact releaseDue_empty hq
    · rw [releaseCheck_chain he hd]
      exact releaseChain_ends _ he fun x hx => Nat.lt_succ_of_le ((newestDistance_spec hd).1 x hx)

/-- After a release the newest set is one nearer to the expected tag. -/
theorem newestDistance_releaseSlot {s : State} {e : Tag} (he : s.asm.expected = some e) (forced : Bool) {d d' : Nat}
    (hd : newestDistance e s.asm.queue = some d)
    (hd' : newestDistance (e + 1) (releaseSlot forced s).asm.queue = some d') : d = d' + 1 := by
  obtain ⟨hle, x, hx, hxd⟩ := newestDistance_spec hd
  obtain ⟨hle', z, hz, hzd⟩ := newestDistance_spec hd'
  obtain ⟨y, hy, hyz, -, hne⟩ := releaseSlot_mem he hz
  have h1 := hle y hy
  have h2 := tagDistance_succ hne
  rw [hyz] at h1
  have hxe : x.tag ≠ e := fun h => by
    have := tagDistance_eq_zero.mpr h
    omega
  obtain ⟨w, hw, hwx⟩ := releaseSlot_keeps he forced hx hxe
  have h3 := hle' w hw
  have h4 := tagDistance_succ hxe
  rw [hwx] at h3
  omega

/-- R14: a due release, then the check again. -/
theorem releaseCheck_step {s : State} (h : s.releaseDue = true) :
    releaseCheck s = releaseCheck (releaseSlot false s) := by
  rcases he : s.asm.expected with _ | e
  · simp [releaseDue_unset he] at h
  · rcases hd : newestDistance e s.asm.queue with _ | d
    · simp [releaseDue_empty (newestDistance_none.mp hd)] at h
    · have h1 : releaseCheck s = releaseChain d (releaseSlot false s) := by
        rw [releaseCheck_chain he hd]
        simp [releaseChain, h]
      rcases hd' : newestDistance (e + 1) (releaseSlot false s).asm.queue with _ | d'
      · have hq := newestDistance_none.mp hd'
        rw [h1, releaseCheck_empty hq, releaseChain_done (releaseDue_empty hq)]
      · rw [h1, releaseCheck_chain (releaseSlot_expected he false) hd', newestDistance_releaseSlot he false hd hd']

end Sys2Proof.Machine

open Sys2Proof Sys2Proof.Machine

/-- Settles O39: what slotClosed writes, the permutation in which the four act, and the chain of releases. -/
theorem releasePushesWindowsAndAdvancesTags : Obligations.ReleasePushesWindowsAndAdvancesTags := by
  unfold Obligations.ReleasePushesWindowsAndAdvancesTags
  refine ⟨fun s e forced he => ⟨slotClosed e forced s, releaseSlot_eq he forced, ?_⟩, fun s tag => inTurn_eq _ _ _,
    fun s e forced he => ⟨_, rfl, ?_⟩, fun sources c w x _ => ?_, fun contributors s n r hr => ?_,
    fun forced s e he n r hr x hx m hm => ?_, fun s h => ⟨releaseDue_unset h, releaseCheck_unset h⟩,
    fun s e he hi => ⟨fun x hx ht => releaseDue_set hi he hx ht, releaseDue_void he⟩,
    fun s _ => ⟨releaseCheck_done, releaseCheck_ends s, releaseCheck_step⟩⟩
  · obtain ⟨sources, notices, hsrc, hs⟩ := slotClosed_eq e forced s
    have ht := releaseSlot_tracker he forced
    rw [hs] at ht ⊢
    refine ⟨rfl, rfl, rfl, fun q v hv => ?_, rfl, rfl, rfl, rfl, rfl, rfl, rfl, rfl, rfl, rfl, ht⟩
    subst hv
    exact PerQuantity.get_ofFn _ q
  · have hmem : ∀ x ∈ (releaseSlot forced s).asm.queue, x.tag ≠ e := fun x hx => by
      obtain ⟨_, _, _, _, hne⟩ := releaseSlot_mem he hx
      exact hne
    have hwin := releaseSlot_windows he forced
    obtain ⟨sources, notices, hsrc, hs⟩ := slotClosed_eq e forced s
    have ha := releaseSlot_asm he forced
    rw [hs] at ha
    refine ⟨by rw [ha]; rfl, by rw [ha]; rfl, by rw [ha]; rfl, by rw [ha]; rfl, by rw [ha]; rfl, hmem,
      fun q v hv => ?_⟩
    subst hv
    exact hwin q
  · refine ⟨rfl, fun v => rfl, fun hp => ?_, fun hp hl hr => ?_, fun hp hl => ?_⟩
    · simp [pushEntry, hp, Window.push_eq]
    · simp [pushEntry, hp, hl, hr, Window.push_eq]
    · rcases hl with hl | hl
      · simp [pushEntry, hp, hl, Window.push_eq]
      · rcases hv : w.lastValid <;> simp [pushEntry, hp, hv, Nat.not_lt.mpr hl, Window.push_eq]
  · subst hr
    refine ⟨accountMiss_not_aligned, accountMiss_contributed, fun ha hc m hm => ?_⟩
    subst hm
    exact ⟨fun hlt => (accountMiss_missed ha hc rfl).trans (if_neg (Nat.not_le.mpr hlt)),
      fun hle => (accountMiss_missed ha hc rfl).trans (if_pos hle)⟩
  · subst hr hx hm
    rw [releaseSlot_source he]
    have hc := contributorsOf_iff (setAt e s.asm.queue) n
    unfold SourceRec.accounted
    by_cases ha : (s.asm.sources.get n).alignment = .aligned
    · rw [if_pos ha, if_neg (not_not.mpr ha)]
      exact if_congr hc rfl rfl
    · rw [if_neg ha, if_pos ha]
end

section
/-! Sample frames: the checks of R5, the distances of R6, placement, closure and completion; and the silence timer. -/

namespace Sys2Proof.Machine

/-! ## What the assembly leaves of the rest of the state -/

/-- Nothing that the real-time blocks leave alone has changed but the assembler. -/
def OnlyAssembler (s t : State) : Prop := t.outer = { s.outer with asm := t.asm }

theorem OnlyAssembler.of_outer {s t : State} (h : t.outer = s.outer) : OnlyAssembler s t := by
  unfold OnlyAssembler
  rw [asm_of_outer h, h]
  rfl

theorem OnlyAssembler.trans {s t u : State} (h : OnlyAssembler s t) (k : OnlyAssembler t u) : OnlyAssembler s u := by
  unfold OnlyAssembler at *
  rw [k, h]

/-- No frame has been accepted: the map and every source's accepted counter stand, and nothing else has changed that the
assembler and the real-time blocks do not own. -/
structure AcceptsNone (s t : State) : Prop where
  only : OnlyAssembler s t
  map : t.asm.map = s.asm.map
  accepted : ∀ m, (t.asm.sources.get m).counters.accepted = (s.asm.sources.get m).counters.accepted

theorem AcceptsNone.of_outer {s t : State} (h : t.outer = s.outer) : AcceptsNone s t :=
  ⟨.of_outer h, by rw [asm_of_outer h], fun m => by rw [asm_of_outer h]⟩

theorem AcceptsNone.trans {s t u : State} (h : AcceptsNone s t) (k : AcceptsNone t u) : AcceptsNone s u :=
  ⟨h.only.trans k.only, k.map.trans h.map, fun m => (k.accepted m).trans (h.accepted m)⟩

theorem AcceptsNone.refl (s : State) : AcceptsNone s s := .of_outer rfl

theorem SourceRec.accounted_accepted (r : SourceRec) (c : Bool) :
    (r.accounted c).counters.accepted = r.counters.accepted := by
  unfold SourceRec.accounted
  split
  · split <;> rfl
  · rfl

theorem SourceRec.seek_counters (r : SourceRec) : r.seek.counters = r.counters := by
  unfold SourceRec.seek
  split <;> rfl

theorem onlyAssembler_setAsm (s : State) (a : Assembler) : OnlyAssembler s (s.setAsm a) := rfl

theorem onlyAssembler_slotClosed (e : Tag) (forced : Bool) (s : State) : OnlyAssembler s (slotClosed e forced s) := by
  have misses : ∀ (c : Four Bool) (u : State), OnlyAssembler u (accountMisses c u) := fun c u => by
    obtain ⟨_, _, h⟩ := accountMisses_eq c u
    rw [h]
    rfl
  exact ((onlyAssembler_setAsm s _).trans (misses _ _)).trans
    ((OnlyAssembler.of_outer (outer_momentAfter _ _)).trans (onlyAssembler_setAsm _ _))

theorem acceptsNone_releaseSlot (forced : Bool) (s : State) : AcceptsNone s (releaseSlot forced s) := by
  rcases he : s.asm.expected with _ | e
  · rw [releaseSlot_none he]
    exact .refl s
  · refine ⟨?_, ?_, fun m => ?_⟩
    · rw [releaseSlot_eq he]
      exact ((onlyAssembler_slotClosed e forced s).trans (.of_outer (outer_releasedSet e _))).trans
        ((onlyAssembler_setAsm _ _).trans (.of_outer (outer_moment _)))
    · obtain ⟨_, _, -, hs⟩ := slotClosed_eq e forced s
      rw [releaseSlot_asm he, hs]
      rfl
    · rw [releaseSlot_source he, SourceRec.accounted_accepted]

theorem acceptsNone_releaseChain : ∀ (n : Nat) (s : State), AcceptsNone s (releaseChain n s)
  | 0, s => .refl s
  | n + 1, s => by
    unfold releaseChain
    split
    · exact (acceptsNone_releaseSlot false s).trans (acceptsNone_releaseChain n _)
    · exact .refl s

theorem acceptsNone_releaseCheck (s : State) : AcceptsNone s (releaseCheck s) := by
  unfold releaseCheck
  split
  · exact .refl s
  · split
    · exact .refl s
    · exact acceptsNone_releaseChain _ s

theorem acceptsNone_forceReleases : ∀ (n : Nat) (s : State), AcceptsNone s (forceReleases n s)
  | 0, s => .refl s
  | n + 1, s => (acceptsNone_releaseSlot true s).trans (acceptsNone_forceReleases n _)

theorem acceptsNone_discontinuity (tag : Tag) (n : Index4) (s : State) : AcceptsNone s (discontinuity tag n s) := by
  refine ⟨?_, by rw [discontinuity_asm], fun m => ?_⟩
  · have sought : OnlyAssembler s (seekAll (s.setAsm { s.asm with queue := [], expected := some tag })) :=
      (onlyAssembler_setAsm s _).trans (onlyAssembler_setAsm _ _)
    have unlocked : ∀ u, OnlyAssembler u (moment (unlockTrackers u)) := fun u =>
      .of_outer ((outer_moment _).trans (outer_unlockTrackers u))
    exact ((sought.trans (onlyAssembler_setAsm _ _)).trans (unlocked _)).trans
      ((onlyAssembler_setAsm _ _).trans (.of_outer ((outer_moment _).trans (outer_raise _ _))))
  · rw [discontinuity_asm]
    by_cases h : m = n
    · subst h
      simp [SourceRec.seek_counters]
    · simp [Four.get_set_ne _ _ h, SourceRec.seek_counters]

/-! ## Placement (R7) -/

/-- R7: a set after a frame of a source with a tag is placed. -/
def SampleSet.withFrame (map : PerQuantity (Option ChannelRef)) (tag : Tag) (n : Index4) (channels : List Half)
    (x : SampleSet) : SampleSet :=
  if x.tag = tag then
    { x with contributors := x.contributors.set n true, values := placeValues map n channels x.values }
  else x

/-- R2, R7: a source's record after one of its frames is placed. -/
def SourceRec.withFrame (r : SourceRec) : SourceRec :=
  match r.alignment with
  | .seeking | .lost =>
    { r with
      counters := { r.counters with accepted := bump r.counters.accepted }, alignment := .aligned, missRun := 0 }
  | .aligned | .disabled => { r with counters := { r.counters with accepted := bump r.counters.accepted } }

theorem placeFrame_eq (e tag : Tag) (n : Index4) (channels : List Half) (s : State) :
    placeFrame e tag n channels s = s.setAsm { s.asm with
      queue := (withSet e tag s.asm.queue).map (SampleSet.withFrame s.asm.map tag n channels)
      sources := s.asm.sources.set n (s.asm.sources.get n).withFrame } := rfl

theorem SampleSet.withFrame_tag (map : PerQuantity (Option ChannelRef)) (tag : Tag) (n : Index4)
    (channels : List Half) (x : SampleSet) : (x.withFrame map tag n channels).tag = x.tag := by
  unfold SampleSet.withFrame
  split <;> rfl

theorem SampleSet.withFrame_other {map : PerQuantity (Option ChannelRef)} {tag : Tag} {n : Index4}
    {channels : List Half} {x : SampleSet} (h : x.tag ≠ tag) : x.withFrame map tag n channels = x := if_neg h

theorem SourceRec.withFrame_counters (r : SourceRec) :
    r.withFrame.counters = { r.counters with accepted := bump r.counters.accepted } := by
  unfold SourceRec.withFrame
  split <;> rfl

theorem SourceRec.withFrame_sought {r : SourceRec} (h : r.alignment = .seeking ∨ r.alignment = .lost) :
    r.withFrame.alignment = .aligned ∧ r.withFrame.missRun = 0 := by
  rcases h with h | h <;> simp [SourceRec.withFrame, h]

theorem SourceRec.withFrame_aligned {r : SourceRec} (h : r.alignment = .aligned) :
    r.withFrame.alignment = .aligned ∧ r.withFrame.missRun = r.missRun := by
  simp [SourceRec.withFrame, h]

theorem mem_insertSet {e : Tag} {z x : SampleSet} : ∀ {queue : List SampleSet},
    x ∈ insertSet e z queue ↔ x = z ∨ x ∈ queue
  | [] => by simp [insertSet]
  | y :: rest => by
    unfold insertSet
    split
    · simp
    · simp only [List.mem_cons, mem_insertSet]
      tauto

/-- R7: the sets of the queue, and a new one where there was none with the tag. -/
theorem mem_withSet {e tag : Tag} {queue : List SampleSet} {x : SampleSet} :
    x ∈ withSet e tag queue ↔ x ∈ queue ∨ (∀ z ∈ queue, z.tag ≠ tag) ∧ x = .new tag := by
  unfold withSet
  split
  · next h =>
    obtain ⟨z, hz, ht⟩ : ∃ z ∈ queue, z.tag = tag := by simpa [hasSet] using h
    exact ⟨.inl, fun k => k.resolve_right fun ⟨hn, _⟩ => hn z hz ht⟩
  · next h =>
    have hn : ∀ z ∈ queue, z.tag ≠ tag := by simpa [hasSet] using h
    rw [mem_insertSet]
    exact ⟨fun k => k.symm.imp_right fun hx => ⟨hn, hx⟩, fun k => k.symm.imp_left And.right⟩

/-- R7: what a placement writes of a quantity mapped to the source, and that it leaves the others. -/
theorem placeValues_spec (map : PerQuantity (Option ChannelRef)) (n : Index4) (channels : List Half)
    (old : PerQuantity (Option Int)) (q : Quantity) :
    (∀ c, map.get q = some ⟨n, c⟩ →
      (∀ w, channels[c.val]? = some w → w ≠ 0x8000 → (placeValues map n channels old).get q = some w.toInt) ∧
      ((channels[c.val]? = none ∨ channels[c.val]? = some 0x8000) → (placeValues map n channels old).get q = none)) ∧
    ((∀ c, map.get q ≠ some ⟨n, c⟩) → (placeValues map n channels old).get q = old.get q) := by
  have hg : (placeValues map n channels old).get q = (match map.get q with
      | none => old.get q
      | some c => if c.source = n then channelValue channels c.channel else old.get q) :=
    PerQuantity.get_ofFn _ q
  refine ⟨fun c hc => ?_, fun hc => ?_⟩
  · rw [hg, hc]
    simp only [if_true]
    unfold channelValue
    refine ⟨fun w hw hne => ?_, fun h => ?_⟩
    · simp only [hw]
      exact if_neg hne
    · rcases h with h | h <;> simp [h]
  · rw [hg]
    split
    · rfl
    · next c hm => exact if_neg fun hs => hc c.channel (hm.trans (by rw [← hs]))

/-! ## Acceptance (R7, R20) -/

theorem isDuplicate_iff (tag : Tag) (n : Index4) (queue : List SampleSet) :
    isDuplicate tag n queue = true ↔ ∃ x ∈ queue, x.tag = tag ∧ x.contributors.get n = true := by
  simp [isDuplicate]

theorem acceptFrame_duplicate {tag : Tag} {n : Index4} {s : State} (h : isDuplicate tag n s.asm.queue = true)
    (e : Tag) (f : SampleFrame) :
    acceptFrame e tag n f s = s.countSource n fun c => { c with duplicate := bump c.duplicate } := by
  simp [acceptFrame, h]

section
variable {e tag : Tag} {n : Index4} {f : SampleFrame} {s : State} (h : isDuplicate tag n s.asm.queue = false)
include h

/-- R7: of a source other than the status source the release check alone follows. -/
theorem acceptFrame_other (hs : s.params.statusSource ≠ n) :
    acceptFrame e tag n f s = releaseCheck (completeSets (closeSets e tag (placeFrame e tag n f.channels s))) := by
  unfold acceptFrame
  rw [h, if_neg Bool.false_ne_true]
  exact if_neg hs

/-- R7, R20: of the status source the aux flags are handed over, before or after the release check (log 10). -/
theorem acceptFrame_status (hs : s.params.statusSource = n) {u : State}
    (hu : u = completeSets (closeSets e tag (placeFrame e tag n f.channels s))) :
    acceptFrame e tag n f s = handAux (auxFlags f.status) (releaseCheck u) ∨
      ∃ k, acceptFrame e tag n f s =
          moment (handAux (auxFlags f.status) (moment (releaseCheck { u with freeCount := k }))) ∨
        acceptFrame e tag n f s =
          moment (releaseCheck (moment (handAux (auxFlags f.status) { u with freeCount := k }))) := by
  have ha : acceptFrame e tag n f s = u.inTurn (u.releaseDue && u.auxTurns (auxFlags f.status))
      [releaseCheck, handAux (auxFlags f.status)] := by
    subst hu
    unfold acceptFrame
    rw [h, if_neg Bool.false_ne_true]
    exact if_pos hs
  rw [ha]
  cases u.releaseDue && u.auxTurns (auxFlags f.status) with
  | false => exact .inl rfl
  | true =>
    refine .inr ⟨u.freeCount + 1, ?_⟩
    unfold State.inTurn
    rcases perm_pair (ordered_perm u true [releaseCheck, handAux (auxFlags f.status)]) with hl | hl <;>
      simp only [hl]
    · exact .inl rfl
    · exact .inr rfl

end

/-- A frame of a source has been accepted: its accepted counter is one more, the others and the map stand, and nothing
else has changed that the assembler and the real-time blocks do not own. -/
structure AcceptsOne (n : Index4) (s t : State) : Prop where
  only : OnlyAssembler s t
  map : t.asm.map = s.asm.map
  counted : (t.asm.sources.get n).counters.accepted = bump (s.asm.sources.get n).counters.accepted
  others : ∀ m, m ≠ n → (t.asm.sources.get m).counters.accepted = (s.asm.sources.get m).counters.accepted

theorem AcceptsOne.after {n : Index4} {s t u : State} (h : AcceptsOne n s t) (k : AcceptsNone t u) :
    AcceptsOne n s u :=
  ⟨h.only.trans k.only, k.map.trans h.map, (k.accepted n).trans h.counted,
    fun m hm => (k.accepted m).trans (h.others m hm)⟩

theorem AcceptsNone.before {n : Index4} {s t u : State} (h : AcceptsNone s t) (k : AcceptsOne n t u) :
    AcceptsOne n s u :=
  ⟨h.only.trans k.only, k.map.trans h.map, k.counted.trans (by rw [h.accepted]),
    fun m hm => (k.others m hm).trans (h.accepted m)⟩

theorem placeFrame_acceptsOne (e tag : Tag) (n : Index4) (channels : List Half) (s : State) :
    AcceptsOne n s (completeSets (closeSets e tag (placeFrame e tag n channels s))) := by
  refine ⟨rfl, rfl, ?_, fun m hm => ?_⟩ <;> rw [placeFrame_eq]
  · simp [completeSets, closeSets, SourceRec.withFrame_counters]
  · simp [completeSets, closeSets, Four.get_set_ne _ _ hm]

theorem acceptFrame_acceptsOne {tag : Tag} {n : Index4} {s : State} (h : isDuplicate tag n s.asm.queue = false)
    (e : Tag) (f : SampleFrame) : AcceptsOne n s (acceptFrame e tag n f s) := by
  have placed := placeFrame_acceptsOne e tag n f.channels s
  by_cases hs : s.params.statusSource = n
  · have hand : ∀ u, AcceptsNone u (handAux (auxFlags f.status) u) := fun u => .of_outer (outer_handAux _ u)
    have hmoment : ∀ u, AcceptsNone u (moment u) := fun u => .of_outer (outer_moment u)
    have count : ∀ (u : State) k, AcceptsNone u { u with freeCount := k } := fun _ _ => .of_outer rfl
    rcases acceptFrame_status (f := f) h hs rfl with ha | ⟨k, ha | ha⟩ <;> rw [ha]
    · exact placed.after ((acceptsNone_releaseCheck _).trans (hand _))
    · exact ((placed.after (count _ k)).after ((acceptsNone_releaseCheck _).trans (hmoment _))).after
        ((hand _).trans (hmoment _))
    · exact ((placed.after (count _ k)).after ((hand _).trans (hmoment _))).after
        ((acceptsNone_releaseCheck _).trans (hmoment _))
  · rw [acceptFrame_other h hs]
    exact placed.after (acceptsNone_releaseCheck _)

/-! ## The tag distance of a frame (R6) -/

section
variable {e tag : Tag} {n : Index4} {f : SampleFrame} {s : State}

theorem handleFrame_near (h : tagDistance e tag ≤ 7) : handleFrame e tag n f s = acceptFrame e tag n f s := if_pos h

theorem handleFrame_forced (h1 : 8 ≤ tagDistance e tag) (h2 : tagDistance e tag ≤ 63) : handleFrame e tag n f s =
    acceptFrame (e + BitVec.ofNat 12 (tagDistance e tag - 7)) tag n f (forceReleases (tagDistance e tag - 7) s) := by
  unfold handleFrame
  simp only [if_neg (Nat.not_le.mpr h1), if_pos h2]

theorem handleFrame_jump (h1 : 64 ≤ tagDistance e tag) (h2 : tagDistance e tag ≤ 2047) :
    handleFrame e tag n f s = acceptFrame tag tag n f (discontinuity tag n s) := by
  unfold handleFrame
  simp only [if_neg (show ¬tagDistance e tag ≤ 7 by omega), if_neg (Nat.not_le.mpr h1), if_pos h2]

theorem handleFrame_late (h : 2048 ≤ tagDistance e tag) :
    handleFrame e tag n f s = s.countSource n fun c => { c with late := bump c.late } := by
  unfold handleFrame
  simp only [if_neg (show ¬tagDistance e tag ≤ 7 by omega), if_neg (show ¬tagDistance e tag ≤ 63 by omega),
    if_neg (Nat.not_le.mpr h)]

/-- A source that has not contributed to a tag's set has not after forced releases. -/
theorem isDuplicate_forceReleases : ∀ (k : Nat) {s : State}, isDuplicate tag n s.asm.queue = false →
    isDuplicate tag n (forceReleases k s).asm.queue = false
  | 0, _, h => h
  | k + 1, s, h => by
    refine isDuplicate_forceReleases k ?_
    rcases he : s.asm.expected with _ | e
    · rwa [releaseSlot_none he]
    · rw [← Bool.not_eq_true, isDuplicate_iff] at h ⊢
      rintro ⟨x, hx, ht, hc⟩
      obtain ⟨y, hy, hyt, hyc, -⟩ := releaseSlot_mem he hx
      exact h ⟨y, hy, hyt.trans ht, by rw [hyc, hc]⟩

/-- R6: a frame that is neither late nor a duplicate is accepted, whatever its distance. -/
theorem handleFrame_acceptsOne (hd : tagDistance e tag ≤ 2047) (h : isDuplicate tag n s.asm.queue = false) :
    AcceptsOne n s (handleFrame e tag n f s) := by
  rcases Nat.lt_or_ge 7 (tagDistance e tag) with h7 | h7
  · rcases Nat.lt_or_ge 63 (tagDistance e tag) with h63 | h63
    · rw [handleFrame_jump h63 hd]
      refine (acceptsNone_discontinuity tag n s).before (acceptFrame_acceptsOne ?_ _ _)
      rw [discontinuity_asm]
      rfl
    · rw [handleFrame_forced h7 h63]
      exact (acceptsNone_forceReleases _ s).before (acceptFrame_acceptsOne (isDuplicate_forceReleases _ h) _ _)
  · rw [handleFrame_near h7]
    exact acceptFrame_acceptsOne h _ _

end

/-! ## The checks of a sample frame (R5) -/

theorem takeSample_badFormat {f : SampleFrame}
    (h : 3 < f.source.toNat ∨ f.channels.length = 0 ∨ 8 < f.channels.length ∨ 4095 < f.tag.toNat) (s : State) :
    takeSample f s = s.countM PortCounters.badFormat := by
  unfold takeSample
  split
  · rfl
  · next n hn =>
    rcases h with h | h
    · cases (index4?_none h).symm.trans hn
    · exact if_pos h

/-- A frame of a source by number, with 1 to 8 channels and a tag of 12 bits. -/
structure WellFormedFrame (f : SampleFrame) (n : Index4) : Prop where
  source : index4? f.source = some n
  some : 1 ≤ f.channels.length
  most : f.channels.length ≤ 8
  tag : f.tag.toNat ≤ 4095

section
variable {f : SampleFrame} {n : Index4} {s : State} (hf : WellFormedFrame f n)
include hf

theorem takeSample_wellFormed : takeSample f s =
    if (s.asm.sources.get n).alignment = .disabled then s.countM fun c => { c with unsolicited := bump c.unsolicited }
    else if f.status.getLsbD 7 then s.countSource n fun c => { c with testDiscarded := bump c.testDiscarded }
    else handleFrame (s.asm.expected.getD (f.tag.setWidth 12)) (f.tag.setWidth 12) n f
      (s.setAsm { s.asm with expected := some (s.asm.expected.getD (f.tag.setWidth 12)) }) := by
  obtain ⟨hn, h1, h8, ht⟩ := hf
  unfold takeSample
  simp only [hn]
  rw [if_neg (by omega)]
  rcases he : s.asm.expected with _ | e
  · rfl
  · have hs : s.setAsm { s.asm with expected := some e } = s := by
      rw [← he]
      rfl
    rw [Option.getD_some, hs]

theorem takeSample_disabled (ha : (s.asm.sources.get n).alignment = .disabled) :
    takeSample f s = s.countM fun c => { c with unsolicited := bump c.unsolicited } :=
  (takeSample_wellFormed hf).trans (if_pos ha)

theorem takeSample_test (ha : (s.asm.sources.get n).alignment ≠ .disabled) (ht : f.status.getLsbD 7 = true) :
    takeSample f s = s.countSource n fun c => { c with testDiscarded := bump c.testDiscarded } :=
  (takeSample_wellFormed hf).trans ((if_neg ha).trans (if_pos ht))

theorem takeSample_unset (ha : (s.asm.sources.get n).alignment ≠ .disabled) (ht : f.status.getLsbD 7 = false)
    (he : s.asm.expected = none) :
    takeSample f s = handleFrame (f.tag.setWidth 12) (f.tag.setWidth 12) n f
      (s.setAsm { s.asm with expected := some (f.tag.setWidth 12) }) := by
  rw [takeSample_wellFormed hf, if_neg ha, ht, if_neg Bool.false_ne_true, he]
  rfl

theorem takeSample_set (ha : (s.asm.sources.get n).alignment ≠ .disabled) (ht : f.status.getLsbD 7 = false) {e : Tag}
    (he : s.asm.expected = some e) : takeSample f s = handleFrame e (f.tag.setWidth 12) n f s := by
  have hs : s.setAsm { s.asm with expected := some e } = s := by
    rw [← he]
    rfl
  rw [takeSample_wellFormed hf, if_neg ha, ht, if_neg Bool.false_ne_true, he, Option.getD_some, hs]

end

/-- R5: the directives that wait stay as a sample frame is taken. -/
theorem takeSample_queue (f : SampleFrame) (s : State) : (takeSample f s).processor.queue = s.processor.queue := by
  unfold takeSample
  split
  · rfl
  · split
    · rfl
    · split
      · rfl
      · split
        · rfl
        · dsimp only
          split
          · exact (handleFrame_queue _ _ _ _ _).trans rfl
          · exact handleFrame_queue _ _ _ _ _

/-- R194: a sample frame that is not oversize is taken, and the step ends. -/
theorem sampleFrame_settled {s : State} (h : Free s) {f : SampleFrame} (hl : f.channels.length ≤ 76) :
    ∃ t, exec (.sampleFrame f) s = .next t ∧ Settled (takeSample f s.received) t := by
  have hr : receiveM (8 + 2 * f.channels.length) (takeSample f) s = takeSample f s.received :=
    if_neg (by simp only [Config.frameLimit]; omega)
  obtain ⟨t, ht, hs⟩ := exec_settled (f := receiveM (8 + 2 * f.channels.length) (takeSample f)) h.high
    (i := .sampleFrame f) rfl (by rw [hr, takeSample_queue]; exact h.queue)
  exact ⟨t, ht, hr ▸ hs⟩

theorem sampleFrame_oversize {s : State} (h : Free s) {f : SampleFrame} (hl : 76 < f.channels.length) :
    ∃ t, exec (.sampleFrame f) s = .next t ∧ Settled (s.countM fun c => { c with oversize := bump c.oversize }) t := by
  have hr : receiveM (8 + 2 * f.channels.length) (takeSample f) s =
      s.countM fun c => { c with oversize := bump c.oversize } :=
    if_pos (by simp only [Config.frameLimit]; omega)
  obtain ⟨t, ht, hs⟩ := exec_settled (f := receiveM (8 + 2 * f.channels.length) (takeSample f)) h.high
    (i := .sampleFrame f) rfl (by rw [hr]; exact h.queue)
  exact ⟨t, ht, hr ▸ hs⟩

/-! ## Closure and completion (R12, R13) -/

theorem completes_iff (sources : Four SourceRec) (contributors : Four Bool) : completes sources contributors = true ↔
    ¬∃ n, (sources.get n).alignment = .aligned ∧ contributors.get n = false := by
  simp only [completes, List.all_eq_true, not_exists, not_and]
  refine ⟨fun h n ha => ?_, fun h n _ => ?_⟩
  · simpa [ha] using h n (Index4.mem_all n)
  · by_cases ha : (sources.get n).alignment = .aligned
    · simpa [ha] using h n ha
    · simp [ha]

theorem completeSet_opened {sources : Four SourceRec} {x : SampleSet} (h : x.state = .opened)
    (hc : completes sources x.contributors = true) : completeSet sources x = { x with state := .complete } :=
  if_pos ⟨h, hc⟩

theorem completeSet_same {sources : Four SourceRec} {x : SampleSet}
    (h : x.state ≠ .opened ∨ completes sources x.contributors = false) : completeSet sources x = x := by
  refine if_neg fun ⟨ho, hc⟩ => ?_
  rcases h with h | h
  · exact h ho
  · simp [h] at hc

/-! ## What the arbiter leaves at the end of a step -/

/-- Serving the M transmitter leaves what the real-time blocks leave, but for the transmitter and the pacing reply. -/
theorem Settled.outer {u t : State} (h : Settled u t) :
    { t.outer with pacing := none, transmitter := none } = { u.outer with pacing := none, transmitter := none } := by
  cases h with
  | busy _ => rfl
  | nothing _ _ => rfl
  | reply k _ _ =>
    unfold beginReply
    split <;> rfl
  | notice k n _ _ => rfl

end Sys2Proof.Machine

open Sys2Proof Sys2Proof.Machine

/-- Settles O37: each frame that is not accepted fails one of the checks of R5, is late, or is a duplicate. -/
theorem sampleFrameIsDiscardedAndCounted : Obligations.SampleFrameIsDiscardedAndCounted := by
  unfold Obligations.SampleFrameIsDiscardedAndCounted
  intro s f h
  refine ⟨sampleFrame_oversize h, fun hl hb => ?_, fun n hn h1 h8 htag => ?_⟩
  · obtain ⟨t, ht, hs⟩ := sampleFrame_settled h hl
    exact ⟨t, ht, takeSample_badFormat hb s.received ▸ hs⟩
  · have hf : WellFormedFrame f n := ⟨hn, h1, h8, htag⟩
    obtain ⟨t, ht, hs⟩ := sampleFrame_settled h (h8.trans (by decide))
    refine ⟨fun ha => ⟨t, ht, ?_⟩, fun ha htest => ⟨t, ht, ?_⟩, fun ha htest e he => ⟨fun hd => ⟨t, ht, ?_⟩,
      fun hd hdup => ⟨t, ht, ?_⟩⟩⟩
    · rwa [takeSample_disabled (s := s.received) hf ha] at hs
    · rwa [takeSample_test (s := s.received) hf ha htest] at hs
    · rwa [takeSample_set (s := s.received) hf ha htest he, handleFrame_late hd] at hs
    · rwa [takeSample_set (s := s.received) hf ha htest he, handleFrame_near hd,
        acceptFrame_duplicate (s := s.received) hdup] at hs
end

section
/-! A sample frame that passes the checks of R5, part by part. -/

namespace Sys2Proof.Machine

/-! ## Discontinuity (R10) -/

theorem SourceRec.seek_eq (r : SourceRec) :
    r.seek = if r.alignment = .disabled then r else { r with alignment := .seeking, missRun := 0 } := by
  rcases h : r.alignment <;> simp [SourceRec.seek, h]

/-- R10: the state whose trackers a discontinuity unlocks. -/
def discontinuityPlaced (tag : Tag) (n : Index4) (s : State) : State :=
  let s1 := seekAll (s.setAsm { s.asm with queue := [], expected := some tag })
  s1.setSource n { s1.asm.sources.get n with alignment := .aligned, missRun := 0 }

theorem discontinuity_eq (tag : Tag) (n : Index4) (s : State) : discontinuity tag n s =
    moment (raise .tracker ((moment (unlockTrackers (discontinuityPlaced tag n s))).countAsm fun c =>
      { c with discontinuity := bump c.discontinuity })) := rfl

@[simp] theorem State.countAsm_trackers (s : State) (f : AssemblyCounters → AssemblyCounters) :
    (s.countAsm f).trackers = s.trackers := rfl

@[simp] theorem State.countAsm_control (s : State) (f : AssemblyCounters → AssemblyCounters) :
    (s.countAsm f).control = s.control := rfl

@[simp] theorem State.countAsm_capture (s : State) (f : AssemblyCounters → AssemblyCounters) :
    (s.countAsm f).capture = s.capture := rfl

@[simp] theorem State.countAsm_notices (s : State) (f : AssemblyCounters → AssemblyCounters) :
    (s.countAsm f).notices = s.notices := rfl

theorem discontinuity_trackers (tag : Tag) (n : Index4) (s : State) (b : Branch) :
    (discontinuity tag n s).trackers.get b = (s.trackers.get b).unlock := by
  rw [discontinuity_eq, moment_trackers, raise_trackers, State.countAsm_trackers, moment_trackers]
  exact (unlockTrackers_spec (discontinuityPlaced tag n s)).1 b

theorem discontinuity_control (tag : Tag) (n : Index4) (s : State) :
    (discontinuity tag n s).control = (unlockTrackers (discontinuityPlaced tag n s)).control := by
  rw [discontinuity_eq, moment_control, raise_control, State.countAsm_control, moment_control]

theorem discontinuity_capture (tag : Tag) (n : Index4) (s : State) :
    (discontinuity tag n s).capture = s.capture := by
  rw [discontinuity_eq, moment_capture, raise_capture, State.countAsm_capture, moment_capture]
  obtain ⟨-, -, -, capture⟩ := unlockTrackers_spec (discontinuityPlaced tag n s)
  exact capture

theorem discontinuity_notice (tag : Tag) (n : Index4) (s : State) :
    ((discontinuity tag n s).notices.records.get .tracker).status = true := by
  rw [discontinuity_eq, moment_records, raise_status]
  simp

theorem discontinuity_source (tag : Tag) (n : Index4) (s : State) :
    (discontinuity tag n s).asm.sources.get n =
      { s.asm.sources.get n with alignment := .aligned, missRun := 0 } := by
  rw [discontinuity_asm]
  simp only [Four.get_set_self]
  rw [SourceRec.seek_eq]
  split <;> rfl

theorem discontinuity_source_ne (tag : Tag) {n m : Index4} (s : State) (h : m ≠ n) :
    (discontinuity tag n s).asm.sources.get m = (s.asm.sources.get m).seek := by
  rw [discontinuity_asm]
  simp only [Four.get_set_ne _ _ h, Four.get_ofFn]

/-! ## The step of a frame that passes (R5, R6) -/

section
variable {s : State} {f : SampleFrame} {n : Index4} (h : Free s) (hf : WellFormedFrame f n)
  (ha : (s.asm.sources.get n).alignment ≠ .disabled) (ht : f.status.getLsbD 7 = false)
include h hf ha ht

theorem sampleFrame_unset (he : s.asm.expected = none) : ∃ t, exec (.sampleFrame f) s = .next t ∧
    Settled (handleFrame (f.tag.setWidth 12) (f.tag.setWidth 12) n f
      (s.received.setAsm { s.asm with expected := some (f.tag.setWidth 12) })) t := by
  obtain ⟨t, hx, hs⟩ := sampleFrame_settled h (hf.most.trans (by decide))
  exact ⟨t, hx, takeSample_unset (s := s.received) hf ha ht he ▸ hs⟩

theorem sampleFrame_set {e : Tag} (he : s.asm.expected = some e) : ∃ t, exec (.sampleFrame f) s = .next t ∧
    Settled (handleFrame e (f.tag.setWidth 12) n f s.received) t := by
  obtain ⟨t, hx, hs⟩ := sampleFrame_settled h (hf.most.trans (by decide))
  exact ⟨t, hx, takeSample_set (s := s.received) hf ha ht he ▸ hs⟩

/-- R5, R7: a frame that is neither late nor a duplicate is accepted, whatever its distance. -/
theorem sampleFrame_accepted
    (hd : ∀ e, s.asm.expected = some e → tagDistance e (f.tag.setWidth 12) ≤ 2047)
    (hdup : isDuplicate (f.tag.setWidth 12) n s.asm.queue = false) :
    ∃ t u, exec (.sampleFrame f) s = .next t ∧ Settled u t ∧ AcceptsOne n s.received u ∧
      u.processor.queue = [] ∧
      ∀ e, s.asm.expected = some e → u = handleFrame e (f.tag.setWidth 12) n f s.received := by
  rcases he : s.asm.expected with _ | e
  · obtain ⟨t, hx, hs⟩ := sampleFrame_unset h hf ha ht he
    have first : AcceptsNone s.received (s.received.setAsm { s.asm with expected := some (f.tag.setWidth 12) }) :=
      ⟨rfl, rfl, fun _ => rfl⟩
    refine ⟨t, _, hx, hs, first.before (handleFrame_acceptsOne (by simp [tagDistance_self]) hdup), ?_, nofun⟩
    rw [handleFrame_queue]
    exact h.queue
  · obtain ⟨t, hx, hs⟩ := sampleFrame_set h hf ha ht he
    refine ⟨t, _, hx, hs, handleFrame_acceptsOne (hd e he) hdup, ?_, fun e' he' => by cases he'; rfl⟩
    rw [handleFrame_queue]
    exact h.queue

end

/-! ## Placement in a queue in tag order (R7, R8) -/

/-- R8: the tags of the queue after a placement: those nearer, the frame's, those farther. -/
theorem placeFrame_order {s : State} (hi : AssemblyInv s) {e : Tag} (he : s.asm.expected = some e) (tag : Tag)
    (n : Index4) (channels : List Half) :
    (placeFrame e tag n channels s).asm.queue.map SampleSet.tag =
      (s.asm.queue.filter fun x => decide (tagDistance e x.tag < tagDistance e tag)).map SampleSet.tag ++ [tag] ++
        (s.asm.queue.filter fun x => decide (tagDistance e tag < tagDistance e x.tag)).map SampleSet.tag := by
  obtain ⟨z, rfl, -, hw⟩ := withSet_split (tag := tag) (hi.inTagOrder he)
  rw [placeFrame_tags, hw]
  simp

section
variable {e tag : Tag} {n : Index4} {channels : List Half} {s : State}

theorem mem_placeFrame {x : SampleSet} : x ∈ (placeFrame e tag n channels s).asm.queue ↔
    ∃ y ∈ withSet e tag s.asm.queue, y.withFrame s.asm.map tag n channels = x := by
  rw [placeFrame_eq]
  exact List.mem_map

/-- R7: the sets of the other tags stay as they are. -/
theorem mem_placeFrame_other {x : SampleSet} (h : x.tag ≠ tag) :
    x ∈ (placeFrame e tag n channels s).asm.queue ↔ x ∈ s.asm.queue := by
  rw [mem_placeFrame]
  constructor
  · rintro ⟨y, hy, rfl⟩
    rw [SampleSet.withFrame_tag] at h
    rw [SampleSet.withFrame_other h]
    rcases mem_withSet.mp hy with hy | ⟨-, rfl⟩
    · exact hy
    · exact absurd rfl h
  · exact fun hx => ⟨x, mem_withSet.mpr (.inl hx), SampleSet.withFrame_other h⟩

/-- R7: the set of the frame's tag holds the frame's contribution. -/
theorem mem_placeFrame_own {x : SampleSet} (hx : x ∈ (placeFrame e tag n channels s).asm.queue) (h : x.tag = tag) :
    ∃ y : SampleSet, (y ∈ s.asm.queue ∧ y.tag = tag ∨ (∀ z ∈ s.asm.queue, z.tag ≠ tag) ∧ y = .new tag) ∧
      x.state = y.state ∧ (∀ m, x.contributors.get m = (decide (m = n) || y.contributors.get m)) ∧
      x.values = placeValues s.asm.map n channels y.values := by
  obtain ⟨y, hy, rfl⟩ := mem_placeFrame.mp hx
  rw [SampleSet.withFrame_tag] at h
  refine ⟨y, (mem_withSet.mp hy).imp_left fun hy => ⟨hy, h⟩, ?_⟩
  rw [SampleSet.withFrame, if_pos h]
  refine ⟨rfl, fun m => ?_, rfl⟩
  by_cases hm : m = n <;> simp [Four.get_set, hm]

end

/-- R12: the completion test turns to COMPLETE the OPEN sets for which no ALIGNED source is waited for. -/
theorem completeSets_spec (s : State) {waits : SampleSet → Prop}
    (hw : ∀ x, waits x ↔ ∃ n, (s.asm.sources.get n).alignment = .aligned ∧ x.contributors.get n = false) :
    ∃ q, completeSets s = s.setAsm { s.asm with queue := q } ∧ q.length = s.asm.queue.length ∧
      ∀ (i : Nat) (x : SampleSet), s.asm.queue[i]? = some x →
        (x.state = .opened → ¬waits x → q[i]? = some { x with state := .complete }) ∧
        ((x.state ≠ .opened ∨ waits x) → q[i]? = some x) := by
  refine ⟨_, rfl, List.length_map _, fun i x hx => ?_⟩
  rw [List.getElem?_map, hx, Option.map_some, hw, ← completes_iff]
  refine ⟨fun ho hc => by rw [completeSet_opened ho hc], fun h => ?_⟩
  rw [completeSet_same (h.imp_right fun hx => ?_)]
  rw [← Bool.not_eq_true, completes_iff]
  exact not_not.mpr hx

/-- R10: what a discontinuity does, whole. -/
theorem discontinuity_spec (s : State) (tag : Tag) (n : Index4) : ∀ t : State, t = discontinuity tag n s →
    t.asm.queue = [] ∧ t.asm.expected = some tag ∧ t.asm.lastReleased = s.asm.lastReleased ∧
    t.asm.windows = s.asm.windows ∧ t.asm.silence = s.asm.silence ∧ t.asm.map = s.asm.map ∧
    t.asm.counters = { s.asm.counters with discontinuity := bump s.asm.counters.discontinuity } ∧
    t.asm.sources.get n = { s.asm.sources.get n with alignment := .aligned, missRun := 0 } ∧
    (∀ m, m ≠ n → t.asm.sources.get m = (s.asm.sources.get m).seek) ∧
    (∀ b, t.trackers.get b = (s.trackers.get b).unlock) ∧
    (t.notices.records.get .tracker).status = true ∧ t.control.supplyValid = false ∧ t.control.dip = true ∧
    t.params = s.params ∧ t.banks = s.banks ∧ t.capture = s.capture ∧ t.ports = s.ports := by
  rintro t rfl
  have ha := discontinuity_asm tag n s
  have ho := (acceptsNone_discontinuity tag n s).only
  obtain ⟨-, valid, dip, -⟩ := unlockTrackers_spec (discontinuityPlaced tag n s)
  refine ⟨by rw [ha], by rw [ha], by rw [ha], by rw [ha], by rw [ha], by rw [ha], by rw [ha],
    discontinuity_source tag n s, fun m hm => discontinuity_source_ne tag s hm, discontinuity_trackers tag n s,
    discontinuity_notice tag n s, ?_, ?_, congrArg Outer.params ho, congrArg Outer.banks ho,
    discontinuity_capture tag n s, congrArg Outer.ports ho⟩
  · rw [discontinuity_control, valid]
  · rw [discontinuity_control, dip]

/-- What a step that accepts a frame leaves, the arbiter served. -/
theorem AcceptsOne.settled {n : Index4} {s u t : State} (h : AcceptsOne n s.received u) (hs : Settled u t)
    (hr : s.rstn = true) :
    t.ports = { s.ports with m := { s.ports.m with received := bump s.ports.m.received } } ∧
    (t.asm.sources.get n).counters.accepted = bump (s.asm.sources.get n).counters.accepted ∧
    (∀ m, m ≠ n → (t.asm.sources.get m).counters.accepted = (s.asm.sources.get m).counters.accepted) ∧
    t.asm.map = s.asm.map ∧ t.params = s.params ∧ t.banks = s.banks ∧ t.straps = s.straps ∧ t.rstn = true ∧
    t.processor.ticks = s.processor.ticks := by
  have ho := hs.outer
  rw [h.only] at ho
  have ha : t.asm = u.asm := congrArg Outer.asm ho
  rw [ha]
  exact ⟨congrArg Outer.ports ho, h.counted, h.others, h.map, congrArg Outer.params ho, congrArg Outer.banks ho,
    congrArg Outer.straps ho, (congrArg Outer.rstn ho).trans hr, congrArg Outer.ticks ho⟩

end Sys2Proof.Machine

open Sys2Proof Sys2Proof.Machine

/-- Settles O38: the frame by its distance, what forced releases and a discontinuity do, acceptance, placement, closure
and completion. -/
theorem sampleFrameIsAccepted : Obligations.SampleFrameIsAccepted := by
  unfold Obligations.SampleFrameIsAccepted
  refine ⟨fun e t => rfl, fun s f n tag h hn h1 h8 htag ha ht heq => ⟨fun he => ?_, fun e d he hd => ⟨fun h7 => ?_,
      fun h7 h63 => ?_, fun h63 h2047 => ?_⟩⟩,
    fun s k => ⟨rfl, rfl, fun e he => forceReleases_expected k he⟩, fun s tag n t ht => ?_,
    fun s e tag n f => ⟨isDuplicate_iff tag n _, fun hd => acceptFrame_duplicate hd e f,
      fun hd u flags hu hflags => ⟨fun hs => hu ▸ acceptFrame_other hd hs, fun hs => ?_⟩⟩,
    fun s f n h hn h1 h8 htag ha ht hd hq hdup => ?_, fun s e tag n channels hi he hd t ht => ?_,
    fun s e placed => ⟨rfl, fun waits hw => completeSets_spec s hw⟩⟩
  · have hf : WellFormedFrame f n := ⟨hn, h1, h8, htag⟩
    obtain ⟨t, hx, hs⟩ := sampleFrame_unset h hf ha ht he
    rw [handleFrame_near (by simp [tagDistance_self]), ← heq] at hs
    exact ⟨t, hx, hs⟩
  · have hf : WellFormedFrame f n := ⟨hn, h1, h8, htag⟩
    obtain ⟨t, hx, hs⟩ := sampleFrame_set h hf ha ht he
    subst heq hd
    exact ⟨t, hx, handleFrame_near h7 ▸ hs⟩
  · have hf : WellFormedFrame f n := ⟨hn, h1, h8, htag⟩
    obtain ⟨t, hx, hs⟩ := sampleFrame_set h hf ha ht he
    subst heq hd
    exact ⟨t, hx, handleFrame_forced h7 h63 ▸ hs⟩
  · have hf : WellFormedFrame f n := ⟨hn, h1, h8, htag⟩
    obtain ⟨t, hx, hs⟩ := sampleFrame_set h hf ha ht he
    subst heq hd
    exact ⟨t, hx, handleFrame_jump h63 h2047 ▸ hs⟩
  · simp only [← SourceRec.seek_eq]
    exact discontinuity_spec s tag n t ht
  · subst hflags
    exact acceptFrame_status hd hs hu
  · have hf : WellFormedFrame f n := ⟨hn, h1, h8, htag⟩
    obtain ⟨t, u, hx, hs, hone, hqueue, hu⟩ := sampleFrame_accepted h hf ha ht hd hdup
    obtain ⟨ports, counted, others, map, params, banks, straps, rstn, ticks⟩ := hone.settled hs h.high
    refine ⟨t, hx, ports, counted, others, map, params, banks, straps, rstn, hs.queue.trans hqueue, ticks,
      fun e he h7 hsource v hv hdue => ?_⟩
    rw [hu e he, handleFrame_near h7, acceptFrame_other (s := s.received) hdup hsource, ← hv,
      releaseCheck_done hdue] at hs
    exact hs
  · subst ht
    refine ⟨rfl, placeFrame_order hi he tag n channels, fun x hx hne => (mem_placeFrame_other hne).mpr hx,
      fun x hx hne => (mem_placeFrame_other hne).mp hx, fun x hx htag => ?_, fun m hm => Four.get_set_ne _ _ hm, ?_, ?_, ?_⟩
    · obtain ⟨y, hy, hstate, hcontributors, hvalues⟩ := mem_placeFrame_own hx htag
      refine ⟨y, hy, hstate, hcontributors, fun q => ?_⟩
      rw [hvalues]
      exact placeValues_spec s.asm.map n channels y.values q
    all_goals rw [placeFrame_eq, State.setAsm_asm, Four.get_set_self]
    · exact SourceRec.withFrame_counters _
    · exact SourceRec.withFrame_sought
    · exact SourceRec.withFrame_aligned
end

section
/-! The silence timer (R21, R22), and what an evaluation of the base conditions counts. -/

namespace Sys2Proof.Machine

/-! ## The control counters at an evaluation of the base conditions (R146, R149, R150) -/

@[simp] theorem releaseDrop_control (s : State) : (releaseDrop s).control =
    { s.control with counters := { s.control.counters with releaseLost := bump s.control.counters.releaseLost } } := by
  simp [releaseDrop, commitReleaseDrop, rewriteQueue, zeroClamps, zeroCarries, State.countControl]

/-- Of the control counters an evaluation writes those of a lost release and of a restart of the qualifying count. -/
theorem evalBase_counters (s : State) : ∃ lost restarts, (evalBase s).control.counters =
    { s.control.counters with releaseLost := lost, qualifyRestart := restarts } := by
  unfold evalBase
  split
  · unfold startQualifying
    split <;> exact ⟨s.control.counters.releaseLost, s.control.counters.qualifyRestart, rfl⟩
  · unfold holdRelease
    dsimp only
    split
    · exact ⟨_, _, rfl⟩
    · exact ⟨s.control.counters.releaseLost, _, rfl⟩
    · exact ⟨s.control.counters.releaseLost, s.control.counters.qualifyRestart, rfl⟩
    · rw [releaseDrop_control]
      exact ⟨_, s.control.counters.qualifyRestart, rfl⟩

/-! ## The trackers unlocked -/

/-- R136, R149: with every tracker UNLOCKED release is HELD, and no stream interruption is counted. -/
theorem evalSupply_allUnlocked_release (u : State) (h : ∀ b, (u.trackers.get b).state = .unlocked) :
    (evalSupply u).control.release = .held ∧
      (evalSupply u).control.counters.streamInterruption = u.control.counters.streamInterruption := by
  have hv : u.supplyIsValid = false := by simp [State.supplyIsValid, Branch.all, h .ab]
  have hd : u.dipPresent = true := by simp [State.dipPresent, Branch.all, h .ab]
  have begins : ∀ t : State, (dipBegins t).control.release = t.control.release ∧
      (dipBegins t).control.counters.streamInterruption = t.control.counters.streamInterruption := fun t => by
    unfold dipBegins
    split
    · split <;> exact ⟨rfl, rfl⟩
    all_goals exact ⟨rfl, rfl⟩
  unfold evalSupply
  simp only [hv, hd, Bool.false_and, Bool.true_and, Bool.not_true, Bool.false_eq_true, if_false]
  have held := evalBase_held (momentAfter [.mode] (u.setControl { u.control with supplyValid := false, dip := true }))
    (by simp [State.baseConditions])
  obtain ⟨_, _, counted⟩ :=
    evalBase_counters (momentAfter [.mode] (u.setControl { u.control with supplyValid := false, dip := true }))
  have stream := congrArg ControlCounters.streamInterruption counted
  rw [momentAfter_control] at stream
  split
  · obtain ⟨h1, h2⟩ := begins (momentAfterRelease
      (evalBase (momentAfter [.mode] (u.setControl { u.control with supplyValid := false, dip := true }))))
    rw [h1, h2, momentAfterRelease_control]
    exact ⟨held, stream⟩
  · exact ⟨held, stream⟩

theorem unlockTrackers_release (s : State) : (unlockTrackers s).control.release = .held ∧
    (unlockTrackers s).control.counters.streamInterruption = s.control.counters.streamInterruption := by
  have counters : ∀ b t, (unlockTracker b t).control.counters = t.control.counters := fun b t => by
    unfold unlockTracker trackerChanged
    dsimp only
    split
    · rfl
    · split <;> rfl
  obtain ⟨held, stream⟩ := evalSupply_allUnlocked_release (unlockTracker .ca (unlockTracker .bc (unlockTracker .ab s)))
    fun b => by
      rw [(unlockTracker_spec _ _).1, (unlockTracker_spec _ _).1, (unlockTracker_spec _ _).1]
      cases b <;> rfl
  rw [counters, counters, counters] at stream
  exact ⟨held, stream⟩

/-! ## The expiry (R22) -/

/-- R22, 1 to 3: the state whose trackers an expiry of the silence timer unlocks. -/
def silenceCleared (s : State) : State :=
  clearWindows (seekAll (s.setAsm { s.asm with queue := [], expected := none, silence := none }))

theorem expireSilence_eq (s : State) : expireSilence s =
    (raise .stream (streamInterruption (moment (unlockTrackers (silenceCleared s))))).countAsm fun c =>
      { c with streamLoss := bump c.streamLoss } := rfl

/-- R139: what a stream interruption writes in the controller. -/
theorem streamInterruption_control (s : State) : (streamInterruption s).control = { s.control with
    dipState := .spent
    dipCount := 0
    resume := s.control.remembered
    counters := { s.control.counters with
      streamInterruption := bump s.control.counters.streamInterruption } } := rfl

@[simp] theorem streamInterruption_trackers (s : State) : (streamInterruption s).trackers = s.trackers := rfl

@[simp] theorem streamInterruption_capture (s : State) : (streamInterruption s).capture = s.capture := rfl

theorem expireSilence_control (s : State) :
    (expireSilence s).control = (streamInterruption (unlockTrackers (silenceCleared s))).control := by
  rw [expireSilence_eq, State.countAsm_control, raise_control, streamInterruption_control, streamInterruption_control,
    moment_control]

theorem expireSilence_trackers (s : State) (b : Branch) :
    (expireSilence s).trackers.get b = (s.trackers.get b).unlock := by
  obtain ⟨unlocked, -⟩ := unlockTrackers_spec (silenceCleared s)
  rw [expireSilence_eq, State.countAsm_trackers, raise_trackers, streamInterruption_trackers, moment_trackers]
  exact unlocked b

theorem expireSilence_capture (s : State) : (expireSilence s).capture = s.capture := by
  obtain ⟨-, -, -, capture⟩ := unlockTrackers_spec (silenceCleared s)
  rw [expireSilence_eq, State.countAsm_capture, raise_capture, streamInterruption_capture, moment_capture]
  exact capture

theorem expireSilence_notices (s : State) :
    ((expireSilence s).notices.records.get .stream).status = true ∧
      ((expireSilence s).notices.records.get .dip).status = true := by
  rw [expireSilence_eq, State.countAsm_notices, raise_status, raise_status]
  simp [streamInterruption, interrupt, raise_status]

theorem onlyAssembler_expireSilence (s : State) : OnlyAssembler s (expireSilence s) := by
  have cleared : OnlyAssembler s (silenceCleared s) :=
    ((onlyAssembler_setAsm s _).trans (onlyAssembler_setAsm _ _)).trans (onlyAssembler_setAsm _ _)
  have unlocked : ∀ u, OnlyAssembler u (streamInterruption (moment (unlockTrackers u))) := fun u =>
    .of_outer ((outer_streamInterruption _).trans ((outer_moment _).trans (outer_unlockTrackers u)))
  exact (cleared.trans (unlocked _)).trans ((OnlyAssembler.of_outer (outer_raise _ _)).trans (onlyAssembler_setAsm _ _))

theorem expireSilence_queue (s : State) : (expireSilence s).processor.queue = s.processor.queue :=
  congrArg Outer.queue (onlyAssembler_expireSilence s)

end Sys2Proof.Machine

open Sys2Proof Sys2Proof.Machine

/-- Settles O40: an unarmed timer does nothing, a running one counts, and at 1 or less it expires. -/
theorem silenceTimerCountsAndExpires : Obligations.SilenceTimerCountsAndExpires := by
  unfold Obligations.SilenceTimerCountsAndExpires
  intro s h
  refine ⟨fun hn => ⟨?_, ?_⟩, fun k hk => ⟨fun h2 => ?_, fun h1 => ?_, ?_⟩⟩
  · have he : endSamplePeriod s = s := by simp [endSamplePeriod, hn]
    obtain ⟨t, ht, hs⟩ := exec_settled (i := .localSamplePeriod) (f := endSamplePeriod) h.high rfl
      (by rw [he]; exact h.queue)
    exact ⟨t, ht, he ▸ hs⟩
  · have he : silenceExpires s = s := by simp [silenceExpires, hn]
    obtain ⟨t, ht, hs⟩ := exec_settled (i := .silenceTimerExpiry) (f := silenceExpires) h.high rfl
      (by rw [he]; exact h.queue)
    exact ⟨t, ht, he ▸ hs⟩
  · have he : endSamplePeriod s = s.setAsm { s.asm with silence := some (k - 1) } := by
      simp [endSamplePeriod, hk, Nat.not_le.mpr h2]
    obtain ⟨t, ht, hs⟩ := exec_settled (i := .localSamplePeriod) (f := endSamplePeriod) h.high rfl
      (by rw [he]; exact h.queue)
    exact ⟨t, ht, he ▸ hs⟩
  · have he : endSamplePeriod s = silenceExpires s := by simp [endSamplePeriod, silenceExpires, hk, h1]
    calc exec .localSamplePeriod s
      _ = .next (settle (endSamplePeriod s)) := whileReleased_high h.high fun u => settle (endSamplePeriod u)
      _ = .next (settle (silenceExpires s)) := by rw [he]
      _ = exec .silenceTimerExpiry s := (whileReleased_high h.high fun u => settle (silenceExpires u)).symm
  · have he : silenceExpires s = expireSilence s := by simp [silenceExpires, hk]
    obtain ⟨t, ht, hs⟩ := exec_settled (i := .silenceTimerExpiry) (f := silenceExpires) h.high rfl
      (by rw [he, expireSilence_queue]; exact h.queue)
    rw [he] at hs
    have ha := expireSilence_asm s
    have hc := (expireSilence_control s).trans (streamInterruption_control _)
    have ho := onlyAssembler_expireSilence s
    obtain ⟨-, valid, dip, -⟩ := unlockTrackers_spec (silenceCleared s)
    obtain ⟨held, stream⟩ := unlockTrackers_release (silenceCleared s)
    obtain ⟨streamNotice, dipNotice⟩ := expireSilence_notices s
    have hcapture := expireSilence_capture s
    have htrackers := expireSilence_trackers s
    generalize expireSilence s = u at hs ha hc ho streamNotice dipNotice hcapture htrackers
    refine ⟨t, u, ht, hs, by rw [ha], by rw [ha], by rw [ha], by rw [ha], by rw [ha],
      fun q => ?_, fun n => ?_, by rw [ha], htrackers, ?_, ?_, ?_, ?_, ?_, streamNotice, dipNotice,
      congrArg Outer.params ho, congrArg Outer.banks ho, hcapture, congrArg Outer.ports ho⟩
    · rw [ha]
      exact PerQuantity.get_ofFn _ q
    · rw [ha, ← SourceRec.seek_eq]
      exact Four.get_ofFn _ n
    · rw [hc]
      exact held
    · rw [hc]
      exact valid
    · rw [hc]
      exact dip
    · rw [hc]
    · rw [hc]
      exact congrArg bump stream
end

section
/-! The ENGINE reset (R184, R185, Table 9-7), block by block, and what may begin before its DONE (R192). -/

namespace Sys2Proof.Machine

/-! ## The blocks -/

theorem someTracking_iff (s : State) : s.someTracking = true ↔ ∃ b, (s.trackers.get b).state ≠ .unlocked := by
  simp [State.someTracking, Branch.mem_all]

/-- R45: the trackers are reset, and TRACKER is raised for those that tracked. -/
theorem engineResetTrackers_eq (s : State) : ∃ records,
    engineResetTrackers s = (s.setTrackers (.ofFn fun b => (s.trackers.get b).engineReset)).setNotices
      { s.notices with records := records } ∧
    ∀ n, (records.get n).status =
      ((s.notices.records.get n).status || (decide (n = .tracker) && s.someTracking)) := by
  unfold engineResetTrackers
  dsimp only
  split
  · next h =>
    refine ⟨_, rfl, fun n => ?_⟩
    simp only [PerNotice.get_set, State.setTrackers_notices, h]
    by_cases hn : n = .tracker <;> simp [hn]
  · next h => exact ⟨s.notices.records, rfl, fun n => by simp [h]⟩

/-- R85: a pending commit is cancelled with its reply ABORTED; without one nothing happens. -/
theorem abortCommit_eq (s : State) : ∃ tables processor,
    abortCommit s = (s.setTables tables).setProcessor processor ∧ tables.active = s.tables.active ∧
    tables.staged = s.tables.staged ∧ tables.commit = none ∧
    (s.tables.commit = none → tables = s.tables ∧ processor = s.processor) ∧
    ∀ x, s.tables.commit = some x →
      tables.counters = { s.tables.counters with aborted := bump s.tables.counters.aborted } ∧
      processor = { s.processor with
        replies := s.processor.replies ++ [⟨s.straps.unit, x, commitKind, .aborted, .empty⟩] } := by
  unfold abortCommit
  split
  · next h => exact ⟨s.tables, s.processor, rfl, rfl, rfl, h, fun _ => ⟨rfl, rfl⟩, by simp [h]⟩
  · next x h =>
    refine ⟨_, _, rfl, rfl, rfl, rfl, by simp [h], fun y hy => ?_⟩
    cases h.symm.trans hy
    exact ⟨rfl, rfl⟩

/-- R157: the controller's real-time part is reset, and RELEASE is raised where release was not HELD. -/
theorem engineResetControl_eq (s : State) : ∃ records valid dip,
    engineResetControl s = (s.setControl { s.control with
      release := .held
      qualifyCount := 0
      dipState := .unarmed
      dipCount := 0
      wakingCount := 0
      supplyValid := valid
      dip := dip }).setNotices { s.notices with records := records } ∧
    ∀ n, (records.get n).status =
      ((s.notices.records.get n).status || (decide (n = .release) && decide (s.control.release ≠ .held))) := by
  unfold engineResetControl
  dsimp only
  split
  · next h => exact ⟨s.notices.records, _, _, rfl, fun n => by simp [h]⟩
  · next h =>
    refine ⟨_, _, _, rfl, fun n => ?_⟩
    simp only [PerNotice.get_set, State.setControl_notices]
    by_cases hn : n = .release <;> simp [hn, h]

/-- R108: the Order Exchange after an ENGINE reset. -/
def Exchange.engineReset (x : Exchange) : Exchange where
  queue := x.queue.filter VFrame.isBank
  transmitter := x.transmitter.map VTransmission.disown
  branches := .ofFn fun b => ⟨[], false, 0, 0, (x.branches.get b).counters⟩
  counters := x.counters

/-- R108, R157: with release HELD nothing is handed over but the change of valve ready. -/
theorem engineResetExchange_eq {s : State} (h : s.control.release = .held) : ∃ ready,
    engineResetExchange s = (s.setExchange s.exchange.engineReset).setControl
      { s.control with valveReady := ready } := by
  unfold engineResetExchange exchangeQuiescent
  rw [checkReady_held]
  · split
    · exact ⟨s.control.valveReady, rfl⟩
    · exact ⟨_, rfl⟩
  · exact h

/-- R185: the state after an ENGINE reset. -/
theorem engineReset_eq (s : State) : ∃ tables processor records valid dip ready,
    engineReset s = { s with
      asm := (engineResetAssembly s).asm
      trackers := .ofFn fun b => (s.trackers.get b).engineReset
      demand := .ofFn fun b =>
        { s.demand.get b with carry := 0, clamp := 0, trim := 0, gapCount := 0, lastD := none }
      tables := tables
      processor := processor
      exchange := s.exchange.engineReset
      control := { s.control with
        release := .held
        qualifyCount := 0
        dipState := .unarmed
        dipCount := 0
        wakingCount := 0
        supplyValid := valid
        dip := dip
        valveReady := ready }
      notices := { s.notices with records := records } } ∧
    (tables.active = s.tables.active ∧ tables.staged = s.tables.staged ∧ tables.commit = none ∧
      (s.tables.commit = none → tables = s.tables ∧ processor = s.processor) ∧
      ∀ x, s.tables.commit = some x →
        tables.counters = { s.tables.counters with aborted := bump s.tables.counters.aborted } ∧
        processor = { s.processor with
          replies := s.processor.replies ++ [⟨s.straps.unit, x, commitKind, .aborted, .empty⟩] }) ∧
    ∀ n, (records.get n).status = ((s.notices.records.get n).status ||
      (decide (n = .tracker) && s.someTracking) || (decide (n = .release) && decide (s.control.release ≠ .held))) := by
  obtain ⟨records1, htracking, hrecords1⟩ := engineResetTrackers_eq (engineResetAssembly s)
  have hu : engineReset s = engineResetExchange (engineResetControl (abortCommit (engineResetDemand
    (engineResetTrackers (engineResetAssembly s))))) := rfl
  have hv : engineResetDemand (engineResetTrackers (engineResetAssembly s)) = { s with
      asm := (engineResetAssembly s).asm
      trackers := .ofFn fun b => (s.trackers.get b).engineReset
      demand := .ofFn fun b =>
        { s.demand.get b with carry := 0, clamp := 0, trim := 0, gapCount := 0, lastD := none }
      notices := { s.notices with records := records1 } } := by
    rw [htracking]
    rfl
  generalize engineResetDemand (engineResetTrackers (engineResetAssembly s)) = v at hu hv
  obtain ⟨tables, processor, habort, htables⟩ := abortCommit_eq v
  obtain ⟨records2, valid, dip, hcontrol, hrecords2⟩ := engineResetControl_eq (abortCommit v)
  obtain ⟨ready, hexchange⟩ := engineResetExchange_eq (s := engineResetControl (abortCommit v)) (by rw [hcontrol]; rfl)
  rw [hcontrol, habort] at hexchange
  rw [hcontrol, habort, hexchange] at hu
  rw [habort] at hrecords2
  refine ⟨tables, processor, records2, valid, dip, ready, hu.trans ?_, ?_, fun n => ?_⟩
  · subst hv
    simp only [State.setTables, State.setProcessor, State.setControl, State.setNotices, State.setExchange]
  · subst hv
    exact htables
  · subst hv
    exact (hrecords2 n).trans (congrArg (· || _) (hrecords1 n))

/-! ## What begins before a reply that is created after what the directive raised (R184, R192) -/

/-- An idle M transmitter to which a notice or an older reply became available first does not begin the reply. -/
theorem Settled.not_answer {u t : State} {tag kind : Byte} {code : ResultCode} {data : ReplyData}
    (h : Settled ((moment u).answered tag kind code data) t) (ht : u.notices.transmitter = none)
    (hf : u.notices.front = none)
    (hfirst : (u.processor.replies = [] ∧ u.eligible ≠ []) ∨
      ∃ r rest, u.processor.replies = r :: rest ∧ r.kind ≠ kind) :
    t.notices.transmitter ≠ some (.reply ⟨u.straps.unit, tag, kind, code, data⟩) := by
  have htrans : ((moment u).answered tag kind code data).notices.transmitter = none := (moment_transmitter u).trans ht
  cases h with
  | busy hb => simp [htrans] at hb
  | nothing hr _ => simp [State.answered] at hr
  | notice k n _ _ => simp [beginNotice]
  | reply k _ hc =>
    rcases hfirst with ⟨hr, hel⟩ | ⟨r, rest, hr, hne⟩
    · have hm : moment u = u.setNotices { u.notices with front := some ⟨false, u.eligible⟩ } := by
        have hav : u.available = ⟨false, u.eligible⟩ := by simp [State.available, hr]
        simp [moment, ht, hf, hav, Offered.isEmpty, hel]
      have hs : ((moment u).answered tag kind code data).stillAvailable ⟨false, u.eligible⟩ = ⟨false, u.eligible⟩ := by
        have hself : ∀ l : List NoticeSource, l.filter (fun n => l.contains n) = l := fun l => by simp
        have he : ((moment u).answered tag kind code data).eligible = u.eligible := moment_eligible u
        unfold State.stillAvailable
        rw [he, hself]
        rfl
      have hcand : ((moment u).answered tag kind code data).candidates = ⟨false, u.eligible⟩ := by
        have hfront : ((moment u).answered tag kind code data).notices.front = some ⟨false, u.eligible⟩ := by
          rw [hm]
          rfl
        simp only [State.candidates, hfront, hs]
        simp [Offered.isEmpty, hel]
      rw [hcand] at hc
      cases hc
    · have hhead : ((moment u).answered tag kind code data).processor.replies = r :: (rest ++
          [⟨(moment u).straps.unit, tag, kind, code, data⟩]) := by
        simp [State.answered, hr]
      simp only [beginReply, hhead]
      rintro he
      injection he with he
      injection he with he
      exact hne (congrArg Reply.kind he)

end Sys2Proof.Machine

open Sys2Proof Sys2Proof.Machine

/-- Settles O34: the reset block by block, and an idle transmitter that finds something before the reply. -/
theorem engineResetClearsRealTimeState : Obligations.EngineResetClearsRealTimeState := by
  unfold Obligations.EngineResetClearsRealTimeState
  refine ⟨someTracking_iff, fun s tag h => ?_⟩
  have hx : exec (.resetEngine s.unitByte tag) s =
      whileReleased s (directiveArrives s.unitByte tag 25 8 (.reset 0)) := rfl
  have hs := directive_settled_after s tag 25 8 (.reset 0) (moment (engineReset s.taken)) .done (.reset .engine) h
    (by decide) rfl rfl
  rw [whileReleased_high h.high] at hx
  obtain ⟨tables, processor, records, valid, dip, ready, hu, ⟨active, staged, commit, idle, pending⟩, status⟩ :=
    engineReset_eq s.taken
  generalize engineReset s.taken = u at hs hu
  refine ⟨_, u, hx, hs, by rw [hu]; rfl, fun ht hf hfirst => ?_, ?_⟩
  · have hstraps : u.straps = s.straps := by rw [hu]; rfl
    rw [← hstraps]
    refine hs.not_answer (by rw [hu]; exact ht) (by rw [hu]; exact hf) ?_
    obtain ⟨hreplies, -⟩ := h.rest.resolve_left (by simp [ht])
    rcases hc : s.tables.commit with _ | x
    · obtain ⟨-, hp⟩ := idle hc
      exact .inl ⟨by rw [hu]; simp [hp, hreplies], hfirst.resolve_right (not_not.mpr hc)⟩
    · obtain ⟨-, hp⟩ := pending x hc
      refine .inr ⟨⟨s.straps.unit, x, commitKind, .aborted, .empty⟩, [], ?_, (by decide : commitKind ≠ 25)⟩
      rw [hu]
      simp [hp, hreplies]
  · subst hu
    refine ⟨rfl, rfl, rfl, rfl, PerQuantity.get_ofFn _, rfl, rfl, fun n => ?_, PerBranch.get_ofFn _,
      PerBranch.get_ofFn _, active, staged, commit, idle, pending, rfl, rfl, PerBranch.get_ofFn _, rfl, rfl, rfl, rfl,
      rfl, rfl, rfl, rfl, rfl, rfl, rfl, rfl, rfl, rfl, rfl, rfl, status⟩
    rw [← SourceRec.seek_eq]
    exact Four.get_ofFn _ n
end

section
/-! MODE RUN and MODE PARK, and the end of WAKING (R131, R132, R134, R135). -/

namespace Sys2Proof.Machine

theorem primaryMapped_iff (s : State) : s.primaryMapped = true ↔ s.asm.map.ia ≠ none ∧ s.asm.map.ib ≠ none ∧
    s.asm.map.ic ≠ none ∧ s.asm.map.vab ≠ none ∧ s.asm.map.vbc ≠ none ∧ s.asm.map.vca ≠ none := by
  simp [State.primaryMapped, Option.isSome_iff_ne_none, and_assoc]

/-! ## The directive (R132) -/

theorem actMode_unmapped (h : s.primaryMapped = false) : actMode 0 s = s.refuse .unmapped := by
  simp [actMode, modeOperand?, h]

/-- R132: MODE RUN and MODE PARK that are not refused cancel a pending resume and act by the mode. -/
theorem actMode_target {s : State} {operand : Byte} {g : Target}
    (ho : operand = 0 ∧ g = .run ∨ operand = 1 ∧ g = .park) (hm : g = .run → s.primaryMapped = true) :
    actMode operand s = (requestMode g (cancelResume s)).done
      (.mode (requestMode g (cancelResume s)).control.mode (requestMode g (cancelResume s)).control.wakingTarget) := by
  rcases ho with ⟨rfl, rfl⟩ | ⟨rfl, rfl⟩
  · simp [actMode, modeOperand?, hm rfl, takeMode]
  · simp [actMode, modeOperand?, takeMode]

theorem changeMode_eq (m : Mode) (t : Option Target) (s : State) : changeMode m t s =
    if s.control.mode = m then s.setControl { s.control with mode := m, wakingTarget := t, wakingCount := 0 }
    else (s.setControl { s.control with mode := m, wakingTarget := t, wakingCount := 0 }).raised .mode := rfl

theorem requestMode_standing {t : Target} {s : State} (h : s.control.mode = .run ∨ s.control.mode = .park) :
    requestMode t s = evalBase (changeMode t.mode none s) := by
  rcases h with h | h <;> simp [requestMode, h]

theorem requestMode_quiescent {t : Target} {s : State} (h : s.control.mode = .quiescent) :
    requestMode t s = changeMode .waking (some t) s := by
  simp [requestMode, h]

theorem requestMode_waking {t : Target} {s : State} (h : s.control.mode = .waking) :
    requestMode t s = s.setControl { s.control with wakingTarget := some t } := by
  simp [requestMode, h]

theorem requestMode_outside (t : Target) (s : State) : Outside s (requestMode t s) := by
  unfold requestMode
  split
  · exact (changeMode_outside _ _ s).trans (evalBase_only _).outside
  · exact (changeMode_outside _ _ s).trans (evalBase_only _).outside
  · exact changeMode_outside _ _ s
  · exact setControl_outside _ s

/-- R132: no request writes the pending resume. -/
theorem requestMode_resume (t : Target) (s : State) : (requestMode t s).control.resume = s.control.resume := by
  have base : ∀ u, (evalBase u).control.resume = u.control.resume := fun u => by rw [(evalBase_only u).control]
  unfold requestMode
  split
  · rw [base, changeMode_control]
  · rw [base, changeMode_control]
  · rw [changeMode_control]
  · rfl

/-! ## The base conditions in the mode written (R146) -/

theorem evalBase_notice {n : NoticeSource} (hn : n ≠ .release) (s : State) :
    (evalBase s).notices.records.get n = s.notices.records.get n := (evalBase_only s).records n hn

/-- R149: outside RUN release is HELD. -/
theorem evalBase_not_run {s : State} (h : s.control.mode ≠ .run) : (evalBase s).control.release = .held :=
  evalBase_held s (by simp [State.baseConditions, h])

/-- R146: the base conditions coming to hold in HELD start QUALIFYING with count 0 and raise RELEASE. -/
theorem evalBase_starts {s : State} (h : s.baseConditions = true) (hr : s.control.release = .held) :
    (evalBase s).control.release = .qualifying ∧ (evalBase s).control.qualifyCount = 0 ∧
      ((evalBase s).notices.records.get .release).status = true := by
  have he : evalBase s = raise .release
      (s.setControl { s.control with release := .qualifying, qualifyCount := 0 }) := by
    simp [evalBase, h, startQualifying, hr]
  rw [he]
  exact ⟨rfl, rfl, by simp [raise_status]⟩

/-- R145: the mode, the waking and a pending resume are no part of the block cause. -/
theorem blockCause_changed {s t : State} (hp : t.params = s.params) {m : Mode} {g : Option Target} {k : Nat}
    {r : Option Target}
    (hc : t.control = { s.control with mode := m, wakingTarget := g, wakingCount := k, resume := r }) :
    t.blockCause = s.blockCause := by
  unfold State.blockCause
  rw [hc, hp]
  rfl

/-- R131, R146: what the evaluation leaves of a mode just written, and what it starts. -/
theorem evalBase_changeMode {s x : State} (hp : x.params = s.params) {g : Target}
    (hc : x.control = { s.control with mode := g.mode, wakingTarget := none, wakingCount := 0, resume := none }) :
    (evalBase x).control.mode = g.mode ∧ (evalBase x).control.wakingTarget = none ∧
      (evalBase x).control.wakingCount = 0 ∧ (g = .park → (evalBase x).control.release = .held) ∧
      (g = .run → s.control.release = .held → s.control.supplyValid = true → s.blockCause = false →
        (evalBase x).control.release = .qualifying ∧ (evalBase x).control.qualifyCount = 0 ∧
          ((evalBase x).notices.records.get .release).status = true) := by
  have he := (evalBase_only x).control
  rw [hc] at he
  refine ⟨by rw [he], by rw [he], by rw [he], ?_, ?_⟩
  · rintro rfl
    exact evalBase_not_run (by rw [hc]; simp [Target.mode])
  · rintro rfl hr hv hb
    refine evalBase_starts ?_ (by rw [hc]; exact hr)
    simp [State.baseConditions, blockCause_changed hp hc, hb, hc, hv, Target.mode]

/-! ## WAKING (R134, R135) -/

theorem controlEvent_waking {ev : CrossingEvent} {s : State} (hb : ev.branch = .ab) (hp : ev.polarity = .pos)
    (hw : s.control.mode = .waking) : controlEvent ev s = countWaking ev.synthesized s := by
  simp [controlEvent, hb, hp, hw]

theorem controlEvent_passed {ev : CrossingEvent} {s : State} (hw : s.control.mode = .waking)
    (h : ev.branch ≠ .ab ∨ ev.polarity ≠ .pos ∨ ev.synthesized = true) : controlEvent ev s = s := by
  unfold controlEvent
  split
  · next hb hp =>
    have hs : ev.synthesized = true := (h.resolve_left (not_not.mpr hb)).resolve_left (not_not.mpr hp)
    simp [hw, hs, countWaking]
  · rfl

/-- R135: WAKING with a target ends in the mode permitted to it. -/
theorem endWaking_target {s : State} {g : Target} (h : s.control.wakingTarget = some g) :
    endWaking s = evalBase (changeMode (s.permitted g).mode none s) := by
  simp [endWaking, h]

theorem permitted_eq (s : State) (g : Target) :
    (s.permitted g).mode = if g = .run ∧ s.primaryMapped = true then .run else .park := by
  cases g with
  | run => cases h : s.primaryMapped <;> simp [State.permitted, h, Target.mode]
  | park => simp [State.permitted, Target.mode]

end Sys2Proof.Machine

open Sys2Proof Sys2Proof.Machine

/-- Settles O22: the directive by the mode in which it is taken, and the events that WAKING counts. -/
theorem modeDirectiveSetsMode : Obligations.ModeDirectiveSetsMode := by
  unfold Obligations.ModeDirectiveSetsMode
  refine ⟨primaryMapped_iff, fun s tag operand g h ho => ⟨?_, fun hm => ?_⟩, fun s ev hw =>
    ⟨controlEvent_passed hw, fun hb hp hs length hl => ⟨fun hlt => ?_, fun hle g hg => ?_⟩⟩⟩
  · rintro rfl hm
    obtain ⟨rfl, -⟩ := ho.resolve_right (by simp)
    exact exec_answered h rfl (by decide) rfl (actMode_unmapped (s := s.taken) hm)
  · obtain ⟨t, ht, hs⟩ := exec_answered (i := .mode s.unitByte tag operand) h rfl (by decide) rfl
      (actMode_target (s := s.taken) ho hm)
    have out := requestMode_outside g (cancelResume s.taken)
    refine ⟨t, _, ht, hs, requestMode_resume g _, out.params, out.asm, out.trackers, out.banks, out.capture,
      fun hstand => ?_, fun hq => ?_, fun hw => ?_⟩
    · rw [requestMode_standing (s := cancelResume s.taken) hstand]
      have hx : (changeMode g.mode none (cancelResume s.taken)).control = { s.control with
          mode := g.mode, wakingTarget := none, wakingCount := 0, resume := none } := changeMode_control _ _ _
      have hparams : (changeMode g.mode none (cancelResume s.taken)).params = s.params :=
        (changeMode_outside _ _ _).params
      obtain ⟨mode, target, count, parks, starts⟩ := evalBase_changeMode hparams hx
      refine ⟨?_, mode, target, count, parks, starts, fun hne => ?_⟩
      · rintro w rfl
        rw [changeMode_eq]
        rfl
      · rw [evalBase_notice (by decide)]
        exact changeMode_notice _ _ _ hne
    · rw [requestMode_quiescent (s := cancelResume s.taken) hq, changeMode_eq, if_neg]
      · rfl
      · simp [cancelResume, hq]
    · rw [requestMode_waking (s := cancelResume s.taken) hw]
      rfl
  · subst hl
    rw [controlEvent_waking hb hp hw, hs]
    exact if_neg (Nat.not_le.mpr hlt)
  · subst hl
    have hend : controlEvent ev s = endWaking (s.setControl { s.control with
        wakingCount := s.control.wakingCount + 1 }) := by
      rw [controlEvent_waking hb hp hw, hs]
      exact if_pos hle
    have hmode := permitted_eq (s.setControl { s.control with wakingCount := s.control.wakingCount + 1 }) g
    refine ⟨_, hend.trans (endWaking_target hg), ?_⟩
    rw [hmode]
    have out := fun m => changeMode_outside m none (s.setControl { s.control with
      wakingCount := s.control.wakingCount + 1 })
    refine ⟨?_, changeMode_notice _ _ _ ?_, (out _).params, (out _).asm, (out _).trackers, by simp, by simp, by simp,
      (out _).banks, (out _).capture, by simp⟩
    · rw [changeMode_control]
      rfl
    · rw [State.setControl_control, hw]
      split <;> decide
end

section
/-! AUX_SET, the debounce of a hand-over, the edges and the start of a blanking pulse (R151 to R154). -/

namespace Sys2Proof.Machine

/-! ## AUX_SET (R151) -/

theorem auxPolarity?_none {b : Byte} (h : 1 < b.toNat) : auxPolarity? b = none := by
  unfold auxPolarity?
  split
  case h_3 => rfl
  all_goals omega

theorem auxType?_none {b : Byte} (h : 1 < b.toNat) : auxType? b = none := by
  unfold auxType?
  split
  case h_3 => rfl
  all_goals omega

theorem auxActions?_none {b : Byte} (h : 31 < b.toNat) : auxActions? b = none := if_neg (by omega)

theorem actAuxSet_parked {s : State} (h : s.parked = true) {aux polarity kind debounce actions delay width : Byte}
    {n : Index4} {p : AuxPolarity} {k : AuxType} {a : AuxActions} (hn : index4? aux = some n)
    (hp : auxPolarity? polarity = some p) (hk : auxType? kind = some k) (ha : auxActions? actions = some a)
    (hd : delay.toNat ≤ 63) (h1 : 1 ≤ width.toNat) (h63 : width.toNat ≤ 63) :
    actAuxSet aux polarity kind debounce actions delay width s =
      (evalBase (s.setAux n ⟨p, k, debounce.toNat, a, delay.toNat, width.toNat, false, 0, false⟩)).done .empty := by
  simp [actAuxSet, h, hn, hp, hk, ha, within?_some (Nat.zero_le _) hd, within?_some h1 h63]

theorem actAuxSet_range {s : State} (h : s.parked = true) {aux polarity kind debounce actions delay width : Byte}
    (hr : 3 < aux.toNat ∨ 1 < polarity.toNat ∨ 1 < kind.toNat ∨ 31 < actions.toNat ∨ 63 < delay.toNat ∨
      width.toNat = 0 ∨ 63 < width.toNat) :
    actAuxSet aux polarity kind debounce actions delay width s = s.refuse .range := by
  unfold actAuxSet
  rw [h, Bool.not_true, if_neg Bool.false_ne_true]
  split
  · next n p k a d w hn hp hk ha hd hw =>
    rcases hr with hr | hr | hr | hr | hr | hr
    · cases (index4?_none hr).symm.trans hn
    · cases (auxPolarity?_none hr).symm.trans hp
    · cases (auxType?_none hr).symm.trans hk
    · cases (auxActions?_none hr).symm.trans ha
    · cases (within?_none (.inr hr)).symm.trans hd
    · cases (within?_none (by omega)).symm.trans hw
  · rfl

/-! ## The blanking pulse at a BLANK edge (R154) -/

theorem startBlanking_now {s : State} (h : s.control.blanking.state = .idle) (width : Nat) :
    startBlanking 0 width s = evalBase (s.setControl { s.control with
      blanking := ⟨.active, width, width⟩
      counters := { s.control.counters with blankingPulses := bump s.control.counters.blankingPulses } }) := by
  simp only [startBlanking, h]
  rfl

theorem startBlanking_later {s : State} (h : s.control.blanking.state = .idle) {delay : Nat} (hd : delay ≠ 0)
    (width : Nat) : startBlanking delay width s = s.setControl { s.control with
      blanking := ⟨.pending, delay, width⟩
      counters := { s.control.counters with blankingPulses := bump s.control.counters.blankingPulses } } := by
  simp only [startBlanking, h, if_neg hd]
  rfl

theorem startBlanking_ignored {s : State} (h : s.control.blanking.state ≠ .idle) (delay width : Nat) :
    startBlanking delay width s = s.setControl { s.control with
      counters := { s.control.counters with ignoredEdges := bump s.control.counters.ignoredEdges } } := by
  unfold startBlanking
  split
  · next hi => exact absurd hi h
  · rfl
  · rfl

/-! ## What an active edge writes in the controller (R153) -/

/-- What an evaluation of the base conditions writes in the controller. -/
theorem evalBase_control (s : State) : ∃ release count lost restarts, (evalBase s).control = { s.control with
    release := release, qualifyCount := count
    counters := { s.control.counters with releaseLost := lost, qualifyRestart := restarts } } := by
  obtain ⟨lost, restarts, hc⟩ := evalBase_counters s
  have h := (evalBase_only s).control
  rw [hc] at h
  exact ⟨_, _, lost, restarts, h⟩

/-- The same, where nothing is evaluated. -/
theorem control_unevaluated (c : Controller) : ∃ release count lost restarts, c = { c with
    release := release, qualifyCount := count
    counters := { c.counters with releaseLost := lost, qualifyRestart := restarts } } :=
  ⟨c.release, c.qualifyCount, c.counters.releaseLost, c.counters.qualifyRestart, rfl⟩

theorem permitted_target (s : State) (g : Target) :
    s.permitted g = if g = .run ∧ s.primaryMapped = true then .run else .park := by
  cases g with
  | run => cases h : s.primaryMapped <;> simp [State.permitted, h]
  | park => simp [State.permitted]

/-- R153: the controller after the WAKE action of a record. -/
def State.afterWake (s : State) (wake : Bool) : Controller :=
  if wake = true ∧ s.control.mode = .quiescent then
    { s.control with mode := .waking, wakingTarget := some (s.permitted s.params.wakeTarget), wakingCount := 0 }
  else s.control

theorem wake_control (wake : Bool) (s : State) : (actIf wake wakeAction s).control = s.afterWake wake := by
  unfold actIf wakeAction State.afterWake
  cases wake with
  | false => simp
  | true =>
    by_cases h : s.control.mode = .quiescent
    · simp only [h, if_true, and_self]
      exact changeMode_control _ _ _
    · simp [h]

/-- R153: the record after the BLOCK action at an active edge. -/
def AuxRec.blocked (r : AuxRec) : AuxRec :=
  { r with blockLatch := r.blockLatch || (r.actions.block && decide (r.kind = .edge)) }

theorem AuxRec.blocked_of_not {r : AuxRec} (h : r.actions.block = false ∨ r.kind ≠ .edge) : r.blocked = r := by
  rcases h with h | h <;> simp [AuxRec.blocked, h]

theorem block_control {n : Index4} {s : State} {r : AuxRec} (hr : s.control.aux.get n = r) :
    ∃ release count lost restarts, (actIf r.actions.block (blockAction n) s).control = { s.control with
      aux := s.control.aux.set n r.blocked, release := release, qualifyCount := count
      counters := { s.control.counters with releaseLost := lost, qualifyRestart := restarts } } := by
  subst hr
  have same : (s.control.aux.get n).blocked = s.control.aux.get n →
      s.control.aux = s.control.aux.set n (s.control.aux.get n).blocked := fun h => by
    rw [h, Four.set_get_self]
  unfold actIf
  rcases hb : (s.control.aux.get n).actions.block with _ | _
  · rw [if_neg Bool.false_ne_true, ← same (AuxRec.blocked_of_not (.inl hb))]
    exact control_unevaluated s.control
  · rw [if_pos rfl]
    unfold blockAction
    by_cases hk : (s.control.aux.get n).kind = .edge
    · have latched : (s.control.aux.get n).blocked = { s.control.aux.get n with blockLatch := true } := by
        simp [AuxRec.blocked, hb, hk]
      rw [latched]
      simp only [hk, if_true]
      exact evalBase_control _
    · simp only [if_neg hk]
      rw [← same (AuxRec.blocked_of_not (.inr hk))]
      exact evalBase_control s

/-- R154: the pulse after a BLANK action. -/
def Blanking.started (p : Blanking) (delay width : Nat) : Blanking :=
  if p.state = .idle then (if delay = 0 then ⟨.active, width, width⟩ else ⟨.pending, delay, width⟩) else p

/-- R154, R155: the counters after a BLANK action. -/
def ControlCounters.countBlank (c : ControlCounters) (idle : Bool) : ControlCounters :=
  if idle then { c with blankingPulses := bump c.blankingPulses } else { c with ignoredEdges := bump c.ignoredEdges }

theorem startBlanking_control (delay width : Nat) (s : State) :
    ∃ release count lost restarts, (startBlanking delay width s).control = { s.control with
      blanking := s.control.blanking.started delay width, release := release, qualifyCount := count
      counters := { s.control.counters.countBlank (decide (s.control.blanking.state = .idle)) with
        releaseLost := lost, qualifyRestart := restarts } } := by
  unfold Blanking.started ControlCounters.countBlank
  by_cases h : s.control.blanking.state = .idle
  · by_cases hd : delay = 0
    · subst hd
      rw [startBlanking_now h]
      simp only [h, if_true, decide_true]
      exact evalBase_control _
    · rw [startBlanking_later h hd]
      simp only [h, if_true, decide_true, if_neg hd]
      exact control_unevaluated _
  · rw [startBlanking_ignored h]
    simp only [if_neg h, decide_eq_false h, Bool.false_eq_true, if_false]
    exact control_unevaluated _

@[simp] theorem trigger_control (x : TriggerSource) (s : State) : (trigger x s).control = s.control := by
  unfold trigger
  dsimp only
  split
  · split <;> rfl
  all_goals rfl

theorem actIf_same {α : Type} (g : State → α) (has : Bool) {f : State → State} (h : ∀ t, g (f t) = g t) (s : State) :
    g (actIf has f s) = g s := by
  unfold actIf
  split
  · exact h s
  · rfl

theorem State.afterWake_aux (s : State) (wake : Bool) : (s.afterWake wake).aux = s.control.aux := by
  unfold State.afterWake
  split <;> rfl

theorem State.afterWake_blanking (s : State) (wake : Bool) : (s.afterWake wake).blanking = s.control.blanking := by
  unfold State.afterWake
  split <;> rfl

/-- The state in which the actions of an active edge begin: the edge counted (R155). -/
def edgeCounted (n : Index4) (s : State) : State :=
  s.countControl fun c => { c with activeEdges := c.activeEdges.set n (bump (c.activeEdges.get n)) }

/-- R153: the actions WAKE, BLOCK and BLANK of an active edge. -/
def edgeActions (n : Index4) (r : AuxRec) (s : State) : State :=
  actIf r.actions.blank (startBlanking r.blankDelay r.blankWidth)
    (actIf r.actions.block (blockAction n) (actIf r.actions.wake wakeAction (edgeCounted n s)))

theorem activeEdge_eq {n : Index4} {s : State} {r : AuxRec} (hr : s.control.aux.get n = r) : activeEdge n s =
    actIf r.actions.notice (raise .aux) (actIf r.actions.capture (trigger (.aux n)) (edgeActions n r s)) := by
  subst hr
  rfl

/-- R153, R154: an active edge writes the mode by its WAKE action, the latch by its BLOCK action, the pulse by its BLANK
action, the counters, and what an evaluation of the base conditions writes. -/
theorem activeEdge_control {n : Index4} {s : State} {r : AuxRec} (hr : s.control.aux.get n = r) :
    ∃ release count lost restarts, (activeEdge n s).control = { s.afterWake r.actions.wake with
      aux := s.control.aux.set n r.blocked
      blanking := if r.actions.blank then s.control.blanking.started r.blankDelay r.blankWidth
        else s.control.blanking
      release := release
      qualifyCount := count
      counters := { (if r.actions.blank then
          s.control.counters.countBlank (decide (s.control.blanking.state = .idle)) else s.control.counters) with
        activeEdges := s.control.counters.activeEdges.set n (bump (s.control.counters.activeEdges.get n))
        releaseLost := lost
        qualifyRestart := restarts } } := by
  have tail : (activeEdge n s).control = (edgeActions n r s).control := by
    rw [activeEdge_eq hr, actIf_same State.control _ (raise_control _), actIf_same State.control _ (trigger_control _)]
  have hwake : (actIf r.actions.wake wakeAction (edgeCounted n s)).control =
      { s.afterWake r.actions.wake with counters := { s.control.counters with
        activeEdges := s.control.counters.activeEdges.set n (bump (s.control.counters.activeEdges.get n)) } } := by
    rw [wake_control]
    unfold State.afterWake
    by_cases h : r.actions.wake = true ∧ s.control.mode = .quiescent
    · have hu : r.actions.wake = true ∧ (edgeCounted n s).control.mode = .quiescent := h
      rw [if_pos h, if_pos hu]
      rfl
    · have hu : ¬(r.actions.wake = true ∧ (edgeCounted n s).control.mode = .quiescent) := h
      rw [if_neg h, if_neg hu]
      rfl
  rw [tail]
  unfold edgeActions
  generalize actIf r.actions.wake wakeAction (edgeCounted n s) = u at hwake
  obtain ⟨release, count, lost, restarts, hblock⟩ := block_control (n := n) (s := u) (r := r) (by
    rw [hwake]
    exact (congrArg (Four.get · n) (State.afterWake_aux s r.actions.wake)).trans hr)
  rw [hwake] at hblock
  simp only [State.afterWake_aux] at hblock
  generalize actIf r.actions.block (blockAction n) u = v at hblock
  unfold actIf
  cases r.actions.blank with
  | false =>
    refine ⟨release, count, lost, restarts, ?_⟩
    simp only [Bool.false_eq_true, if_false]
    rw [hblock]
    simp only [State.afterWake_blanking]
  | true =>
    obtain ⟨release, count, lost, restarts, hblank⟩ := startBlanking_control r.blankDelay r.blankWidth v
    refine ⟨release, count, lost, restarts, ?_⟩
    simp only [if_true]
    rw [hblank, hblock]
    simp only [State.afterWake_blanking]
    cases decide (s.control.blanking.state = .idle) <;> rfl

/-- R153: an inactive edge writes no record. -/
theorem inactiveEdge_aux (n : Index4) (s : State) : (inactiveEdge n s).control.aux = s.control.aux := by
  unfold inactiveEdge
  dsimp only
  refine (actIf_same (f := raise .aux) (fun t => t.control.aux) _ (fun _ => rfl) _).trans ?_
  exact actIf_same (fun t => t.control.aux) _ (fun t => by rw [(evalBase_only t).control]) s

/-- R153: an inactive edge evaluates the base conditions for a BLOCK action, and raises AUX for a LEVEL record. -/
theorem inactiveEdge_eq (n : Index4) (s : State) : inactiveEdge n s =
    (if (s.control.aux.get n).actions.notice = true ∧ (s.control.aux.get n).kind = .level then raise .aux else id)
      (if (s.control.aux.get n).actions.block then evalBase s else s) := by
  unfold inactiveEdge actIf
  dsimp only
  by_cases h : (s.control.aux.get n).actions.notice = true ∧ (s.control.aux.get n).kind = .level
  · rw [if_pos h, if_pos (by simpa using h)]
  · rw [if_neg h, if_neg (by simpa using h)]
    rfl

/-! ## What an active edge raises and triggers (R153) -/

theorem edgeActions_capture (n : Index4) (r : AuxRec) (s : State) : (edgeActions n r s).capture = s.capture := by
  have blank : ∀ d w t, (startBlanking d w t).capture = t.capture := fun d w t => by
    unfold startBlanking
    dsimp only
    split
    · split
      · exact (evalBase_only _).outside.capture
      · rfl
    all_goals rfl
  have block : ∀ t, (blockAction n t).capture = t.capture := fun t => by
    unfold blockAction
    dsimp only
    rw [(evalBase_only _).outside.capture]
    split <;> rfl
  have wake : ∀ t, (wakeAction t).capture = t.capture := fun t => by
    unfold wakeAction
    split
    · exact (changeMode_outside _ _ t).capture
    · rfl
  unfold edgeActions
  rw [actIf_same State.capture _ (blank _ _), actIf_same State.capture _ block, actIf_same State.capture _ wake]
  rfl

/-- R163: a trigger acts on the Capture Unit by the unit's own state. -/
theorem trigger_capture_congr (x : TriggerSource) {s t : State} (h : t.capture = s.capture) :
    (trigger x t).capture = (trigger x s).capture := by
  unfold trigger
  dsimp only
  rw [h]
  split
  · split <;> rfl
  all_goals exact h

theorem activeEdge_capture {n : Index4} {s : State} {r : AuxRec} (hr : s.control.aux.get n = r) :
    (activeEdge n s).capture = if r.actions.capture then (trigger (.aux n) s).capture else s.capture := by
  rw [activeEdge_eq hr, actIf_same State.capture _ (raise_capture _)]
  unfold actIf
  split
  · exact trigger_capture_congr _ (edgeActions_capture n r s)
  · exact edgeActions_capture n r s

theorem activeEdge_aux_notice {n : Index4} {s : State} {r : AuxRec} (hr : s.control.aux.get n = r)
    (hn : r.actions.notice = true) : ((activeEdge n s).notices.records.get .aux).status = true := by
  rw [activeEdge_eq hr, hn]
  simp [actIf, raise_status]

/-- R131, R153: a WAKE action in QUIESCENT raises MODE, and what follows leaves it raised. -/
theorem activeEdge_mode_notice {n : Index4} {s : State} {r : AuxRec} (hr : s.control.aux.get n = r)
    (hw : r.actions.wake = true) (hq : s.control.mode = .quiescent) :
    ((activeEdge n s).notices.records.get .mode).status = true := by
  have evaluated : ∀ t, (evalBase t).notices.records.get .mode = t.notices.records.get .mode := fun t =>
    evalBase_notice (by decide) t
  have triggered : ∀ t, (trigger (.aux n) t).notices.records.get .mode = t.notices.records.get .mode := fun t => by
    unfold trigger
    dsimp only
    split
    · split
      · simp [freeze, raise_record]
      · rfl
    all_goals rfl
  have blank : ∀ d w t, (startBlanking d w t).notices.records.get .mode = t.notices.records.get .mode := fun d w t => by
    unfold startBlanking
    dsimp only
    split
    · split
      · exact evaluated _
      · rfl
    all_goals rfl
  have block : ∀ t, (blockAction n t).notices.records.get .mode = t.notices.records.get .mode := fun t => by
    unfold blockAction
    dsimp only
    rw [evaluated]
    split <;> rfl
  have woken : ((wakeAction (edgeCounted n s)).notices.records.get .mode).status = true := by
    have hc : (edgeCounted n s).control.mode = .quiescent := hq
    unfold wakeAction
    rw [if_pos hc]
    exact changeMode_notice _ _ _ (by rw [hc]; decide)
  rw [activeEdge_eq hr]
  unfold edgeActions
  rw [actIf_same (fun t => t.notices.records.get .mode) _ (fun t => by simp [raise_record]),
    actIf_same (fun t => t.notices.records.get .mode) _ triggered,
    actIf_same (fun t => t.notices.records.get .mode) _ (blank _ _),
    actIf_same (fun t => t.notices.records.get .mode) _ block, hw]
  exact woken

/-! ## The debounce of a hand-over (R152) -/

/-- R152: a record after a hand-over in which it reads a value. -/
def AuxRec.debounced (r : AuxRec) (v : Bool) : AuxRec :=
  if v = r.active then { r with pendingCount := 0 }
  else if r.debounce < r.pendingCount + 1 then
    { r with
      active := v
      pendingCount := 0
      blockLatch := r.blockLatch || (v && (r.actions.block && decide (r.kind = .edge))) }
  else { r with pendingCount := r.pendingCount + 1 }

theorem AuxRec.reads_eq (r : AuxRec) (flag : Bool) :
    r.reads flag = if r.polarity = .activeHigh then flag else !flag := by
  rcases h : r.polarity <;> simp [AuxRec.reads, h]

/-- R152: what a debounce does, by the value that the record reads. -/
theorem debounceAux_reads {flags : Four Bool} {s : State} {n : Index4} {r : AuxRec} {v : Bool}
    (hr : s.control.aux.get n = r) (hv : r.reads (flags.get n) = v) : debounceAux flags s n =
      if v = r.active then s.setAux n { r with pendingCount := 0 }
      else if r.debounce < r.pendingCount + 1 then
        if v then activeEdge n (s.setAux n { r with active := v, pendingCount := 0 })
        else inactiveEdge n (s.setAux n { r with active := v, pendingCount := 0 })
      else s.setAux n { r with pendingCount := r.pendingCount + 1 } := by
  subst hr hv
  rfl

/-- R152: a record's debounce writes that record alone. -/
theorem debounceAux_aux (flags : Four Bool) (s : State) (n : Index4) : (debounceAux flags s n).control.aux =
    s.control.aux.set n ((s.control.aux.get n).debounced ((s.control.aux.get n).reads (flags.get n))) := by
  unfold debounceAux AuxRec.debounced
  dsimp only
  split
  · rfl
  · split
    · cases (s.control.aux.get n).reads (flags.get n) with
      | false =>
        rw [if_neg Bool.false_ne_true, inactiveEdge_aux]
        simp [State.setAux]
      | true =>
        obtain ⟨_, _, _, _, hc⟩ := activeEdge_control (n := n)
          (s := s.setAux n { s.control.aux.get n with active := true, pendingCount := 0 }) (Four.get_set_self _ _ _)
        rw [if_pos rfl, hc]
        simp [State.setAux, AuxRec.blocked]
    · rfl

/-- R152, R153: the debounced state, the count and the latch after a hand-over. -/
theorem AuxRec.debounced_spec (r : AuxRec) (v : Bool) :
    (r.debounced v).active = (if v ≠ r.active ∧ r.debounce < r.pendingCount + 1 then v else r.active) ∧
    (r.debounced v).pendingCount =
      (if v = r.active ∨ r.debounce < r.pendingCount + 1 then 0 else r.pendingCount + 1) ∧
    (r.debounced v).blockLatch = (r.blockLatch ||
      (decide (v = true ∧ r.active = false ∧ r.debounce < r.pendingCount + 1) && r.actions.block &&
        decide (r.kind = .edge))) := by
  unfold AuxRec.debounced
  by_cases h : v = r.active
  · subst h
    cases hv : r.active <;> simp
  · by_cases hd : r.debounce < r.pendingCount + 1
    · have hflip : r.active = !v := by
        revert h
        cases v <;> cases r.active <;> simp
      cases v <;> simp [hflip, hd]
    · simp [h, hd]

/-- Each of a list of records is debounced once, in whatever order. -/
theorem foldl_debounced {flags : Four Bool} {g : State → Index4 → State}
    (hg : ∀ t m, (g t m).control.aux = (debounceAux flags t m).control.aux) (n : Index4) :
    ∀ (ms : List Index4) (s : State), ms.Nodup → (ms.foldl g s).control.aux.get n =
      if n ∈ ms then (s.control.aux.get n).debounced ((s.control.aux.get n).reads (flags.get n))
      else s.control.aux.get n
  | [], _, _ => rfl
  | m :: rest, s, h => by
    obtain ⟨hm, hrest⟩ := List.nodup_cons.mp h
    rw [List.foldl_cons, foldl_debounced hg n rest _ hrest, hg, debounceAux_aux, Four.get_set]
    by_cases hn : n = m
    · subst hn
      simp [hm]
    · simp [hn]

/-- R20, R152: a hand-over debounces every record once. -/
theorem handAux_record (flags : Four Bool) (s : State) (n : Index4) : (handAux flags s).control.aux.get n =
    (s.control.aux.get n).debounced ((s.control.aux.get n).reads (flags.get n)) := by
  obtain ⟨l, k, hp, h⟩ := inTurn_eq s (s.auxContended flags) (Index4.all.map fun n t => debounceAux flags t n)
  have hmap := congrFun (congrFun (List.eq_map_comp_perm fun n t => debounceAux flags t n) l) Index4.all
  obtain ⟨ms, rfl, hms⟩ := hmap.mpr hp
  have hn : n ∈ ms := hms.mem_iff.mpr (Index4.mem_all n)
  have hnodup : ms.Nodup := hms.nodup_iff.mpr (by decide)
  unfold handAux
  rcases h with h | h <;> rw [h, List.foldl_map]
  · rw [foldl_debounced (flags := flags) (fun _ _ => rfl) n ms s hnodup, if_pos hn]
  · rw [foldl_debounced (flags := flags) (fun _ _ => by rw [moment_control]) n ms _ hnodup, if_pos hn]

end Sys2Proof.Machine

open Sys2Proof Sys2Proof.Machine

/-- Settles O15: AUX_SET, the order and the outcome of a hand-over, the edges' actions, the start of a pulse. -/
theorem auxSetWritesRecord : Obligations.AuxSetWritesRecord := by
  unfold Obligations.AuxSetWritesRecord
  refine ⟨fun flags s => inTurn_eq _ _ _, fun s tag aux polarity kind debounce actions delay width h hm hr => ?_,
    fun s flags n v => ?_, fun s n => ?_, fun s delay width => ⟨fun hi c hc => ?_, fun hi => ?_⟩⟩
  · have hp : s.taken.parked = true := (parked_iff _).mpr ⟨hm, hr⟩
    exact ⟨fun hb => exec_answered h rfl (by decide) rfl (actAuxSet_range hp hb), fun n p k a hn hpo hk ha hd h1 h63 =>
      exec_answered h rfl (by decide) rfl (actAuxSet_parked hp hn hpo hk ha hd h1 h63)⟩
  · intro r hv
    have hread : r.reads (flags.get n) = v := (r.reads_eq _).trans hv.symm
    have heq := debounceAux_reads (s := s) (n := n) rfl hread
    have hrec := handAux_record flags s n
    change _ = r.debounced (r.reads (flags.get n)) at hrec
    rw [hread] at hrec
    rw [hrec]
    refine ⟨fun h => heq.trans (if_pos h), fun h hd => ?_, fun h hd => ?_, ?_⟩
    · exact heq.trans ((if_neg h).trans (if_neg (Nat.not_lt.mpr hd)))
    · rw [heq, if_neg h, if_pos hd]
      cases v <;> rfl
    · exact r.debounced_spec v
  · intro r
    obtain ⟨_, _, _, _, hc⟩ := activeEdge_control (n := n) (s := s) (r := r) rfl
    refine ⟨by rw [hc], fun hw hq => ?_, fun hw => ?_, ?_, fun hb hi => ?_, fun hb hi => ?_, fun hb => ?_,
      activeEdge_capture rfl, activeEdge_aux_notice rfl, ?_⟩
    · have hwake : s.afterWake r.actions.wake = { s.control with
          mode := .waking, wakingTarget := some (s.permitted s.params.wakeTarget), wakingCount := 0 } :=
        if_pos ⟨hw, hq⟩
      rw [hc, hwake, permitted_target]
      exact ⟨rfl, rfl, rfl, activeEdge_mode_notice rfl hw hq⟩
    · have hwake : s.afterWake r.actions.wake = s.control := if_neg fun ⟨h1, h2⟩ => by
        rcases hw with hw | hw
        · simp [h1] at hw
        · exact hw h2
      rw [hc, hwake]
    · rw [hc]
      exact congrArg AuxRec.blockLatch (Four.get_set_self _ _ _)
    · rw [hc, hb]
      simp [Blanking.started, ControlCounters.countBlank, hi]
    · rw [hc, hb]
      simp [ControlCounters.countBlank, hi]
    · rw [hc]
      rcases hb with hb | hb
      · simp [hb]
      · simp [Blanking.started, hb]
    · exact inactiveEdge_eq n s
  · subst hc
    refine ⟨?_, fun hd => startBlanking_later hi (by omega) width⟩
    rintro rfl
    exact startBlanking_now hi width
  · exact startBlanking_ignored hi delay width
end

section
/-! The phase trackers: detection, the lock states, crossing events, and what a tracker's step brings about elsewhere
(section 2). -/

namespace Sys2Proof.Machine

/-! ## Means and histories -/

theorem meanHistory_eq (l : List Nat) : meanHistory l = l.sum / l.length := by
  rw [meanHistory, List.sum_eq_foldl_nat]

/-- R42: at 48 valid entries and more the magnitude is the mean of |v|. -/
theorem meanMagnitude_enough {entries : List WindowEntry} (h : 48 ≤ (entries.filterMap WindowEntry.value).length) :
    meanMagnitude entries = some (((entries.filterMap WindowEntry.value).map Int.natAbs).sum /
      (entries.filterMap WindowEntry.value).length) := by
  simp only [meanMagnitude, if_pos h, List.sum_eq_foldl_nat, List.foldl_map]

theorem meanMagnitude_few {entries : List WindowEntry} (h : ¬48 ≤ (entries.filterMap WindowEntry.value).length) :
    meanMagnitude entries = none := if_neg h

/-- R36: a history of four drops its oldest half-period for the new one. -/
theorem pushHistory_eq {l : List Nat} (h : l.length ≤ 4) (x : Nat) :
    pushHistory l x = (if l.length = 4 then l.tail else l) ++ [x] := by
  unfold pushHistory
  split
  · next h4 => rw [h4, List.drop_append_of_le_length (by omega), List.drop_one]
  · rw [show l.length + 1 - 4 = 0 by omega, List.drop_zero]

theorem clip_halfPeriod (n : Nat) : (clip n 7424 8960).toNat = max 7424 (min n 8960) := by
  rw [clip_eq_max_min (by decide)]
  omega

/-- R36: after a real crossing the half-period is measured, limited to its range. -/
theorem Tracker.measure_real {t : Tracker} {c : Crossing} (hr : c.real = true) (hl : t.history.length ≤ 4) (x : Int) :
    (t.measure c x).history = (if t.history.length = 4 then t.history.tail else t.history) ++ [x.toNat] ∧
    (t.measure c x).halfPeriod =
      max 7424 (min ((t.measure c x).history.sum / (t.measure c x).history.length) 8960) := by
  have h : t.measure c x = { t with
      history := pushHistory t.history x.toNat
      halfPeriod := (clip (meanHistory (pushHistory t.history x.toNat)) 7424 8960).toNat } := if_pos hr
  rw [h]
  exact ⟨pushHistory_eq hl _, by rw [clip_halfPeriod, meanHistory_eq]⟩

/-- R36: after a synthesized crossing nothing is measured. -/
theorem Tracker.measure_synthesized {t : Tracker} {c : Crossing} (hr : c.real = false) (x : Int) :
    t.measure c x = t := if_neg (by simp [hr])

theorem Tracker.measure_numbering (t : Tracker) (c : Crossing) (x : Int) :
    (t.measure c x).h = t.h ∧ (t.measure c x).magnitude = t.magnitude := by
  unfold Tracker.measure
  split <;> exact ⟨rfl, rfl⟩

/-! ## Detection (R29, R30) -/

theorem detectionFraction_le (prev : Option Int) (v : Int) : detectionFraction prev v ≤ 255 := by
  cases prev with
  | none => exact Nat.zero_le _
  | some p =>
    unfold detectionFraction
    dsimp only
    split
    · exact Nat.zero_le _
    · exact Nat.min_le_right _ _

theorem detectionFraction_interpolated {p v : Int} (h : 0 < p.natAbs + v.natAbs) :
    detectionFraction (some p) v = min (256 * p.natAbs / (p.natAbs + v.natAbs)) 255 :=
  if_neg (Nat.ne_of_gt h)

/-- R30: without an entry to interpolate from, and between two zeros, the fraction is 0. -/
theorem detectionFraction_zero {prev : Option Int} {v : Int} (h : prev = none ∨ prev = some 0 ∧ v = 0) :
    detectionFraction prev v = 0 := by
  obtain rfl | ⟨rfl, rfl⟩ := h <;> rfl

theorem detect_invalid (hyst : Nat) (t : Tracker) (rest : List WindowEntry) (held : Bool) :
    detect hyst (⟨none, held⟩ :: rest) t = (none, t) := rfl

/-- The value of the entry before the newest, if it is valid. -/
def previousValue (rest : List WindowEntry) : Option Int := (rest.getD 0 ⟨none, false⟩).value

theorem previousValue_of_head {rest : List WindowEntry} {prev : WindowEntry} (h : rest.head? = some prev) :
    previousValue rest = prev.value := by
  obtain ⟨l, rfl⟩ := List.head?_eq_some_iff.mp h
  rfl

theorem previousValue_cases {rest : List WindowEntry} {v : Int}
    (h : ∀ prev, rest.head? = some prev → prev.value = none ∨ prev.value = some 0 ∧ v = 0) :
    previousValue rest = none ∨ previousValue rest = some 0 ∧ v = 0 := by
  cases rest with
  | nil => exact .inl rfl
  | cons prev l => exact h prev rfl

/-- R29: a valid newest entry fires an armed detector, and arms it anew. -/
theorem detect_valid (hyst : Nat) (t : Tracker) (rest : List WindowEntry) (held : Bool) (v : Int) :
    (detect hyst (⟨some v, held⟩ :: rest) t).1 =
      (if t.risingArmed = true ∧ 0 ≤ v then some ⟨.pos, detectionFraction (previousValue rest) v⟩
        else if t.fallingArmed = true ∧ v < 0 then some ⟨.neg, detectionFraction (previousValue rest) v⟩ else none) ∧
    (detect hyst (⟨some v, held⟩ :: rest) t).2 = { t with
      risingArmed := decide (v ≤ -(hyst : Int)) || (t.risingArmed && decide (v < 0))
      fallingArmed := decide ((hyst : Int) ≤ v) || (t.fallingArmed && decide (0 ≤ v)) } := by
  have hd : detect hyst (⟨some v, held⟩ :: rest) t =
      (if t.risingArmed && decide (0 ≤ v) then some ⟨.pos, detectionFraction (previousValue rest) v⟩
        else if t.fallingArmed && decide (v < 0) then some ⟨.neg, detectionFraction (previousValue rest) v⟩ else none,
      { t with
        risingArmed := decide (v ≤ -(hyst : Int)) || (t.risingArmed && !(t.risingArmed && decide (0 ≤ v)))
        fallingArmed := decide ((hyst : Int) ≤ v) || (t.fallingArmed && !(t.fallingArmed && decide (v < 0))) }) := rfl
  have keeps : ∀ (armed : Bool) (p q : Prop) [Decidable p] [Decidable q], (p ↔ ¬q) →
      (armed && !(armed && decide p)) = (armed && decide q) := fun armed p q _ _ h => by
    cases armed <;> simp [h]
  rw [hd, keeps _ _ (v < 0) Int.not_lt.symm, keeps _ _ (0 ≤ v) Int.not_le.symm]
  simp only [Bool.and_eq_true, decide_eq_true_eq, and_self]

/-! ## A detection by the tracker's state (R32 to R38) -/

section
variable {b : Branch} {entries : List WindowEntry} {tag : Tag} {d : Detection} {t : Tracker} {c : Crossing}

theorem takeDetection_unlocked (h : t.state = .unlocked) : takeDetection b entries tag d t =
    ({ t.takeCrossing d tag with state := .capturing, history := [] }, none) := by
  simp only [takeDetection, h]

/-- R32: a detection of the polarity that is not expected is refused. -/
theorem takeDetection_opposite (h : t.state ≠ .unlocked) (hp : t.expectedPolarity = some d.polarity.opposite) :
    takeDetection b entries tag d t = (t.refuse, none) := by
  unfold takeDetection
  split
  · next hs => exact absurd hs h
  all_goals exact if_pos hp

theorem takeDetection_capturing (h : t.state = .capturing) (hp : t.expectedPolarity ≠ some d.polarity.opposite) :
    takeDetection b entries tag d t = captureCrossing b entries tag d t := by
  simp only [takeDetection, h, if_neg hp]

theorem takeDetection_tracking (h : t.state = .locked ∨ t.state = .holdover)
    (hp : t.expectedPolarity ≠ some d.polarity.opposite) :
    takeDetection b entries tag d t = acceptCrossing b entries tag d t := by
  obtain h | h := h <;> simp only [takeDetection, h, if_neg hp]

theorem goodHalfPeriod_iff (x : Int) : goodHalfPeriod x = true ↔ 7424 ≤ x ∧ x ≤ 8960 := by
  simp [goodHalfPeriod]

/-- R34: a half-period out of range starts the capture again. -/
theorem captureCrossing_bad (hc : t.lastCrossing = some c)
    (hx : ¬(7424 ≤ c.elapsed tag d.fraction ∧ c.elapsed tag d.fraction ≤ 8960)) :
    captureCrossing b entries tag d t = ({ t.takeCrossing d tag with history := [] }, none) := by
  simp only [captureCrossing, hc, goodHalfPeriod_iff, if_neg hx]

/-- R34: a good half-period joins the history; the fourth one locks. -/
theorem captureCrossing_good (hc : t.lastCrossing = some c)
    (hx : 7424 ≤ c.elapsed tag d.fraction ∧ c.elapsed tag d.fraction ≤ 8960) :
    (t.history.length < 3 → captureCrossing b entries tag d t =
      ({ t.takeCrossing d tag with history := t.history ++ [(c.elapsed tag d.fraction).toNat] }, none)) ∧
    (t.history.length = 3 → ∃ u ev, captureCrossing b entries tag d t = (u, some ev) ∧
      u.state = .locked ∧ u.holdoverCount = 0 ∧ u.history = t.history ++ [(c.elapsed tag d.fraction).toNat] ∧
      u.halfPeriod = (t.history ++ [(c.elapsed tag d.fraction).toNat]).sum / 4 ∧
      u.lastCrossing = some ⟨tag, d.fraction, true⟩ ∧ u.expectedPolarity = some d.polarity.opposite ∧
      ev.polarity = d.polarity ∧ ev.crossingTag = tag ∧ ev.synthesized = false) := by
  simp only [captureCrossing, hc, goodHalfPeriod_iff, if_pos hx, List.length_append, List.length_singleton]
  refine ⟨fun h => if_neg (by omega), fun h => ⟨_, _, if_pos (by omega), rfl, rfl, rfl, ?_, rfl, rfl, rfl, rfl, rfl⟩⟩
  refine (meanHistory_eq _).trans ?_
  rw [List.length_append, h, List.length_singleton]

/-- R36: outside the acceptance window a detection is refused. -/
theorem acceptCrossing_outside (hc : t.lastCrossing = some c)
    (hx : c.elapsed tag d.fraction < (t.halfPeriod : Int) - 512 ∨
      (t.halfPeriod : Int) + 512 < c.elapsed tag d.fraction) :
    acceptCrossing b entries tag d t = (t.refuse, none) := by
  simp only [acceptCrossing, hc, Config.acceptWindow]
  exact if_neg (by omega)

/-- R36, R38: inside the acceptance window a detection locks, with the half-period that is measured. -/
theorem acceptCrossing_inside (hc : t.lastCrossing = some c)
    (hx : (t.halfPeriod : Int) - 512 ≤ c.elapsed tag d.fraction ∧
      c.elapsed tag d.fraction ≤ (t.halfPeriod : Int) + 512) :
    ∃ u ev, acceptCrossing b entries tag d t = (u, some ev) ∧ u.state = .locked ∧ u.holdoverCount = 0 ∧
      u.history = (t.measure c (c.elapsed tag d.fraction)).history ∧
      u.halfPeriod = (t.measure c (c.elapsed tag d.fraction)).halfPeriod ∧
      u.lastCrossing = some ⟨tag, d.fraction, true⟩ ∧ u.expectedPolarity = some d.polarity.opposite ∧
      ev.polarity = d.polarity ∧ ev.crossingTag = tag ∧ ev.synthesized = false := by
  simp only [acceptCrossing, hc, Config.acceptWindow]
  exact ⟨_, _, if_pos hx, rfl, rfl, rfl, rfl, rfl, rfl, rfl, rfl, rfl⟩

/-! ## The deadline stage (R35, R37, R38) -/

theorem Crossing.elapsed_end (c : Crossing) (tag : Tag) :
    c.elapsed tag 256 = 256 * ((tag - c.tag).toNat : Int) + 256 - c.fraction := rfl

theorem deadlineStage_none (h : t.lastCrossing = none) : deadlineStage b entries tag t = (t, none) := by
  simp only [deadlineStage, h]

theorem deadlineStage_unlocked (h : t.state = .unlocked) : deadlineStage b entries tag t = (t, none) := by
  unfold deadlineStage
  split
  · rfl
  · simp only [h]

theorem deadlineStage_capturing (h : t.state = .capturing) (hc : t.lastCrossing = some c) :
    deadlineStage b entries tag t = (if 9472 < c.elapsed tag 256 then (t.unlock, none) else (t, none)) := by
  simp only [deadlineStage, hc, h]

/-- R37: before its deadline a tracker waits for the crossing. -/
theorem deadlineStage_early (h : t.state = .locked ∨ t.state = .holdover) (hc : t.lastCrossing = some c)
    (hx : c.elapsed tag 256 ≤ (t.halfPeriod : Int) + 512) : deadlineStage b entries tag t = (t, none) := by
  obtain h | h := h <;>
  simp only [deadlineStage, hc, h, Config.acceptWindow] <;>
  exact if_neg (Int.not_lt.mpr hx)

/-- R38: the third crossing missed in a row unlocks. -/
theorem deadlineStage_exhausted (h : t.state = .holdover) (hc : t.lastCrossing = some c)
    (hx : (t.halfPeriod : Int) + 512 < c.elapsed tag 256) (hn : 2 ≤ t.holdoverCount) :
    deadlineStage b entries tag t = (t.unlock, none) := by
  simp only [deadlineStage, hc, h, Config.acceptWindow]
  exact (if_pos hx).trans (if_neg (by omega))

/-- R37, R38: a missed crossing is synthesized, counted from the entry into HOLDOVER. -/
theorem deadlineStage_synthesizes (h : t.state = .locked ∨ t.state = .holdover ∧ t.holdoverCount ≤ 1)
    (hc : t.lastCrossing = some c) (hx : (t.halfPeriod : Int) + 512 < c.elapsed tag 256) :
    deadlineStage b entries tag t =
      synthesize b entries c { t with holdoverCount := if t.state = .locked then 0 else t.holdoverCount } := by
  obtain h | ⟨h, hn⟩ := h
  · rw [if_pos h]
    simp only [deadlineStage, hc, h, Config.acceptWindow]
    exact if_pos hx
  · rw [if_neg (by simp [h])]
    change _ = synthesize b entries c t
    simp only [deadlineStage, hc, h, Config.acceptWindow]
    exact (if_pos hx).trans (if_pos hn)

theorem synthesize_spec {p : Polarity} (hp : t.expectedPolarity = some p) :
    ∃ u ev, synthesize b entries c t = (u, some ev) ∧ u.state = .holdover ∧ u.holdoverCount = t.holdoverCount + 1 ∧
      u.history = t.history ∧ u.halfPeriod = t.halfPeriod ∧ u.expectedPolarity = some p.opposite ∧
      u.lastCrossing = some (c.after t.halfPeriod) ∧ ev.polarity = p ∧ ev.crossingTag = (c.after t.halfPeriod).tag ∧
      ev.synthesized = true := by
  simp only [synthesize, hp, Option.getD_some]
  exact ⟨_, _, rfl, rfl, rfl, rfl, rfl, rfl, rfl, rfl, rfl, rfl⟩

/-! ## Events, their numbers and the magnitude (R40, R42) -/

/-- A tracker that emits an event takes its number and its tag, its lock state tells whether the event is synthesized,
and a POS event alone recomputes the magnitude. -/
structure Emits (b : Branch) (entries : List WindowEntry) (t u : Tracker) (ev : CrossingEvent) : Prop where
  branch : ev.branch = b
  number : ev.h = t.h + 1
  takesNumber : u.h = t.h + 1
  takesTag : u.lastEventTag = some ev.crossingTag
  lock : u.state = if ev.synthesized then .holdover else .locked
  neg : ev.polarity = .neg → ev.magnitudeUpdated = false ∧ u.magnitude = t.magnitude
  pos : ev.polarity = .pos →
    ev.magnitudeUpdated = decide (48 ≤ (entries.filterMap WindowEntry.value).length) ∧
    (48 ≤ (entries.filterMap WindowEntry.value).length → u.magnitude =
      ((entries.filterMap WindowEntry.value).map Int.natAbs).sum / (entries.filterMap WindowEntry.value).length)

/-- The synthesized flag of an event tells the lock state apart. -/
theorem Emits.synthesized_iff {u : Tracker} {ev : CrossingEvent} (h : Emits b entries t u ev) :
    ev.synthesized = true ↔ u.state = .holdover := by
  rw [h.lock]
  cases ev.synthesized <;> simp

theorem Emits.locked_or_holdover {u : Tracker} {ev : CrossingEvent} (h : Emits b entries t u ev) :
    u.state = .locked ∨ u.state = .holdover := by
  rw [h.lock]
  cases ev.synthesized <;> simp

/-- An event's number and magnitude rest on two fields of the tracker before it. -/
theorem Emits.before {t' u : Tracker} {ev : CrossingEvent} (h : Emits b entries t' u ev) (hh : t'.h = t.h)
    (hm : t'.magnitude = t.magnitude) : Emits b entries t u ev where
  branch := h.branch
  number := hh ▸ h.number
  takesNumber := hh ▸ h.takesNumber
  takesTag := h.takesTag
  lock := h.lock
  neg := hm ▸ h.neg
  pos := h.pos

theorem emitEvent_emits {p : Polarity} {synthesized : Bool} (h : t.state = if synthesized then .holdover else .locked) :
    Emits b entries t (emitEvent b p tag synthesized entries t).1 (emitEvent b p tag synthesized entries t).2 where
  branch := rfl
  number := rfl
  takesNumber := rfl
  takesTag := rfl
  lock := h
  neg hp := by
    have hp : p = .neg := hp
    subst hp
    exact ⟨rfl, rfl⟩
  pos hp := by
    have hp : p = .pos := hp
    subst hp
    by_cases hv : 48 ≤ (entries.filterMap WindowEntry.value).length
    · simp [emitEvent, meanMagnitude_enough hv, hv]
    · simp [emitEvent, meanMagnitude_few hv, hv]

/-- A stage of a tracker's step either emits an event or leaves a tracker of which `quiet` holds. -/
def StageOutcome (quiet : Tracker → Prop) (b : Branch) (entries : List WindowEntry) (t : Tracker)
    (r : Tracker × Option CrossingEvent) : Prop :=
  (∀ ev, r.2 = some ev → Emits b entries t r.1 ev) ∧ (r.2 = none → quiet r.1)

theorem StageOutcome.silent {quiet : Tracker → Prop} {u : Tracker} (h : quiet u) :
    StageOutcome quiet b entries t (u, none) := ⟨nofun, fun _ => h⟩

/-- A stage that emits a crossing of a tracker with the numbering and magnitude it began with. -/
theorem StageOutcome.emit {quiet : Tracker → Prop} {u : Tracker} {p : Polarity} {synthesized : Bool}
    (hn : u.h = t.h ∧ u.magnitude = t.magnitude) (hs : u.state = if synthesized then .holdover else .locked) :
    StageOutcome quiet b entries t
      ((emitEvent b p tag synthesized entries u).1, some (emitEvent b p tag synthesized entries u).2) := by
  refine ⟨fun ev he => ?_, nofun⟩
  cases he
  exact (emitEvent_emits hs).before hn.1 hn.2

/-- The half-cycle number and the tag of the last event stand. -/
def KeepsNumber (t u : Tracker) : Prop := u.h = t.h ∧ u.lastEventTag = t.lastEventTag

/-- The magnitude stands too, as it does until a deadline unlocks the tracker. -/
def KeepsNumberAndMagnitude (t u : Tracker) : Prop := KeepsNumber t u ∧ u.magnitude = t.magnitude

theorem KeepsNumber.trans {t u v : Tracker} (h : KeepsNumber t u) (h' : KeepsNumber u v) : KeepsNumber t v :=
  ⟨h'.1.trans h.1, h'.2.trans h.2⟩

theorem detect_keeps (hyst : Nat) (entries : List WindowEntry) (t : Tracker) :
    KeepsNumberAndMagnitude t (detect hyst entries t).2 := by
  unfold detect
  split <;> exact ⟨⟨rfl, rfl⟩, rfl⟩

theorem captureCrossing_outcome :
    StageOutcome (KeepsNumberAndMagnitude t) b entries t (captureCrossing b entries tag d t) := by
  unfold captureCrossing
  dsimp only
  split
  · exact .silent ⟨⟨rfl, rfl⟩, rfl⟩
  · split
    · exact .emit ⟨rfl, rfl⟩ rfl
    · exact .silent ⟨⟨rfl, rfl⟩, rfl⟩

theorem acceptCrossing_outcome :
    StageOutcome (KeepsNumberAndMagnitude t) b entries t (acceptCrossing b entries tag d t) := by
  unfold acceptCrossing
  split
  · exact .silent ⟨⟨rfl, rfl⟩, rfl⟩
  · dsimp only
    split
    · exact .emit (Tracker.measure_numbering _ _ _) rfl
    · exact .silent ⟨⟨rfl, rfl⟩, rfl⟩

theorem takeDetection_outcome :
    StageOutcome (KeepsNumberAndMagnitude t) b entries t (takeDetection b entries tag d t) := by
  by_cases hu : t.state = .unlocked
  · rw [takeDetection_unlocked hu]
    exact .silent ⟨⟨rfl, rfl⟩, rfl⟩
  · by_cases hp : t.expectedPolarity = some d.polarity.opposite
    · rw [takeDetection_opposite hu hp]
      exact .silent ⟨⟨rfl, rfl⟩, rfl⟩
    · cases hs : t.state with
      | unlocked => exact absurd hs hu
      | capturing =>
        rw [takeDetection_capturing hs hp]
        exact captureCrossing_outcome
      | locked =>
        rw [takeDetection_tracking (.inl hs) hp]
        exact acceptCrossing_outcome
      | holdover =>
        rw [takeDetection_tracking (.inr hs) hp]
        exact acceptCrossing_outcome

theorem detectionStage_outcome (found : Option Detection) :
    StageOutcome (KeepsNumberAndMagnitude t) b entries t (detectionStage b entries tag found t) := by
  cases found with
  | none => exact .silent ⟨⟨rfl, rfl⟩, rfl⟩
  | some d => exact takeDetection_outcome

/-- R39: unlocking clears the magnitude and leaves the numbering. -/
theorem deadlineStage_outcome :
    StageOutcome (KeepsNumber t) b entries t (deadlineStage b entries tag t) := by
  cases hc : t.lastCrossing with
  | none =>
    rw [deadlineStage_none hc]
    exact .silent ⟨rfl, rfl⟩
  | some c =>
    cases hs : t.state with
    | unlocked =>
      rw [deadlineStage_unlocked hs]
      exact .silent ⟨rfl, rfl⟩
    | capturing =>
      rw [deadlineStage_capturing hs hc]
      split <;> exact .silent ⟨rfl, rfl⟩
    | locked =>
      rcases lt_or_ge ((t.halfPeriod : Int) + 512) (c.elapsed tag 256) with hx | hx
      · rw [deadlineStage_synthesizes (.inl hs) hc hx]
        exact .emit ⟨rfl, rfl⟩ rfl
      · rw [deadlineStage_early (.inl hs) hc hx]
        exact .silent ⟨rfl, rfl⟩
    | holdover =>
      rcases lt_or_ge ((t.halfPeriod : Int) + 512) (c.elapsed tag 256) with hx | hx
      · rcases Nat.lt_or_ge t.holdoverCount 2 with hn | hn
        · rw [deadlineStage_synthesizes (.inr ⟨hs, Nat.le_of_lt_succ hn⟩) hc hx]
          exact .emit ⟨rfl, rfl⟩ rfl
        · rw [deadlineStage_exhausted hs hc hx hn]
          exact .silent ⟨rfl, rfl⟩
      · rw [deadlineStage_early (.inr hs) hc hx]
        exact .silent ⟨rfl, rfl⟩

end

/-! ## A tracker's step (R27) -/

section
variable {b : Branch} {hyst : Nat} {entries : List WindowEntry} {tag : Tag} {t : Tracker} {d : Detection}

theorem thenDeadline_event {r : Tracker × Option CrossingEvent} (h : r.2.isSome = true) :
    thenDeadline b entries tag r = r := by
  obtain ⟨u, _ | ev⟩ := r
  · cases h
  · rfl

theorem thenDeadline_none {r : Tracker × Option CrossingEvent} (h : r.2 = none) :
    thenDeadline b entries tag r = deadlineStage b entries tag r.1 := by
  obtain ⟨u, _ | ev⟩ := r
  · rfl
  · cases h

theorem trackerStep_eq : trackerStep b hyst entries tag t = thenDeadline b entries tag
    (detectionStage b entries tag (detect hyst entries t).1 (detect hyst entries t).2) := rfl

theorem trackerStep_undetected (h : (detect hyst entries t).1 = none) :
    trackerStep b hyst entries tag t = deadlineStage b entries tag (detect hyst entries t).2 := by
  rw [trackerStep_eq, h]
  rfl

theorem trackerStep_detected (h : (detect hyst entries t).1 = some d) : trackerStep b hyst entries tag t =
    thenDeadline b entries tag (takeDetection b entries tag d (detect hyst entries t).2) := by
  rw [trackerStep_eq, h]
  rfl

/-- A stage without an event leaves the deadline stage the number and the magnitude it began with. -/
theorem StageOutcome.deadline {r : Tracker × Option CrossingEvent}
    (h : StageOutcome (KeepsNumberAndMagnitude t) b entries t r) :
    StageOutcome (KeepsNumber t) b entries t
      (thenDeadline b entries tag r) := by
  obtain ⟨emits, quiet⟩ := h
  cases hr : r.2 with
  | some ev =>
    rw [thenDeadline_event (by rw [hr]; rfl)]
    exact ⟨emits, fun he => nomatch hr.symm.trans he⟩
  | none =>
    obtain ⟨hn, hm⟩ := quiet hr
    obtain ⟨emits', quiet'⟩ := deadlineStage_outcome (b := b) (entries := entries) (tag := tag) (t := r.1)
    rw [thenDeadline_none hr]
    exact ⟨fun ev he => (emits' ev he).before hn.1 hm, fun he => hn.trans (quiet' he)⟩

/-- R40, R42: a tracker's step emits an event with the next number, or leaves the numbering. -/
theorem trackerStep_outcome : StageOutcome (KeepsNumber t) b entries t
    (trackerStep b hyst entries tag t) := by
  obtain ⟨hn, hm⟩ := detect_keeps hyst entries t
  obtain ⟨emits, quiet⟩ := detectionStage_outcome (b := b) (entries := entries) (tag := tag)
    (t := (detect hyst entries t).2) (detect hyst entries t).1
  refine StageOutcome.deadline ⟨fun ev he => (emits ev he).before hn.1 hm, fun he => ?_⟩
  obtain ⟨hn', hm'⟩ := quiet he
  exact ⟨hn.trans hn', hm'.trans hm⟩

end

/-! ## What a tracker's step brings about (R41, R43, R134, R136) -/

theorem magnitudeUpdated_iff (o : Option CrossingEvent) :
    magnitudeUpdated o = true ↔ ∃ ev, o = some ev ∧ ev.magnitudeUpdated = true := by
  cases o <;> simp [magnitudeUpdated]

/-- R134: branch AB's entry into UNLOCKED clears the waking count. -/
theorem trackerChanged_unlocked {b : Branch} {s : State} (h : b = .ab ∧ (s.trackers.get b).state = .unlocked) :
    trackerChanged b s = raise .tracker (s.setControl { s.control with wakingCount := 0 }) := if_pos h

theorem trackerChanged_otherwise {b : Branch} {s : State} (h : ¬(b = .ab ∧ (s.trackers.get b).state = .unlocked)) :
    trackerChanged b s = raise .tracker s := if_neg h

/-- R43, R136, R41: `u` is the state in which a tracker has made its step, and `w` the one in which its event is
offered. -/
theorem runTracker_spec {tag : Tag} {b : Branch} {s u w : State} {r : Tracker × Option CrossingEvent}
    (hr : r = s.trackerResult tag b)
    (same : r.1.state = (s.trackers.get b).state → u = s.setTracker b r.1)
    (changed : r.1.state ≠ (s.trackers.get b).state → u = trackerChanged b (s.setTracker b r.1))
    (evaluated : (r.1.state ≠ (s.trackers.get b).state ∨ ∃ ev, r.2 = some ev ∧ ev.magnitudeUpdated = true) →
      w = evalSupply u)
    (otherwise : r.1.state = (s.trackers.get b).state → (∀ ev, r.2 = some ev → ev.magnitudeUpdated = false) → w = u) :
    (r.2 = none → runTracker tag b s = w) ∧ ∀ ev, r.2 = some ev → runTracker tag b s = offerEvent ev (moment w) := by
  have hu : (if decide (r.1.state ≠ (s.trackers.get b).state) then trackerChanged b (s.setTracker b r.1)
      else s.setTracker b r.1) = u := by
    by_cases h : r.1.state = (s.trackers.get b).state
    · simp only [h, ne_eq, not_true_eq_false, decide_false, Bool.false_eq_true, if_false, same h]
    · simp only [ne_eq, h, not_false_eq_true, decide_true, if_true, changed h]
  have hw : (if decide (r.1.state ≠ (s.trackers.get b).state) || magnitudeUpdated r.2 then evalSupply u else u) = w := by
    split
    · next h => exact (evaluated (by simpa [magnitudeUpdated_iff] using h)).symm
    · next h =>
      obtain ⟨hs, hm⟩ : r.1.state = (s.trackers.get b).state ∧ magnitudeUpdated r.2 = false := by simpa using h
      refine (otherwise hs fun ev he => ?_).symm
      rwa [he] at hm
  unfold runTracker
  dsimp only
  rw [← hr, hu, hw]
  exact ⟨fun h => by rw [h], fun ev h => by rw [h]⟩

end Sys2Proof.Machine

open Sys2Proof Sys2Proof.Machine

/-- Settles O41: a tracker's step, its events and their effects, detection, lock states and the deadline stage. -/
theorem crossingEventTakesNextHalfCycleNumber : Obligations.CrossingEventTakesNextHalfCycleNumber := by
  unfold Obligations.CrossingEventTakesNextHalfCycleNumber
  refine ⟨fun tag b s t r ht hr u w same changed evaluated otherwise => ?_,
    fun b s => ⟨trackerChanged_unlocked, trackerChanged_otherwise⟩, fun ev s => inTurn_eq _ _ _, fun n s => rfl,
    fun b hyst entries tag t => ⟨fun ev he => ?_, trackerStep_outcome.2⟩,
    fun b hyst entries tag t => ⟨trackerStep_undetected, fun d hd => ⟨fun he => ?_, fun he => ?_⟩⟩,
    fun hyst t rest held => ⟨detect_invalid hyst t rest held, fun v => ?_⟩,
    fun b entries tag d t => ⟨takeDetection_unlocked, takeDetection_opposite, fun c x hc hx hp => ?_⟩,
    fun b entries tag t => ⟨?_, fun c x hc hx => ?_⟩⟩
  · subst ht
    exact runTracker_spec hr same changed evaluated otherwise
  · have h := trackerStep_outcome.1 ev he
    exact ⟨h.branch, h.number, h.takesNumber, h.takesTag, h.locked_or_holdover, h.synthesized_iff, h.neg, h.pos⟩
  · exact (trackerStep_detected hd).trans (thenDeadline_event he)
  · exact (trackerStep_detected hd).trans (thenDeadline_none he)
  · obtain ⟨found, armed⟩ := detect_valid hyst t rest held v
    refine ⟨detectionFraction (previousValue rest) v, detectionFraction_le _ _, fun p prev hprev hp hpos => ?_,
      fun h => detectionFraction_zero (previousValue_cases h), found, armed⟩
    rw [previousValue_of_head hprev, hp, detectionFraction_interpolated hpos]
  · subst hx
    refine ⟨rfl, fun hs => ?_, fun hs => ?_⟩
    · rw [takeDetection_capturing hs hp]
      refine ⟨captureCrossing_bad hc, fun h1 h2 => (captureCrossing_good hc ⟨h1, h2⟩).1,
        fun h1 h2 => (captureCrossing_good hc ⟨h1, h2⟩).2⟩
    · rw [takeDetection_tracking hs hp]
      refine ⟨acceptCrossing_outside hc, fun h1 h2 hl => ?_⟩
      obtain ⟨u, ev, heq, hlocked, hcount, hhistory, hperiod, hrest⟩ :=
        acceptCrossing_inside (b := b) (entries := entries) hc ⟨h1, h2⟩
      refine ⟨u, ev, heq, hlocked, hcount, fun hreal => ?_, fun hreal => ?_, hrest⟩
      · rw [hhistory, hperiod, Tracker.measure_synthesized hreal]
        exact ⟨rfl, rfl⟩
      · rw [hhistory, hperiod]
        exact Tracker.measure_real hreal hl _
  · rintro (h | h)
    · exact deadlineStage_unlocked h
    · exact deadlineStage_none h
  · rw [← Crossing.elapsed_end] at hx
    subst hx
    refine ⟨fun hs h => ?_, fun hs h => ?_, fun hs => deadlineStage_early hs hc,
      fun hs h hn => deadlineStage_exhausted hs hc h hn, fun p hp h hs => ?_, rfl⟩
    · exact (deadlineStage_capturing hs hc).trans (if_neg (Int.not_lt.mpr h))
    · exact (deadlineStage_capturing hs hc).trans (if_pos h)
    · obtain ⟨u, ev, heq, hstate, hcount, hfields⟩ := synthesize_spec (b := b) (entries := entries) (c := c)
        (t := { t with holdoverCount := if t.state = .locked then 0 else t.holdoverCount }) hp
      refine ⟨u, ev, (deadlineStage_synthesizes hs hc h).trans heq, hstate, hcount.trans ?_, hfields⟩
      split <;> rfl
end

section
/-! Firing stays blocked outside RELEASED: what operations leave of the firing state, and how releases, trips, orders and
commits keep it blocked (R56, R57, R58, R61, R82, R92). -/

namespace Sys2Proof.Machine

/-! ## The firing state -/

/-- What released firing leaves behind and release gates: all that the invariant of blocked firing reads. -/
structure Firing where
  release : ReleaseState
  carry : Branch → Int
  clamp : Branch → Int
  queue : List VFrame
  commit : Option Byte

def State.firing (s : State) : Firing :=
  ⟨s.control.release, fun b => (s.demand.get b).carry, fun b => (s.demand.get b).clamp, s.exchange.queue,
    s.tables.commit⟩

/-- Nothing of released firing is left but orders of which each is BLOCK. -/
structure Firing.Blocked (f : Firing) : Prop where
  carry : ∀ b, f.carry b = 0
  clamp : ∀ b, f.clamp b = 0
  orders : ∀ o, VFrame.order o ∈ f.queue → o.angle = Config.blockAngle
  commit : f.commit = none

theorem blockedInv_iff (s : State) : BlockedInv s ↔ (s.control.release ≠ .released → s.firing.Blocked) :=
  ⟨fun h hr => ⟨h.carry hr, h.clamp hr, h.orders hr, h.commit hr⟩,
    fun h => ⟨fun hr => (h hr).carry, fun hr => (h hr).clamp, fun hr => (h hr).orders, fun hr => (h hr).commit⟩⟩

theorem BlockedInv.of_firing {s t : State} (h : BlockedInv s) (e : t.firing = s.firing) : BlockedInv t := by
  rw [blockedInv_iff] at h ⊢
  have hr : t.control.release = s.control.release := congrArg Firing.release e
  rwa [hr, e]

/-- In RELEASED the invariant asks for nothing. -/
theorem blockedInv_of_released {t : State} (h : t.control.release = .released) : BlockedInv t :=
  (blockedInv_iff t).mpr fun hr => absurd h hr

/-- A move between release states other than RELEASED. -/
theorem BlockedInv.of_unreleased {s t : State} (h : BlockedInv s) (hs : s.control.release ≠ .released)
    (e : t.firing = { s.firing with release := t.control.release }) : BlockedInv t := by
  rw [blockedInv_iff] at h ⊢
  intro _
  rw [e]
  exact ⟨(h hs).carry, (h hs).clamp, (h hs).orders, (h hs).commit⟩

/-- A queue whose orders are BLOCK or were there before keeps firing blocked. -/
theorem BlockedInv.of_queue {s t : State} (h : BlockedInv s) (e : t.firing = { s.firing with queue := t.exchange.queue })
    (hq : s.control.release ≠ .released → ∀ o, VFrame.order o ∈ t.exchange.queue →
      VFrame.order o ∈ s.exchange.queue ∨ o.angle = Config.blockAngle) : BlockedInv t := by
  rw [blockedInv_iff] at h ⊢
  have hr : t.control.release = s.control.release := congrArg Firing.release e
  intro ht
  have hs : s.control.release ≠ .released := hr ▸ ht
  rw [e]
  exact ⟨(h hs).carry, (h hs).clamp, fun o ho => (hq hs o ho).elim ((h hs).orders o) id, (h hs).commit⟩

theorem blockedInv_powerOn (straps : Straps) (rstn : Bool) (p : List Instr) (k : Nat) :
    BlockedInv (State.powerOn straps rstn p k) := by
  refine (blockedInv_iff _).mpr fun _ => ⟨fun b => ?_, fun b => ?_, fun o ho => ?_, rfl⟩
  · cases b <;> rfl
  · cases b <;> rfl
  · cases ho

/-! ## What leaves the firing state -/

@[simp] theorem firing_free (s : State) (k : Nat) : ({ s with freeCount := k } : State).firing = s.firing := rfl
@[simp] theorem firing_setParams (s : State) (x : Params) : (s.setParams x).firing = s.firing := rfl
@[simp] theorem firing_setPorts (s : State) (x : Ports) : (s.setPorts x).firing = s.firing := rfl
@[simp] theorem firing_setAsm (s : State) (x : Assembler) : (s.setAsm x).firing = s.firing := rfl
@[simp] theorem firing_setTrackers (s : State) (x : PerBranch Tracker) : (s.setTrackers x).firing = s.firing := rfl
@[simp] theorem firing_setBanks (s : State) (x : BankController) : (s.setBanks x).firing = s.firing := rfl
@[simp] theorem firing_setCapture (s : State) (x : Capture) : (s.setCapture x).firing = s.firing := rfl
@[simp] theorem firing_setProcessor (s : State) (x : Processor) : (s.setProcessor x).firing = s.firing := rfl
@[simp] theorem firing_setNotices (s : State) (x : NoticeUnit) : (s.setNotices x).firing = s.firing := rfl
@[simp] theorem firing_setExchangeRec (s : State) (b : Branch) (r : ExchangeRec) :
    (s.setExchangeRec b r).firing = s.firing := rfl
@[simp] theorem firing_countExchange (s : State) (b : Branch) (f : ExchangeCounters → ExchangeCounters) :
    (s.countExchange b f).firing = s.firing := rfl
@[simp] theorem firing_countControl (s : State) (f : ControlCounters → ControlCounters) :
    (s.countControl f).firing = s.firing := rfl
@[simp] theorem firing_setAux (s : State) (n : Index4) (r : AuxRec) : (s.setAux n r).firing = s.firing := rfl
@[simp] theorem firing_setSource (s : State) (n : Index4) (r : SourceRec) : (s.setSource n r).firing = s.firing := rfl
@[simp] theorem firing_setBankRec (s : State) (n : Index4) (r : BankRec) : (s.setBankRec n r).firing = s.firing := rfl
@[simp] theorem firing_appendReply (s : State) (tag kind : Byte) (c : ResultCode) (d : ReplyData) :
    (s.appendReply tag kind c d).firing = s.firing := rfl
@[simp] theorem firing_raise (n : NoticeSource) (s : State) : (raise n s).firing = s.firing := rfl

@[simp] theorem firing_moment (s : State) : (moment s).firing = s.firing := by
  obtain ⟨x, e⟩ := moment_eq s
  rw [e, firing_setNotices]

@[simp] theorem firing_momentAfter (l : List NoticeSource) (s : State) : (momentAfter l s).firing = s.firing := by
  obtain ⟨x, e⟩ := momentAfter_eq l s
  rw [e, firing_setNotices]

@[simp] theorem firing_momentAfterRelease (s : State) : (momentAfterRelease s).firing = s.firing := by
  obtain ⟨x, e⟩ := momentAfterRelease_eq s
  rw [e, firing_setNotices]

/-- A control record with the release state as it was. -/
theorem firing_setControl {s : State} {c : Controller} (h : c.release = s.control.release) :
    (s.setControl c).firing = s.firing := by
  simp [State.firing, h]

/-- Demand records with carries and clamp counters as they were. -/
theorem firing_setDemand {s : State} {d : PerBranch DemandRec}
    (h : ∀ b, (d.get b).carry = (s.demand.get b).carry ∧ (d.get b).clamp = (s.demand.get b).clamp) :
    (s.setDemand d).firing = s.firing := by
  simp [State.firing, h]

theorem firing_setDemandRec {s : State} {b : Branch} {r : DemandRec} (hc : r.carry = (s.demand.get b).carry)
    (hk : r.clamp = (s.demand.get b).clamp) : (s.setDemandRec b r).firing = s.firing := by
  refine firing_setDemand fun c => ?_
  rw [PerBranch.get_set]
  split
  · next h => exact h ▸ ⟨hc, hk⟩
  · exact ⟨rfl, rfl⟩

@[simp] theorem firing_countGap (b : Branch) (s : State) : (countGap b s).firing = s.firing :=
  firing_setDemandRec rfl rfl

@[simp] theorem firing_reportSent (o : Order) (s : State) : (reportSent o s).firing = s.firing := by
  unfold reportSent
  split
  · rfl
  · exact firing_setDemandRec rfl rfl

@[simp] theorem firing_updateTrim (ev : CrossingEvent) (s : State) : (updateTrim ev s).firing = s.firing := by
  unfold updateTrim
  split
  · exact firing_setDemandRec rfl rfl
  · rfl

@[simp] theorem firing_changeMode (m : Mode) (t : Option Target) (s : State) :
    (changeMode m t s).firing = s.firing := by
  unfold changeMode
  split
  · exact firing_setControl rfl
  · exact firing_setControl rfl

@[simp] theorem firing_interrupt (f : ControlCounters → ControlCounters) (s : State) :
    (interrupt f s).firing = s.firing := firing_setControl rfl

@[simp] theorem firing_dipBegins (s : State) : (dipBegins s).firing = s.firing := by
  unfold dipBegins
  split
  · split
    · exact firing_interrupt _ s
    · exact firing_setControl rfl
  all_goals rfl

@[simp] theorem firing_dipEnds (s : State) : (dipEnds s).firing = s.firing := by
  unfold dipEnds
  split
  · exact firing_setControl rfl
  all_goals rfl

@[simp] theorem firing_tickDip (s : State) : (tickDip s).firing = s.firing := by
  unfold tickDip
  split
  · split
    · exact firing_interrupt _ s
    · exact firing_setControl rfl
  all_goals rfl

@[simp] theorem firing_recover (s : State) : (recover s).firing = s.firing := by
  unfold recover
  split
  · rfl
  · next t _ =>
    have resumed : (s.setControl { s.control with resume := none }).firing = s.firing := firing_setControl rfl
    dsimp only
    rw [firing_countControl, firing_changeMode, resumed]

@[simp] theorem firing_supplyReturns (s : State) : (supplyReturns s).firing = s.firing := by
  unfold supplyReturns
  rw [firing_recover]
  split
  · exact firing_setControl rfl
  · exact firing_setControl rfl
  all_goals rfl

@[simp] theorem firing_freeze (c : Capture) (s : State) : (freeze c s).firing = s.firing := rfl

@[simp] theorem firing_trigger (x : TriggerSource) (s : State) : (trigger x s).firing = s.firing := by
  unfold trigger
  dsimp only
  split
  · split <;> rfl
  all_goals rfl

@[simp] theorem firing_offerRecord (r : CaptureRecord) (s : State) : (offerRecord r s).firing = s.firing := by
  have post : ∀ c, (countPost c s).firing = s.firing := fun c => by
    unfold countPost
    split <;> rfl
  unfold offerRecord
  dsimp only
  split
  · rfl
  · rfl
  · split
    · rfl
    · split
      · exact post _
      · rfl
  · split
    · rfl
    · exact post _

@[simp] theorem firing_trackerChanged (b : Branch) (s : State) : (trackerChanged b s).firing = s.firing := by
  unfold trackerChanged
  dsimp only
  split
  · exact firing_setControl rfl
  · rfl

@[simp] theorem firing_wakeAction (s : State) : (wakeAction s).firing = s.firing := by
  unfold wakeAction
  split
  · exact firing_changeMode _ _ s
  · rfl

/-! ## Release, trips and readiness -/

/-- R56, R58, R82, R92, R150: a departure from RELEASED leaves nothing of released firing. -/
theorem blockedInv_releaseDrop (s : State) : BlockedInv (releaseDrop s) := by
  refine (blockedInv_iff _).mpr fun _ => ⟨fun b => ?_, fun b => ?_, fun o ho => ?_, releaseDrop_commit s⟩
  · exact congrArg DemandRec.carry (releaseDrop_demand s b)
  · exact congrArg DemandRec.clamp (releaseDrop_demand s b)
  · exact VFrame.order_of_blocked (l := s.exchange.queue) (releaseDrop_queue s ▸ ho)

theorem BlockedInv.holdRelease {s : State} (h : BlockedInv s) : BlockedInv (holdRelease s) := by
  unfold Machine.holdRelease
  dsimp only
  split
  · exact h
  · next hr => exact h.of_unreleased (by simp [hr]) rfl
  · next hr => exact h.of_unreleased (by simp [hr]) rfl
  · exact blockedInv_releaseDrop _

theorem BlockedInv.startQualifying {s : State} (h : BlockedInv s) : BlockedInv (startQualifying s) := by
  unfold Machine.startQualifying
  split
  · next hr => exact h.of_unreleased (by simp [hr]) rfl
  all_goals exact h

theorem BlockedInv.evalBase {s : State} (h : BlockedInv s) : BlockedInv (evalBase s) := by
  unfold Machine.evalBase
  split
  · exact h.startQualifying
  · exact h.holdRelease

theorem blockedInv_gainRelease (s : State) : BlockedInv (gainRelease s) := blockedInv_of_released rfl

theorem BlockedInv.handReady {s : State} (h : BlockedInv s) (v : Bool) : BlockedInv (handReady v s) := by
  unfold Machine.handReady
  dsimp only
  split
  · exact blockedInv_gainRelease _
  · exact blockedInv_releaseDrop _
  · exact h.of_firing (firing_setControl rfl)

theorem BlockedInv.checkReady {s : State} (h : BlockedInv s) (before : Bool) : BlockedInv (checkReady before s) := by
  unfold Machine.checkReady
  split
  · exact h
  · exact h.handReady _

theorem BlockedInv.latchTrip {s : State} (h : BlockedInv s) (c : TripCause) : BlockedInv (latchTrip c s) := by
  have latched : BlockedInv (raise .trip (s.setControl { s.control with
      trips := s.control.trips.latch c, counters := s.control.counters.countCause c })) :=
    h.of_firing (firing_setControl rfl)
  exact latched.evalBase

theorem BlockedInv.reportLost {s : State} (h : BlockedInv s) (o : Order) : BlockedInv (reportLost o s) := by
  have counted : BlockedInv (countGap o.branch s) := h.of_firing (firing_countGap _ s)
  unfold Machine.reportLost
  split
  · exact h
  · split
    · exact counted.latchTrip _
    · exact counted

theorem BlockedInv.evalSupply {s : State} (h : BlockedInv s) : BlockedInv (evalSupply s) := by
  have returns : ∀ (c : Bool) (t : State), (if c then supplyReturns t else t).firing = t.firing := fun c t => by
    cases c <;> simp
  have written : (s.setControl { s.control with supplyValid := s.supplyIsValid, dip := s.dipPresent }).firing =
      s.firing := firing_setControl rfl
  unfold Machine.evalSupply
  dsimp only
  generalize s.setControl { s.control with supplyValid := s.supplyIsValid, dip := s.dipPresent } = u at written ⊢
  have evaluated : ∀ c : Bool,
      BlockedInv (Machine.evalBase (momentAfter [.mode] (if c then supplyReturns u else u))) := fun c =>
    BlockedInv.evalBase (h.of_firing (by rw [firing_momentAfter, returns, written]))
  split
  · exact (evaluated _).of_firing ((firing_dipBegins _).trans (firing_momentAfterRelease _))
  · split
    · exact (evaluated _).of_firing (firing_dipEnds _)
    · exact evaluated _

theorem BlockedInv.endWaking {s : State} (h : BlockedInv s) : BlockedInv (endWaking s) := by
  have changed : ∀ m t, BlockedInv (changeMode m t s) := fun m t => h.of_firing (firing_changeMode m t s)
  unfold Machine.endWaking
  split
  · exact (changed _ _).evalBase
  · exact (changed _ _).evalBase

theorem BlockedInv.controlEvent {s : State} (h : BlockedInv s) (ev : CrossingEvent) :
    BlockedInv (controlEvent ev s) := by
  unfold Machine.controlEvent
  split
  · split
    · unfold countWaking
      have counted : BlockedInv (s.setControl { s.control with wakingCount := s.control.wakingCount + 1 }) :=
        h.of_firing (firing_setControl rfl)
      dsimp only
      split
      · exact h
      · split
        · exact counted.endWaking
        · exact counted
    · split
      · next hq =>
        unfold countQualifying
        dsimp only
        split
        · split
          · exact blockedInv_gainRelease _
          · exact h.of_unreleased (by simp [hq]) rfl
        · exact h.of_firing (firing_setControl rfl)
      · exact h
  · exact h

/-! ## The Table Store -/

theorem BlockedInv.completeCommit {s : State} (h : BlockedInv s) (c : Completion) (f : TableCounters → TableCounters) :
    BlockedInv (completeCommit c f s) := by
  rw [blockedInv_iff] at h ⊢
  intro ht
  have hs : s.firing.Blocked := h (by simpa using ht)
  have hq : (Machine.completeCommit c f s).exchange.queue = s.exchange.queue := by simp
  exact ⟨fun b => by simpa [State.firing] using hs.carry b, fun b => by simpa [State.firing] using hs.clamp b,
    fun o (ho : _ ∈ (Machine.completeCommit c f s).exchange.queue) => hs.orders o (hq ▸ ho : _ ∈ s.exchange.queue),
    completeCommit_commit c f s⟩

theorem BlockedInv.tableEvent {s : State} (h : BlockedInv s) (ev : CrossingEvent) : BlockedInv (tableEvent ev s) := by
  unfold Machine.tableEvent
  split
  · exact h.completeCommit _ _
  · exact h

/-! ## The Order Exchange -/

/-- R93: what begins the transmission leaves the queue. -/
theorem BlockedInv.beginV {s : State} (h : BlockedInv s) : BlockedInv (beginV s) := by
  unfold Machine.beginV
  split
  · next f rest _ hq => exact h.of_queue rfl fun _ o ho => .inl (by rw [hq]; exact List.mem_cons_of_mem f ho)
  · exact h

/-- R61, R92: outside RELEASED an order that joins the queue is BLOCK. -/
theorem BlockedInv.pushFrame {s : State} (h : BlockedInv s) {f : VFrame}
    (hf : s.control.release ≠ .released → ∀ o, f = .order o → o.angle = Config.blockAngle) :
    BlockedInv (pushFrame f s) := by
  have appended : BlockedInv (s.setExchange { s.exchange with queue := s.exchange.queue ++ [f] }) := by
    refine h.of_queue rfl fun hr o ho => ?_
    rcases List.mem_append.mp ho with ho | ho
    · exact .inl ho
    · exact .inr (hf hr o (List.mem_singleton.mp ho).symm)
  exact appended.beginV

theorem BlockedInv.handOrder {s : State} (h : BlockedInv s) {o : Order}
    (ho : s.control.release ≠ .released → o.angle = Config.blockAngle) : BlockedInv (handOrder o s) := by
  have counted : ∀ f, BlockedInv (s.countExchange o.branch f) := fun f => h.of_firing (firing_countExchange s _ f)
  unfold Machine.handOrder
  split
  · exact (counted _).pushFrame fun hr p hp => by
      cases hp
      exact ho hr
  · exact (counted _).reportLost o

theorem newestOrder_mem : ∀ {l : List VFrame} {o : Order} {rest : List VFrame}, newestOrder l = some (o, rest) →
    ∀ f ∈ rest, f ∈ l
  | [], _, _, h, _, _ => by cases h
  | g :: l, o, rest, h, f, hf => by
    unfold newestOrder at h
    split at h
    · next p rest' hl =>
      cases h
      rcases List.mem_cons.mp hf with rfl | hf
      · exact List.mem_cons_self
      · exact List.mem_cons_of_mem g (newestOrder_mem hl f hf)
    · split at h
      · cases h
        exact List.mem_cons_of_mem _ hf
      · cases h

theorem BlockedInv.handBankOrder {s : State} (h : BlockedInv s) (n : Index4) (a : BankAction) :
    BlockedInv (handBankOrder n a s) := by
  have push : ∀ {t : State}, BlockedInv t → ∀ c : QueueCounters,
      BlockedInv (Machine.pushFrame (.bank n a) (t.setExchange { t.exchange with counters := c })) := fun {t} ht c =>
    have counted : BlockedInv (t.setExchange { t.exchange with counters := c }) := ht.of_firing rfl
    counted.pushFrame fun _ _ ho => nomatch ho
  unfold Machine.handBankOrder
  dsimp only
  split
  · exact push h _
  · split
    · exact h.of_firing rfl
    · next o rest hn =>
      have displaced : BlockedInv (s.setExchange { s.exchange with queue := rest }) :=
        h.of_queue rfl fun _ p hp => .inl (newestOrder_mem hn _ hp)
      exact push (BlockedInv.reportLost (displaced.of_firing (firing_countExchange _ _ _)) o) _

theorem BlockedInv.withdrawn {s : State} (h : BlockedInv s) (o : Order) : BlockedInv (withdrawn o s) :=
  BlockedInv.reportLost (h.of_firing (firing_countExchange s _ _)) o

theorem BlockedInv.deadlineCheck {s : State} (h : BlockedInv s) (tag : Tag) : BlockedInv (deadlineCheck tag s) := by
  have all : ∀ (l : List Order) {t : State}, BlockedInv t → BlockedInv (l.foldl (fun t o => Machine.withdrawn o t) t) := by
    intro l
    induction l with
    | nil => exact fun ht => ht
    | cons o rest ih => exact fun ht => ih (ht.withdrawn o)
  exact all _ (h.of_queue rfl fun _ o ho => .inl (List.mem_of_mem_filter ho))

theorem BlockedInv.countTimeout {s : State} (h : BlockedInv s) (b : Branch) : BlockedInv (countTimeout b s) := by
  unfold Machine.countTimeout
  dsimp only
  split
  · exact BlockedInv.latchTrip (h.of_firing (firing_setExchangeRec s _ _)) _
  · exact h.of_firing (firing_setExchangeRec s _ _)

theorem BlockedInv.ageOrders {s : State} (h : BlockedInv s) (ev : CrossingEvent) : BlockedInv (ageOrders ev s) := by
  have all : ∀ (n : Nat) {t : State}, BlockedInv t → BlockedInv (countTimeouts ev.branch n t) := by
    intro n
    induction n with
    | zero => exact fun ht => ht
    | succ n ih => exact fun ht => ih (ht.countTimeout _)
  exact all _ (h.of_firing (firing_setExchangeRec s _ _))

theorem BlockedInv.completeV {s : State} (h : BlockedInv s) : BlockedInv (completeV s) := by
  have sent : ∀ o t, (orderSent o t).firing = t.firing := fun o t =>
    (firing_reportSent o _).trans (firing_countExchange t _ _)
  unfold Machine.completeV
  split
  · exact h
  · have idle : BlockedInv ((s.setExchange { s.exchange with transmitter := none }).countV fun c =>
        { c with sent := bump c.sent }) := h.of_firing rfl
    dsimp only
    split
    · exact BlockedInv.beginV (idle.of_firing rfl)
    · next o _ =>
      have reported := idle.of_firing (sent o _)
      split
      · exact reported.beginV
      · split
        · exact BlockedInv.beginV (reported.of_firing rfl)
        · unfold lateCompletion
          dsimp only
          refine ordered_keeps _ _ _ (fun k => reported.of_firing rfl) fun f hf t ht => ?_
          simp only [List.mem_cons, List.not_mem_nil, or_false] at hf
          rcases hf with rfl | rfl
          · exact ht.beginV
          · exact ht.countTimeout _

theorem BlockedInv.matchReport {s : State} (h : BlockedInv s) (r : ValveReport) : BlockedInv (matchReport r s) := by
  have result : ∀ {t : State}, BlockedInv t → ∀ x, BlockedInv (applyResult r t x) := fun {t} ht x => by
    unfold applyResult
    dsimp only
    split
    · exact ht.of_firing (firing_setExchangeRec t _ _)
    · split
      · exact BlockedInv.latchTrip (ht.of_firing (firing_setExchangeRec t _ _)) _
      · exact ht.of_firing (firing_setExchangeRec t _ _)
    · exact BlockedInv.latchTrip (ht.of_firing (firing_countExchange t _ _)) _
  unfold Machine.matchReport
  dsimp only
  split
  · exact h.of_firing (firing_countExchange s _ _)
  · exact result (h.of_firing (firing_setExchangeRec s _ _)) _

theorem BlockedInv.receiveReport {s : State} (h : BlockedInv s) (r : ReportFrame) : BlockedInv (receiveReport r s) := by
  unfold Machine.receiveReport
  split
  · exact h.of_firing rfl
  · next v _ =>
    unfold takeReport
    split
    · exact h
    · have ready : BlockedInv (setReadiness v.branch v.ready s) :=
        BlockedInv.checkReady (h.of_firing (firing_setExchangeRec s _ _)) _
      exact BlockedInv.matchReport (ready.of_firing (firing_moment _)) v

theorem BlockedInv.discardOrders {s : State} (h : BlockedInv s) : BlockedInv (discardOrders s) :=
  h.of_queue rfl fun _ _ ho => .inl (List.mem_of_mem_filter ho)

theorem BlockedInv.exchangeQuiescent {s : State} (h : BlockedInv s) : BlockedInv (exchangeQuiescent s) := by
  have discarded : ∀ tx branches, BlockedInv (s.setExchange { s.exchange with
      queue := s.exchange.queue.filter VFrame.isBank, transmitter := tx, branches := branches }) := fun _ _ =>
    h.of_queue rfl fun _ _ ho => .inl (List.mem_of_mem_filter ho)
  exact (discarded _ _).checkReady _

theorem BlockedInv.enterQuiescent {s : State} (h : BlockedInv s) : BlockedInv (enterQuiescent s) := by
  have quieted : ∀ c : Controller, c.release = (changeMode .quiescent none s).control.release →
      BlockedInv ((changeMode .quiescent none s).setControl c) := fun c hc =>
    h.of_firing ((firing_setControl hc).trans (firing_changeMode _ _ s))
  unfold Machine.enterQuiescent
  dsimp only
  refine BlockedInv.exchangeQuiescent (ordered_keeps _ _ _ (fun k => (quieted _ rfl).of_firing rfl) fun f hf t ht => ?_)
  simp only [List.mem_cons, List.not_mem_nil, or_false] at hf
  rcases hf with rfl | rfl
  · exact ht.evalBase
  · exact ht.discardOrders

/-! ## The Demand Unit and crossing events -/

/-- R56, R57: without release a demand leaves carry and clamp counter. -/
theorem demandResult_unreleased {s : State} (h : s.control.release ≠ .released) (b : Branch) :
    (s.demandResult b).record.carry = (s.demand.get b).carry ∧
      (s.demandResult b).record.clamp = (s.demand.get b).clamp := by
  unfold State.demandResult
  split
  · simp [State.formDemand, h]
  · exact ⟨rfl, rfl⟩

/-- R61: without release the order angle is BLOCK. -/
theorem orderAngle_unreleased {s : State} (h : s.control.release ≠ .released) (b : Branch) (d : Option Nat) :
    s.orderAngle b d = Config.blockAngle := if_neg h

theorem BlockedInv.actOnEvent {s : State} (h : BlockedInv s) (ev : CrossingEvent) : BlockedInv (actOnEvent ev s) := by
  have formed : BlockedInv (s.setDemandRec ev.branch (s.demandResult ev.branch).record) := by
    by_cases hr : s.control.release = .released
    · exact blockedInv_of_released hr
    · obtain ⟨hc, hk⟩ := demandResult_unreleased hr ev.branch
      exact h.of_firing (firing_setDemandRec hc hk)
  have counted : BlockedInv (if (s.demandResult ev.branch).flags.notFormed
      then countGap ev.branch (s.setDemandRec ev.branch (s.demandResult ev.branch).record)
      else s.setDemandRec ev.branch (s.demandResult ev.branch).record) := by
    split
    · exact formed.of_firing (firing_countGap _ _)
    · exact formed
  have release : (if (s.demandResult ev.branch).flags.notFormed
      then countGap ev.branch (s.setDemandRec ev.branch (s.demandResult ev.branch).record)
      else s.setDemandRec ev.branch (s.demandResult ev.branch).record).control = s.control := by
    split <;> rfl
  unfold Machine.actOnEvent
  dsimp only
  generalize (if (s.demandResult ev.branch).flags.notFormed then _ else _) = u at counted release
  have handed : ∀ r, BlockedInv (Machine.handOrder (eventOrder ev
      (s.orderAngle ev.branch (s.demandResult ev.branch).demand) (s.demandResult ev.branch).flags)
      (offerRecord r u)) := fun r => by
    have offered : (offerRecord r u).control.release = s.control.release :=
      (congrArg Firing.release (firing_offerRecord r u)).trans (congrArg Controller.release release)
    exact BlockedInv.handOrder (counted.of_firing (firing_offerRecord r u)) fun hr =>
      orderAngle_unreleased (offered ▸ hr) _ _
  split
  · exact (handed _).latchTrip _
  · exact handed _

theorem BlockedInv.demandEvent {s : State} (h : BlockedInv s) (ev : CrossingEvent) : BlockedInv (demandEvent ev s) := by
  unfold Machine.demandEvent
  split
  · exact h
  · exact BlockedInv.actOnEvent (h.of_firing (firing_updateTrim ev s)) ev

/-- What every one of the actions keeps of blocked firing, they keep in turn. -/
theorem BlockedInv.inTurn {s : State} (h : BlockedInv s) (contended : Bool) {fs : List (State → State)}
    (hf : ∀ f ∈ fs, ∀ t, BlockedInv t → BlockedInv (f t)) : BlockedInv (s.inTurn contended fs) :=
  inTurn_keeps s contended fs (fun _ => h.of_firing rfl) hf fun t ht => ht.of_firing (firing_moment t)

theorem BlockedInv.offerEvent {s : State} (h : BlockedInv s) (ev : CrossingEvent) : BlockedInv (offerEvent ev s) := by
  refine h.inTurn _ fun f hf t ht => ?_
  simp only [List.mem_cons, List.not_mem_nil, or_false] at hf
  rcases hf with rfl | rfl | rfl | rfl
  · exact ht.demandEvent ev
  · exact ht.ageOrders ev
  · exact ht.tableEvent ev
  · exact ht.controlEvent ev

theorem BlockedInv.runTracker {s : State} (h : BlockedInv s) (tag : Tag) (b : Branch) :
    BlockedInv (runTracker tag b s) := by
  have written : ∀ (x : Bool) (t : Tracker),
      BlockedInv (if x then trackerChanged b (s.setTracker b t) else s.setTracker b t) := fun x t => by
    cases x
    · exact h.of_firing rfl
    · exact h.of_firing (firing_trackerChanged b _)
  have evaluated : ∀ (x y : Bool) (t : Tracker), BlockedInv
      (if y then Machine.evalSupply (if x then trackerChanged b (s.setTracker b t) else s.setTracker b t)
        else if x then trackerChanged b (s.setTracker b t) else s.setTracker b t) := fun x y t => by
    cases y
    · exact written x t
    · exact (written x t).evalSupply
  unfold Machine.runTracker
  dsimp only
  split
  · exact evaluated _ _ _
  · exact BlockedInv.offerEvent ((evaluated _ _ _).of_firing (firing_moment _)) _

theorem BlockedInv.releasedSet {s : State} (h : BlockedInv s) (tag : Tag) : BlockedInv (releasedSet tag s) := by
  refine h.inTurn _ fun f hf t ht => ?_
  simp only [List.mem_cons, List.not_mem_nil, or_false] at hf
  rcases hf with rfl | rfl | rfl | rfl
  · exact ht.runTracker tag _
  · exact ht.runTracker tag _
  · exact ht.runTracker tag _
  · exact ht.deadlineCheck tag

theorem BlockedInv.unlockTrackers {s : State} (h : BlockedInv s) : BlockedInv (unlockTrackers s) := by
  have unlocked : ∀ b (t : State), (unlockTracker b t).firing = t.firing := fun b t => by
    unfold unlockTracker
    dsimp only
    split
    · rfl
    · exact firing_trackerChanged b _
  exact BlockedInv.evalSupply (h.of_firing (by rw [unlocked, unlocked, unlocked]))

/-! ## Aux inputs -/

theorem BlockedInv.startBlanking {s : State} (h : BlockedInv s) (delay width : Nat) :
    BlockedInv (startBlanking delay width s) := by
  unfold Machine.startBlanking
  dsimp only
  split
  · split
    · exact BlockedInv.evalBase (h.of_firing rfl)
    · exact h.of_firing rfl
  · exact h.of_firing rfl
  · exact h.of_firing rfl

theorem BlockedInv.activateBlanking {s : State} (h : BlockedInv s) (width : Nat) :
    BlockedInv (activateBlanking width s) := BlockedInv.evalBase (h.of_firing rfl)

theorem BlockedInv.endBlanking {s : State} (h : BlockedInv s) : BlockedInv (endBlanking s) :=
  BlockedInv.evalBase (h.of_firing rfl)

theorem BlockedInv.tickBlanking {s : State} (h : BlockedInv s) : BlockedInv (tickBlanking s) := by
  unfold Machine.tickBlanking
  dsimp only
  split
  · exact h
  · split
    · exact h.activateBlanking _
    · exact h.of_firing rfl
  · split
    · exact h.endBlanking
    · exact h.of_firing rfl

theorem BlockedInv.actIf {s : State} (h : BlockedInv s) (has : Bool) {f : State → State}
    (hf : BlockedInv s → BlockedInv (f s)) : BlockedInv (actIf has f s) := by
  unfold Machine.actIf
  split
  · exact hf h
  · exact h

theorem BlockedInv.blockAction {s : State} (h : BlockedInv s) (n : Index4) : BlockedInv (blockAction n s) := by
  refine BlockedInv.evalBase ?_
  split
  · exact h.of_firing rfl
  · exact h

theorem BlockedInv.activeEdge {s : State} (h : BlockedInv s) (n : Index4) : BlockedInv (activeEdge n s) := by
  have counted : BlockedInv (edgeCounted n s) := h.of_firing rfl
  rw [activeEdge_eq rfl]
  unfold edgeActions
  exact ((((counted.actIf _ fun k => k.of_firing (firing_wakeAction _)).actIf _ fun k => k.blockAction n).actIf _
    fun k => k.startBlanking _ _).actIf _ fun k => k.of_firing (firing_trigger _ _)).actIf _ fun k => k.of_firing rfl

theorem BlockedInv.inactiveEdge {s : State} (h : BlockedInv s) (n : Index4) : BlockedInv (inactiveEdge n s) :=
  (h.actIf _ fun k => k.evalBase).actIf _ fun k => k.of_firing rfl

theorem BlockedInv.handAux {s : State} (h : BlockedInv s) (flags : Four Bool) : BlockedInv (handAux flags s) := by
  refine h.inTurn _ fun f hf t ht => ?_
  obtain ⟨n, _, rfl⟩ := List.mem_map.mp hf
  have written : ∀ r, BlockedInv (t.setAux n r) := fun r => ht.of_firing (firing_setAux t n r)
  dsimp only
  rw [debounceAux_reads rfl rfl]
  split
  · exact written _
  · split
    · split
      · exact (written _).activeEdge n
      · exact (written _).inactiveEdge n
    · exact written _

end Sys2Proof.Machine
end

section
/-! Every step keeps firing blocked outside RELEASED (R56, R57, R58, R61, R82, R92). -/

namespace Sys2Proof.Machine

/-! ## Releases of slots and sample frames -/

theorem firing_slotClosed (e : Tag) (forced : Bool) (s : State) : (slotClosed e forced s).firing = s.firing := by
  obtain ⟨_, _, -, hs⟩ := slotClosed_eq e forced s
  rw [hs, firing_setNotices, firing_setAsm]

theorem BlockedInv.releaseSlot {s : State} (h : BlockedInv s) (forced : Bool) : BlockedInv (releaseSlot forced s) := by
  rcases he : s.asm.expected with _ | e
  · rwa [releaseSlot_none he]
  · rw [releaseSlot_eq he]
    have closed : BlockedInv (slotClosed e forced s) := h.of_firing (firing_slotClosed e forced s)
    have completed : (completeSets (Machine.releasedSet e (slotClosed e forced s))).firing =
      (Machine.releasedSet e (slotClosed e forced s)).firing := firing_setAsm _ _
    exact (closed.releasedSet e).of_firing ((firing_moment _).trans completed)

theorem BlockedInv.releaseChain : ∀ (n : Nat) {s : State}, BlockedInv s → BlockedInv (releaseChain n s)
  | 0, _, h => h
  | n + 1, s, h => by
    unfold Machine.releaseChain
    split
    · exact BlockedInv.releaseChain n (h.releaseSlot false)
    · exact h

theorem BlockedInv.releaseCheck {s : State} (h : BlockedInv s) : BlockedInv (releaseCheck s) := by
  unfold Machine.releaseCheck
  split
  · exact h
  · split
    · exact h
    · exact h.releaseChain _

theorem BlockedInv.forceReleases : ∀ (n : Nat) {s : State}, BlockedInv s → BlockedInv (forceReleases n s)
  | 0, _, h => h
  | n + 1, _, h => BlockedInv.forceReleases n (h.releaseSlot true)

theorem BlockedInv.acceptFrame {s : State} (h : BlockedInv s) (e tag : Tag) (n : Index4) (f : SampleFrame) :
    BlockedInv (acceptFrame e tag n f s) := by
  have placed : BlockedInv (completeSets (closeSets e tag (placeFrame e tag n f.channels s))) := h.of_firing rfl
  unfold Machine.acceptFrame
  dsimp only
  split
  · exact h.of_firing rfl
  · split
    · refine placed.inTurn _ fun g hg t ht => ?_
      simp only [List.mem_cons, List.not_mem_nil, or_false] at hg
      rcases hg with rfl | rfl
      · exact ht.releaseCheck
      · exact ht.handAux _
    · exact placed.releaseCheck

theorem BlockedInv.discontinuity {s : State} (h : BlockedInv s) (tag : Tag) (n : Index4) :
    BlockedInv (discontinuity tag n s) := by
  rw [discontinuity_eq]
  have placed : BlockedInv (discontinuityPlaced tag n s) := h.of_firing rfl
  exact placed.unlockTrackers.of_firing (by simp [State.countAsm])

theorem BlockedInv.handleFrame {s : State} (h : BlockedInv s) (e tag : Tag) (n : Index4) (f : SampleFrame) :
    BlockedInv (handleFrame e tag n f s) := by
  unfold Machine.handleFrame
  dsimp only
  split
  · exact h.acceptFrame _ _ _ _
  · split
    · exact (h.forceReleases _).acceptFrame _ _ _ _
    · split
      · exact (h.discontinuity _ _).acceptFrame _ _ _ _
      · exact h.of_firing rfl

theorem BlockedInv.takeSample {s : State} (h : BlockedInv s) (f : SampleFrame) : BlockedInv (takeSample f s) := by
  unfold Machine.takeSample
  split
  · exact h.of_firing rfl
  · split
    · exact h.of_firing rfl
    · split
      · exact h.of_firing rfl
      · split
        · exact h.of_firing rfl
        · dsimp only
          split
          · have expected : ∀ a, BlockedInv (s.setAsm a) := fun a => h.of_firing (firing_setAsm s a)
            exact (expected _).handleFrame _ _ _ _
          · exact h.handleFrame _ _ _ _

theorem BlockedInv.expireSilence {s : State} (h : BlockedInv s) : BlockedInv (expireSilence s) := by
  rw [expireSilence_eq]
  have cleared : BlockedInv (silenceCleared s) := h.of_firing rfl
  exact cleared.unlockTrackers.of_firing (by simp [State.countAsm, streamInterruption])

/-! ## The Bank Controller -/

@[simp] theorem firing_writeBank (n : Index4) (r : BankRec) (s : State) : (writeBank n r s).firing = s.firing := by
  unfold writeBank
  dsimp only
  split
  · rfl
  · split <;> rfl

@[simp] theorem firing_faultBank (n : Index4) (code : Option Byte) (f : BankCounters → BankCounters) (s : State) :
    (faultBank n code f s).firing = s.firing := firing_writeBank n _ s

theorem BlockedInv.placeBankOrder {s : State} (h : BlockedInv s) (n : Index4) (a : BankAction) :
    BlockedInv (placeBankOrder n a s) :=
  BlockedInv.handBankOrder (h.of_firing ((firing_momentAfter _ _).trans (firing_writeBank n _ s))) n a

/-- R58: a confirmation zeroes the clamp counters. -/
theorem BlockedInv.confirmBank {s : State} (h : BlockedInv s) (n : Index4) (r : BankRec) :
    BlockedInv (confirmBank n r s) := by
  have written : BlockedInv (loadDwell (writeBank n r s)) := h.of_firing (firing_writeBank n r s)
  rw [blockedInv_iff] at written ⊢
  intro hr
  obtain ⟨carry, -, orders, commit⟩ := written hr
  refine ⟨fun b => ?_, fun b => ?_, orders, commit⟩
  · simpa [Machine.confirmBank, zeroClamps, State.firing] using carry b
  · simp [Machine.confirmBank, zeroClamps, State.firing]

theorem BlockedInv.takeBankStatus {s : State} (h : BlockedInv s) (n : Index4) (st : BankStatus) (code : Byte) :
    BlockedInv (takeBankStatus n st code s) := by
  unfold Machine.takeBankStatus
  dsimp only
  split
  case h_1 | h_9 | h_10 | h_11 | h_12 | h_13 | h_14 => exact h.of_firing rfl
  case h_2 | h_3 => exact h.confirmBank _ _
  case h_15 | h_16 | h_17 | h_18 | h_19 => exact h.of_firing (firing_faultBank _ _ _ s)
  all_goals exact h.of_firing (firing_writeBank _ _ s)

theorem BlockedInv.receiveBankStatus {s : State} (h : BlockedInv s) (bank status code : Byte) :
    BlockedInv (receiveBankStatus bank status code s) := by
  unfold Machine.receiveBankStatus
  split
  · exact h.takeBankStatus _ _ _
  · exact h.of_firing rfl

@[simp] theorem firing_tickConfirmation (s : State) (n : Index4) : (tickConfirmation s n).firing = s.firing := by
  unfold tickConfirmation
  dsimp only
  split
  · split
    · exact firing_faultBank _ _ _ _
    · rfl
  · rfl

@[simp] theorem firing_tickDischarge (s : State) (n : Index4) : (tickDischarge s n).firing = s.firing := by
  unfold tickDischarge
  dsimp only
  split
  · split
    · exact firing_writeBank _ _ _
    · rfl
  · rfl

@[simp] theorem firing_tickDwell (s : State) : (tickDwell s).firing = s.firing := by
  unfold tickDwell
  split
  · rfl
  · split <;> rfl

theorem BlockedInv.autoSwitch {s : State} (h : BlockedInv s) : BlockedInv (autoSwitch s) := by
  have counted : ∀ f, BlockedInv (s.countBanks f) := fun f => h.of_firing (firing_setBanks s _)
  unfold Machine.autoSwitch
  split
  · split
    · split
      · exact (counted _).placeBankOrder _ _
      · exact h.of_firing rfl
    · split
      · split
        · exact (counted _).placeBankOrder _ _
        · exact h.of_firing rfl
      · exact h
  · exact h

theorem BlockedInv.tickBanks {s : State} (h : BlockedInv s) : BlockedInv (tickBanks s) := by
  have dwell : ∀ t : State, (if s.confirmationExpires then t else tickDwell t).firing = t.firing := fun t => by
    split <;> simp
  refine BlockedInv.autoSwitch (h.of_firing ?_)
  rw [dwell, firing_momentAfter, foldl_same State.firing _ firing_tickDischarge, firing_momentAfter,
    foldl_same State.firing _ firing_tickConfirmation]

theorem BlockedInv.localTick {s : State} (h : BlockedInv s) : BlockedInv (localTick s) := by
  have counted : BlockedInv (countTick s) := h.of_firing rfl
  refine BlockedInv.inTurn (counted.of_firing (firing_tickDip _)) _ fun f hf t ht => ?_
  simp only [List.mem_cons, List.not_mem_nil, or_false] at hf
  rcases hf with rfl | rfl
  · exact ht.tickBlanking
  · exact ht.tickBanks

/-! ## Directives -/

theorem firing_clearCounters (s : State) (g : CounterGroup) : (clearCounters s g).firing = s.firing := by
  cases g with
  | demand => exact firing_setDemand fun b => by simp
  | _ => rfl

/-- R56: a carry of 0 is within every limit. -/
theorem BlockedInv.clipCarries {s : State} (h : BlockedInv s) : BlockedInv (clipCarries s) := by
  rw [blockedInv_iff] at h ⊢
  intro hr
  obtain ⟨carry, clamp, orders, commit⟩ := h hr
  refine ⟨fun b => ?_, fun b => ?_, orders, commit⟩
  · have hb : (s.demand.get b).carry = 0 := carry b
    have hclip : clip 0 (-(s.params.carryLimit : Int)) s.params.carryLimit = 0 := by
      rw [clip_eq_max_min] <;> omega
    simp [Machine.clipCarries, State.firing, hb, hclip]
  · simpa [Machine.clipCarries, State.firing] using clamp b

theorem BlockedInv.zeroCarries {s : State} (h : BlockedInv s) : BlockedInv (zeroCarries s) := by
  rw [blockedInv_iff] at h ⊢
  intro hr
  obtain ⟨-, clamp, orders, commit⟩ := h hr
  refine ⟨fun b => ?_, fun b => ?_, orders, commit⟩
  · simp [Machine.zeroCarries, State.firing]
  · simpa [Machine.zeroCarries, State.firing] using clamp b

theorem BlockedInv.afterWrite {s : State} (h : BlockedInv s) (p : Param) : BlockedInv (afterWrite p s) := by
  unfold Machine.afterWrite
  split
  · split
    · exact h.of_firing rfl
    · exact h
  · exact h.clipCarries
  · exact h.zeroCarries
  · exact h.evalSupply
  · exact h.evalSupply
  · exact h.evalBase
  · exact h

theorem BlockedInv.actSet {s : State} (h : BlockedInv s) (ident : Byte) (value : Word) :
    BlockedInv (actSet ident value s).1 := by
  unfold Machine.actSet
  split
  · exact h
  · next p _ =>
    split
    · exact h
    · split
      · have written : BlockedInv (s.setParams (s.params.write p value.toInt)) := h.of_firing rfl
        exact written.afterWrite p
      · exact h

theorem BlockedInv.actSourceSet {s : State} (h : BlockedInv s) (source enabled policy hold miss : Byte) :
    BlockedInv (actSourceSet source enabled policy hold miss s).1 := by
  have written : ∀ n r, BlockedInv (completeSets (s.setSource n r)) := fun n r => h.of_firing (firing_setSource s n r)
  unfold Machine.actSourceSet
  split
  · exact h
  · split
    · exact (written _ _).releaseCheck
    · exact h

theorem BlockedInv.actAuxSet {s : State} (h : BlockedInv s) (aux polarity kind debounce actions delay width : Byte) :
    BlockedInv (actAuxSet aux polarity kind debounce actions delay width s).1 := by
  have written : ∀ n r, BlockedInv (s.setAux n r) := fun n r => h.of_firing (firing_setAux s n r)
  unfold Machine.actAuxSet
  split
  · exact h
  · split
    · exact (written _ _).evalBase
    · exact h

theorem firing_actBankSet (bank present : Byte) (susceptance : Half) (state : Byte) (s : State) :
    (actBankSet bank present susceptance state s).1.firing = s.firing := by
  have record : ∀ n st x, (setBankRecord n st x s).1.firing = s.firing := fun n _ _ => firing_writeBank n _ s
  unfold actBankSet
  split
  · rfl
  · split
    · split
      · rfl
      · exact record _ _ _
    · split
      · split
        · rfl
        · split
          · rfl
          · exact record _ _ _
      · rfl
    · rfl

theorem BlockedInv.actBankForce {s : State} (h : BlockedInv s) (bank action : Byte) :
    BlockedInv (actBankForce bank action s).1 := by
  unfold Machine.actBankForce
  split
  · next n a _ _ =>
    split
    · exact h
    · split
      · exact h
      · exact (h.placeBankOrder n a).of_firing rfl
  · exact h

theorem firing_actTableWrite (start : Half) (n fill : Byte) (values : List Half) (s : State) :
    (actTableWrite start n fill values s).1.firing = s.firing := by
  unfold actTableWrite
  split
  · rfl
  · split
    · split
      · rfl
      · split <;> rfl
    · rfl

theorem firing_actTableRead (bank : Byte) (start : Half) (n : Byte) (s : State) :
    (actTableRead bank start n s).1.firing = s.firing := by
  unfold actTableRead
  split
  · split <;> rfl
  · rfl

theorem firing_actTableCopy (s : State) : (actTableCopy s).1.firing = s.firing := by
  unfold actTableCopy
  split <;> rfl

/-- R78, R79: a commit becomes pending only while RELEASED. -/
theorem BlockedInv.actTableCommit {s : State} (h : BlockedInv s) (tag : Byte) :
    BlockedInv (actTableCommit tag s).1 := by
  unfold Machine.actTableCommit
  split
  · exact h
  · split
    · exact h.of_firing rfl
    · split
      · next hr => exact blockedInv_of_released hr
      · exact h.of_firing rfl

theorem BlockedInv.requestMode {s : State} (h : BlockedInv s) (t : Target) : BlockedInv (requestMode t s) := by
  have changed : ∀ m g, BlockedInv (changeMode m g s) := fun m g => h.of_firing (firing_changeMode m g s)
  unfold Machine.requestMode
  split
  · exact (changed _ _).evalBase
  · exact (changed _ _).evalBase
  · exact changed _ _
  · exact h.of_firing (firing_setControl rfl)

theorem BlockedInv.actMode {s : State} (h : BlockedInv s) (operand : Byte) : BlockedInv (actMode operand s).1 := by
  have cancelled : BlockedInv (cancelResume s) := h.of_firing (firing_setControl rfl)
  have taken : ∀ m, BlockedInv (takeMode m s) := fun m => by
    unfold takeMode
    split
    · exact cancelled.requestMode _
    · exact cancelled.requestMode _
    all_goals
      split
      · exact cancelled
      · exact h.enterQuiescent
  unfold Machine.actMode
  split
  · exact h
  · split
    · exact h
    · exact taken _

theorem BlockedInv.actBlock {s : State} (h : BlockedInv s) (operand : Byte) : BlockedInv (actBlock operand s).1 := by
  unfold Machine.actBlock
  split
  · exact h
  · next v _ =>
    have directed : BlockedInv (s.setControl { s.control with directedBlock := v }) :=
      h.of_firing (firing_setControl rfl)
    exact directed.evalBase

theorem BlockedInv.actTripClear {s : State} (h : BlockedInv s) : BlockedInv (actTripClear s).1 := by
  have cleared : (zeroGaps (clearLatches (s.setControl { s.control with trips := .empty }))).firing = s.firing :=
    (firing_setDemand fun b => by simp).trans ((firing_setControl rfl).trans (firing_setControl rfl))
  exact BlockedInv.evalBase (h.of_firing cleared)

theorem firing_actCaptureSet (mode : Byte) (post : Half) (s : State) :
    (actCaptureSet mode post s).1.firing = s.firing := by
  unfold actCaptureSet
  split
  · split <;> rfl
  · rfl

theorem firing_actCaptureTrigger (s : State) : (actCaptureTrigger s).1.firing = s.firing := by
  unfold actCaptureTrigger
  split
  · exact firing_trigger _ s
  · rfl

/-- R70, R85, R108, R157: an ENGINE reset leaves nothing of released firing. -/
theorem blockedInv_engineReset (s : State) : BlockedInv (engineReset s) := by
  obtain ⟨tables, processor, records, valid, dip, ready, hs, ⟨-, -, hcommit, -, -⟩, -⟩ := engineReset_eq s
  refine (blockedInv_iff _).mpr fun _ => ?_
  rw [hs]
  refine ⟨fun b => by simp [State.firing], fun b => by simp [State.firing], fun o ho => ?_, hcommit⟩
  simpa [VFrame.isBank] using List.of_mem_filter (p := VFrame.isBank) ho

theorem BlockedInv.act (d : Directive) (s : State) (h : BlockedInv s) : BlockedInv (act d s).1 := by
  unfold Machine.act
  split
  case h_3 =>
    unfold actCounters
    split
    · split
      · exact h.of_firing (firing_clearCounters s _)
      · exact h
    · exact h
  case h_5 =>
    unfold actGet
    split <;> exact h
  case h_6 => exact h.actSet _ _
  case h_7 =>
    unfold actMapSet
    split
    · exact h
    · split <;> exact h.of_firing rfl
  case h_8 => exact h.actSourceSet _ _ _ _ _
  case h_9 => exact h.actAuxSet _ _ _ _ _ _ _
  case h_10 => exact h.of_firing (firing_actBankSet _ _ _ _ s)
  case h_11 => exact h.actBankForce _ _
  case h_12 => exact h.of_firing (firing_actTableWrite _ _ _ _ s)
  case h_13 => exact h.of_firing (firing_actTableRead _ _ _ s)
  case h_14 => exact h.of_firing (firing_actTableCopy s)
  case h_15 => exact h.actTableCommit _
  case h_16 => exact h.actMode _
  case h_17 => exact h.actBlock _
  case h_18 => exact h.actTripClear
  case h_19 => exact h.of_firing (firing_actCaptureSet _ _ s)
  case h_20 => exact h.of_firing (firing_actCaptureTrigger s)
  case h_21 =>
    unfold actCaptureRead
    split <;> exact h.of_firing rfl
  case h_23 =>
    unfold actNoticeSet
    split <;> exact h.of_firing rfl
  case h_24 =>
    unfold actNoticeClear
    split <;> exact h.of_firing rfl
  case h_25 =>
    unfold actReset
    split
    · exact h
    · exact (blockedInv_engineReset s).of_firing (firing_moment _)
    · exact h.of_firing rfl
  all_goals exact h.of_firing rfl

/-! ## A command, a step -/

theorem blockedInv_stationFree : StationFree BlockedInv :=
  ⟨fun _ _ h => h.of_firing rfl, fun _ _ h => h.of_firing rfl, fun _ _ h => h.of_firing rfl,
    fun _ _ h => h.of_firing rfl⟩

theorem BlockedInv.receiveBytes {s : State} (h : BlockedInv s) (port : Port) (bytes : List Byte) :
    BlockedInv (receiveBytes port bytes s) := by
  have counted : ∀ v, BlockedInv (s.countPort port fun c => c.count v) := fun v => by
    cases port <;> exact h.of_firing rfl
  unfold Machine.receiveBytes
  dsimp only
  split
  · unfold handOn
    split
    · exact (counted _).takeSample _
    · exact blockedInv_stationFree.admission _ _ (counted _)
    · exact (counted _).receiveReport _
    · exact (counted _).receiveBankStatus _ _ _
    · exact counted _
  · exact counted _

/-- Every command keeps firing blocked outside RELEASED. -/
theorem BlockedInv.exec {i : Instr} {s t : State} (h : BlockedInv s) (ht : exec i s = .next t) : BlockedInv t := by
  have directive : ∀ {unit tag kind : Byte} {length : Nat} {r : Request},
      whileReleased s (directiveArrives unit tag kind length r) = .next t → BlockedInv t :=
    whileReleased_keeps (blockedInv_stationFree.directiveArrives BlockedInv.act _ _ _ _ _) h
  have settled : ∀ {f : State → State}, BlockedInv (f s) →
      whileReleased s (fun s => settle (f s)) = .next t → BlockedInv t :=
    fun hf => whileReleased_keeps (fun _ => blockedInv_stationFree.settle BlockedInv.act hf) h
  have receivedV : BlockedInv s.receivedV := h.of_firing rfl
  cases i with
  | sampleFrame f => exact settled (blockedInv_stationFree.receiveM (fun _ hs => hs.takeSample f) _ h) ht
  | localSamplePeriod =>
    refine settled (f := endSamplePeriod) ?_ ht
    unfold endSamplePeriod
    split
    · exact h
    · split
      · exact h.expireSilence
      · exact h.of_firing rfl
  | silenceTimerExpiry =>
    refine settled (f := silenceExpires) ?_ ht
    unfold silenceExpires
    split
    · exact h
    · exact h.expireSilence
  | localTick => exact settled h.localTick ht
  | confirmationTimerExpiry =>
    have kept : ∀ (u : State) (n : Index4), (confirmationExpiresAt u n).firing = u.firing := fun u n => by
      unfold confirmationExpiresAt
      split
      · exact firing_faultBank _ _ _ u
      · rfl
    exact settled (f := Index4.all.foldl confirmationExpiresAt)
      (h.of_firing (foldl_same State.firing _ kept _ s)) ht
  | dischargeTimerExpiry n =>
    refine settled (f := dischargeExpires n) ?_ ht
    unfold dischargeExpires
    split
    · exact h.of_firing (firing_writeBank _ _ s)
    · exact h
  | dwellTimerExpiry => exact settled (f := expireDwell) (h.of_firing rfl) ht
  | dipToleranceExpiry =>
    refine settled (f := dipToleranceExpires) ?_ ht
    unfold dipToleranceExpires
    split
    · exact h.of_firing (firing_interrupt _ s)
    · exact h
  | blankingDelayExpiry =>
    refine settled (f := blankingDelayExpires) ?_ ht
    unfold blankingDelayExpires
    split
    · exact h.activateBlanking _
    · exact h
  | blankingPulseEnd =>
    refine settled (f := blankingPulseEnds) ?_ ht
    unfold blankingPulseEnds
    split
    · exact h.endBlanking
    · exact h
  | valveReport r => exact settled (f := fun s => Machine.receiveReport r s.receivedV) (receivedV.receiveReport r) ht
  | bankStatusFrame bank status code =>
    exact settled (f := fun s => Machine.receiveBankStatus bank status code s.receivedV)
      (receivedV.receiveBankStatus bank status code) ht
  | vTransmitCompletion => exact settled h.completeV ht
  | frameRejected port bytes => exact settled (h.receiveBytes port bytes) ht
  | mTransmitCompletion =>
    exact whileReleased_keeps
      (blockedInv_stationFree.completeM BlockedInv.act fun _ _ => blockedInv_powerOn _ _ _ _) h ht
  | powerOnReset =>
    cases ht
    exact blockedInv_powerOn _ _ _ _
  | rstnRelease fsel unit boot =>
    change execRstnRelease fsel unit boot s = .next t at ht
    unfold execRstnRelease at ht
    split at ht <;> cases ht
    · exact h
    · exact blockedInv_powerOn _ _ _ _
  | _ => exact directive ht

theorem BlockedInv.step {s t : State} (h : BlockedInv s) (ht : step s = .next t) : BlockedInv t := by
  unfold Machine.step at ht
  split at ht
  · cases ht
    exact h
  · next c rest _ =>
    have waiting : BlockedInv { s with pending := rest } := h.of_firing rfl
    exact waiting.exec ht

end Sys2Proof.Machine

/-- Settles O56: every command keeps firing blocked outside RELEASED, the directives it takes included. -/
theorem stepKeepsFiringBlocked : Obligations.StepKeepsFiringBlocked := by
  unfold Obligations.StepKeepsFiringBlocked
  intro s t hi ht
  exact hi.step ht
end

section
/-! The demand of a branch (R47 to R57, R60 to R63): the entries it reads, its estimate and limits, its angle. -/

namespace Sys2Proof.Machine

/-! ## Limit, carry and clamp counter (Table 3-3, R57) -/

/-- Table 3-3: the case of a raw demand, and with it the clamp flags. -/
theorem limitCase_iff (r : Int) : (limitCase r = .high ↔ 4095 < r) ∧ (limitCase r = .low ↔ r < 0) := by
  unfold limitCase
  split
  · exact ⟨by simpa, by simp; omega⟩
  · split <;> simp <;> omega

theorem limitCase_high {r : Int} (h : 4095 < r) : limitCase r = .high := (limitCase_iff r).1.mpr h

theorem limitCase_low {r : Int} (h : r < 0) : limitCase r = .low := (limitCase_iff r).2.mpr h

theorem limitCase_within {r : Int} (h0 : 0 ≤ r) (h1 : r ≤ 4095) : limitCase r = .within := by
  rw [limitCase, if_neg (by omega), if_neg (by omega)]

theorem limitedDemand_eq (r : Int) : (limitedDemand r : Int) = max 0 (min r 4095) := by
  have hc : clip r 0 4095 = max 0 (min r 4095) := clip_eq_max_min (by decide)
  rw [limitedDemand, hc, Int.toNat_of_nonneg (by omega)]

theorem newCarry_high {r : Int} (h : 4095 < r) (limit : Nat) : newCarry r limit = min (r - 4095) limit := by
  simp only [newCarry, limitCase_high h]

theorem newCarry_low {r : Int} (h : r < 0) (limit : Nat) : newCarry r limit = max r (-(limit : Int)) := by
  simp only [newCarry, limitCase_low h]

theorem newCarry_within {r : Int} (h0 : 0 ≤ r) (h1 : r ≤ 4095) (limit : Nat) : newCarry r limit = 0 := by
  simp only [newCarry, limitCase_within h0 h1]

/-- R57: a count at 127 stays there under a high clamp. -/
theorem newClamp_high {c : Int} (h : c ≤ 127) : newClamp c .high = min (c + 1) 127 := by
  unfold newClamp
  dsimp only
  split <;> omega

/-- R57: a count at -128 stays there under a low clamp. -/
theorem newClamp_low {c : Int} (h : -128 ≤ c) : newClamp c .low = max (c - 1) (-128) := by
  unfold newClamp
  dsimp only
  split <;> omega

theorem newClamp_within_pos {c : Int} (h : 0 < c) : newClamp c .within = c - 1 := if_pos h

theorem newClamp_within_neg {c : Int} (h : c < 0) : newClamp c .within = c + 1 := by
  simp only [newClamp]
  rw [if_neg (by omega), if_pos h]

/-! ## The angle (R60, R61) -/

/-- R60: an entry that is BLOCK gives BLOCK. -/
theorem tableAngle_block {s : State} {b : Branch} {d a : Nat} (h : s.tables.active[d / 8]? = some a) (ha : a = 8192) :
    s.tableAngle b (some d) = 8192 := by
  simp [State.tableAngle, firingAngle, h, ha, Config.blockAngle]

/-- R60: any other entry is moved by the branch's offset and limited to the range of firing angles. -/
theorem tableAngle_offset {s : State} {b : Branch} {d a : Nat} (h : s.tables.active[d / 8]? = some a) (ha : a ≠ 8192) :
    (s.tableAngle b (some d) : Int) = max 4096 (min ((a : Int) + s.params.angleOffset.get b) 8191) := by
  have hc : clip ((a : Int) + s.params.angleOffset.get b) 4096 8191 =
    max 4096 (min ((a : Int) + s.params.angleOffset.get b) 8191) := clip_eq_max_min (by decide)
  have hd : s.tables.active.getD (d / 8) Config.blockAngle = a := by simp [h]
  have hb : a ≠ Config.blockAngle := ha
  simp only [State.tableAngle, firingAngle, hd, if_neg hb, hc]
  exact Int.toNat_of_nonneg (by omega)

theorem orderAngle_released {s : State} (h : s.control.release = .released) (b : Branch) (d : Option Nat) :
    s.orderAngle b d = s.tableAngle b d := if_pos h

theorem orderAngle_none (s : State) (b : Branch) : s.orderAngle b none = 8192 := by
  unfold State.orderAngle
  split <;> rfl

/-! ## The entries a demand reads (R47, R48, R51) -/

theorem delayedVoltage_getElem? (s : State) (b : Branch) {k : Nat} (h : k < 32) :
    (s.delayedVoltage b)[k]? = (s.asm.windows.get b.voltage).entries[16 + k]? := by
  rw [State.delayedVoltage, List.getElem?_take_of_lt h, List.getElem?_drop]
  rfl

theorem WindowEntry.sub_invalid {x y : WindowEntry} (h : x.value = none ∨ y.value = none) : (x.sub y).value = none := by
  rcases h with h | h
  · simp [WindowEntry.sub, h]
  · rcases hx : x.value with _ | u <;> simp [WindowEntry.sub, h, hx]

theorem WindowEntry.sub_valid {x y : WindowEntry} {u v : Int} (hx : x.value = some u) (hy : y.value = some v) :
    (x.sub y).value = some (u - v) := by simp [WindowEntry.sub, hx, hy]

theorem difference_getElem? {s : State} {q : Quantity × Quantity} {k : Nat} (h : k < 32) {x y : WindowEntry}
    (hx : (s.asm.windows.get q.1).entries[k]? = some x) (hy : (s.asm.windows.get q.2).entries[k]? = some y) :
    (s.difference q)[k]? = some (x.sub y) := by
  have hx' : ((s.entries q.1).take 32)[k]? = some x := (List.getElem?_take_of_lt h).trans hx
  have hy' : ((s.entries q.2).take 32)[k]? = some y := (List.getElem?_take_of_lt h).trans hy
  rw [State.difference, List.getElem?_zipWith, hx', hy']

/-- R48: the invalid entries are those filtered by the lack of a value. -/
theorem invalidCount_eq (l : List WindowEntry) : invalidCount l = (l.filter fun e => e.value.isNone).length :=
  List.countP_eq_length_filter

theorem currentsPass_iff (s : State) (q : Quantity × Quantity) : s.currentsPass q = true ↔
    invalidCount ((s.asm.windows.get q.1).entries.take 32) ≤ s.params.halfInvalidLimit ∧
      invalidCount ((s.asm.windows.get q.2).entries.take 32) ≤ s.params.halfInvalidLimit := by
  rw [State.currentsPass, Bool.and_eq_true, decide_eq_true_iff, decide_eq_true_iff]
  rfl

theorem demandForms_iff (s : State) (b : Branch) : s.demandForms b = true ↔
    invalidCount ((s.asm.windows.get b.currents.1).entries.take 32) ≤ s.params.halfInvalidLimit ∧
      invalidCount ((s.asm.windows.get b.currents.2).entries.take 32) ≤ s.params.halfInvalidLimit ∧
      invalidCount (((s.asm.windows.get b.voltage).entries.drop 16).take 32) ≤ s.params.halfInvalidLimit := by
  rw [State.demandForms, Bool.and_eq_true, currentsPass_iff, decide_eq_true_iff, and_assoc]
  rfl

theorem load2Takes_iff (s : State) (b : Branch) : s.load2Takes b = true ↔ s.secondLoadMapped = true ∧
    invalidCount ((s.asm.windows.get b.currents2.1).entries.take 32) ≤ s.params.halfInvalidLimit ∧
      invalidCount ((s.asm.windows.get b.currents2.2).entries.take 32) ≤ s.params.halfInvalidLimit := by
  rw [State.load2Takes, Bool.and_eq_true, currentsPass_iff]

theorem secondLoadMapped_iff (s : State) : s.secondLoadMapped = true ↔
    s.asm.map.ia2 ≠ none ∧ s.asm.map.ib2 ≠ none ∧ s.asm.map.ic2 ≠ none := by
  simp [State.secondLoadMapped, Option.isSome_iff_ne_none, and_assoc]

theorem substituted_iff (s : State) (b : Branch) : s.substituted b = true ↔
    (∃ e ∈ s.difference b.currents ++ s.delayedVoltage b, e.held = true) ∨
      s.load2Takes b = true ∧ ∃ e ∈ s.difference b.currents2, e.held = true := by
  rw [← List.any_eq_true, List.any_append, ← List.any_eq_true]
  simp only [State.substituted, Bool.or_eq_true, Bool.and_eq_true]

/-! ## The load estimate and the raw demand (R51 to R54) -/

/-- R51: a correlation sum, entry by entry. -/
theorem correlate_eq (i v : List WindowEntry) :
    correlate i v = ((i.zip v).map fun p => correlationTerm p.1 p.2).sum := by
  rw [correlate, ← List.sum_eq_foldl, ← List.map_uncurry_zip_eq_zipWith]
  rfl

/-- A quotient by a positive number, rounded toward minus infinity (0.7), is the Euclidean one. -/
theorem floorDiv_eq (x : Int) (d : Nat) : floorDiv x d = x / (d : Int) :=
  Int.fdiv_eq_ediv_of_nonneg x (Int.natCast_nonneg d)

theorem loadEstimate_eq (s : State) (b : Branch) : s.loadEstimate b = max (-32767) (min 32767
    ((correlate (s.difference b.currents) (s.delayedVoltage b) * (s.params.loadGain.get b : Int) +
      (if s.load2Takes b then correlate (s.difference b.currents2) (s.delayedVoltage b) else 0) *
        (s.params.load2Gain.get b : Int)) / 16777216)) := by
  have hd : ((2 ^ 24 : Nat) : Int) = 16777216 := rfl
  simp only [State.loadEstimate]
  rw [clip_eq_max_min (by decide), floorDiv_eq, hd, min_comm]

/-- R53: the trim moves only at a POS event that updated the magnitude. -/
theorem updateTrim_updated {ev : CrossingEvent} (hp : ev.polarity = .pos) (hm : ev.magnitudeUpdated = true) (s : State) :
    updateTrim ev s = s.setDemandRec ev.branch { s.demand.get ev.branch with
      trim := max (-512) (min 512 ((s.demand.get ev.branch).trim +
        ((((s.trackers.get ev.branch).magnitude : Int) - s.params.vRef) * s.params.trimGain) / 4096)) } := by
  have ht : ∀ t m v g, trimUpdate t m v g = max (-512) (min 512 (t + (((m : Int) - v) * g) / 4096)) := fun t m v g => by
    rw [trimUpdate, clip_eq_max_min (by decide), floorDiv_eq, min_comm]
    rfl
  rw [updateTrim, if_pos ⟨hp, hm⟩, ← ht]

theorem updateTrim_standing {ev : CrossingEvent} (h : ev.polarity = .neg ∨ ev.magnitudeUpdated = false) (s : State) :
    updateTrim ev s = s := by
  refine if_neg fun ⟨hp, hm⟩ => ?_
  rcases h with h | h
  · exact absurd (hp.symm.trans h) (by decide)
  · exact absurd (hm.symm.trans h) (by decide)

/-! ## What a half-cycle's demand carries (R50, R55 to R57, R62, R63) -/

theorem demandResult_formed {s : State} {b : Branch} (h : s.demandForms b = true) :
    s.demandResult b = s.formDemand b := if_pos h

theorem demandResult_passed {s : State} {b : Branch} (h : s.demandForms b = false) :
    s.demandResult b = s.passDemand b := if_neg (by simp [h])

theorem formDemand_eq (s : State) (b : Branch) {r : DemandRec} {x : Int} {omitted : Bool} (hr : r = s.demand.get b)
    (hx : x = s.rawDemand b) (ho : omitted = (s.secondLoadMapped && !s.load2Takes b)) : s.formDemand b = {
      record := { r with
        carry := if s.control.release = .released ∧ s.params.limitMode = .carry then newCarry x s.params.carryLimit
          else r.carry
        clamp := if s.control.release = .released then newClamp r.clamp (limitCase x) else r.clamp
        lastD := some (limitedDemand x)
        counters := { r.counters with
          formed := bump r.counters.formed
          clampHigh := if 4095 < x then bump r.counters.clampHigh else r.counters.clampHigh
          clampLow := if x < 0 then bump r.counters.clampLow else r.counters.clampLow
          load2Omitted := if omitted then bump r.counters.load2Omitted else r.counters.load2Omitted } }
      demand := some (limitedDemand x)
      raw := some x
      load := some (s.loadEstimate b)
      flags := ⟨decide (4095 < x), decide (x < 0), decide (r.carry ≠ 0), s.substituted b, omitted, false, false⟩ } := by
  subst hr hx ho
  obtain ⟨high, low⟩ := limitCase_iff (s.rawDemand b)
  simp only [State.formDemand, DemandCounters.countFormed, Bool.and_eq_true, decide_eq_true_eq, high, low]

theorem passDemand_eq (s : State) (b : Branch) {r : DemandRec} {d : Option Nat} (hr : r = s.demand.get b)
    (hd : d = if s.params.gapPolicy = .repeatLast then r.lastD else none) : s.passDemand b = {
      record := { r with counters := { r.counters with notFormed := bump r.counters.notFormed } }
      demand := d
      raw := none
      load := none
      flags := ⟨false, false, false, false, false, d.isSome, true⟩ } := by
  subst hr hd
  unfold State.passDemand
  cases s.params.gapPolicy <;> rfl

end Sys2Proof.Machine

open Sys2Proof Sys2Proof.Machine

/-- Settles O42: each quantity of R47 to R63 by its own law. -/
theorem demandIsLimitedAndGated : Obligations.DemandIsLimitedAndGated := by
  unfold Obligations.DemandIsLimitedAndGated
  refine ⟨fun r => ?_, fun r limit => ⟨fun h => newCarry_high h limit, fun h => newCarry_low h limit,
      fun h0 h1 => newCarry_within h0 h1 limit⟩,
    fun c hlo hhi => ⟨newClamp_high hhi, newClamp_low hlo, newClamp_within_pos, newClamp_within_neg, rfl⟩,
    fun s b => ?_, by decide, fun s b q k hk => ⟨delayedVoltage_getElem? s b hk, fun x y hx hy => ?_⟩,
    fun s b bad hbad => ?_, fun i v => ?_, fun s b => ⟨loadEstimate_eq s b, rfl⟩,
    fun s ev => ⟨fun hp hm => updateTrim_updated hp hm s, fun h => updateTrim_standing h s⟩,
    fun s b => ⟨demandResult_formed, demandResult_passed⟩, fun s b r x omitted hr hx ho k hk => ?_,
    fun s b r d hr hd => passDemand_eq s b hr hd⟩
  · have h := limitedDemand_eq r
    refine ⟨?_, fun h0 h1 => ?_, fun h0 => ?_, fun h1 => ?_⟩ <;> omega
  · refine ⟨orderAngle_none s b, fun d hr => orderAngle_unreleased hr b d, fun d a hr ha => ?_,
      fun d hr => orderAngle_released hr b d, rfl, fun d a ha => ⟨tableAngle_block ha, tableAngle_offset ha⟩⟩
    rw [orderAngle_released hr]
    refine ⟨tableAngle_block ha, fun hne => ?_⟩
    have h := tableAngle_offset (b := b) ha hne
    exact ⟨by omega, by omega, h⟩
  · exact ⟨x.sub y, difference_getElem? hk hx hy, rfl, WindowEntry.sub_invalid,
      fun _ _ hu hv => WindowEntry.sub_valid hu hv⟩
  · have hcount : bad = invalidCount := funext fun l => (hbad l).trans (invalidCount_eq l).symm
    subst hcount
    exact ⟨demandForms_iff s b, load2Takes_iff s b, secondLoadMapped_iff s, substituted_iff s b⟩
  · exact correlate_eq i v
  · subst hk
    exact formDemand_eq s b hr hx ho
end

section
/-! A crossing event at the Demand Unit (R46, R61 to R67, R89): the order and the record handed over, the gaps counted and
the trip they may bring. -/

namespace Sys2Proof.Machine

/-! ## What a trip leaves and writes (R142) -/

@[simp] theorem latchTrip_gapCount (c : TripCause) (s : State) (b : Branch) :
    ((latchTrip c s).demand.get b).gapCount = (s.demand.get b).gapCount :=
  (congrArg DemandRec.gapCount ((evalBase_only _).demand b)).trans rfl

theorem latchTrip_counters (c : TripCause) (s : State) : ∃ lost restarts, (latchTrip c s).control.counters =
    { s.control.counters.countCause c with releaseLost := lost, qualifyRestart := restarts } :=
  evalBase_counters _

theorem latchTrip_notice (c : TripCause) (s : State) :
    ((latchTrip c s).notices.records.get .trip).status = true := by
  unfold latchTrip
  rw [evalBase_notice (by decide), raise_status]
  rfl

/-! ## The transmitter takes the head of the queue (R93) -/

/-- R93: the exchange after an idle transmitter has taken the head of the queue. -/
def Exchange.begun (x : Exchange) : Exchange :=
  if x.transmitter.isSome then x
  else { x with queue := x.queue.tail, transmitter := x.queue.head?.map fun f => ⟨f, false⟩ }

theorem beginV_eq (s : State) : beginV s = s.setExchange s.exchange.begun := by
  unfold beginV Exchange.begun
  split
  · next f rest ht hq => simp [ht, hq]
  · next h =>
    rcases ht : s.exchange.transmitter with _ | x
    · rcases hq : s.exchange.queue with _ | ⟨f, rest⟩
      · have same : ({ s.exchange with queue := [], transmitter := none } : Exchange) = s.exchange := by rw [← ht, ← hq]
        rw [if_neg (by simp)]
        exact congrArg s.setExchange same.symm
      · exact absurd hq (h f rest ht)
    · exact (if_pos rfl).symm ▸ rfl

theorem Exchange.begun_busy {x : Exchange} (h : x.transmitter.isSome = true) : x.begun = x := if_pos h

theorem Exchange.begun_idle {x : Exchange} (h : x.transmitter = none) :
    x.begun = { x with queue := x.queue.tail, transmitter := x.queue.head?.map fun f => ⟨f, false⟩ } :=
  if_neg (by simp [h])

@[simp] theorem Exchange.begun_branches (x : Exchange) : x.begun.branches = x.branches := by
  unfold Exchange.begun
  split <;> rfl

/-! ## An order handed over (R89) -/

/-- R89: the exchange with a branch's counters updated. -/
def Exchange.count (b : Branch) (f : ExchangeCounters → ExchangeCounters) (x : Exchange) : Exchange :=
  { x with branches := x.branches.set b { x.branches.get b with counters := f (x.branches.get b).counters } }

/-- R89: the exchange with an order as the newest of the queue. -/
def Exchange.append (o : Order) (x : Exchange) : Exchange := { x with queue := x.queue ++ [VFrame.order o] }

/-- R89, R93: the exchange after an order is handed over: appended and begun by an idle transmitter, or dropped. -/
def Exchange.handed (o : Order) (x : Exchange) : Exchange :=
  if x.queue.length < Config.sendQueueLimit then
    ((x.count o.branch fun c => { c with queued := bump c.queued }).append o).begun
  else x.count o.branch fun c => { c with missed := bump c.missed }

theorem handOrder_queued {o : Order} {s : State} (h : s.exchange.queue.length < Config.sendQueueLimit) :
    handOrder o s = s.setExchange (s.exchange.handed o) := by
  unfold handOrder Exchange.handed pushFrame
  rw [if_pos h, beginV_eq, if_pos h]
  rfl

theorem handOrder_dropped {o : Order} {s : State} (h : ¬s.exchange.queue.length < Config.sendQueueLimit) :
    handOrder o s = reportLost o (s.setExchange (s.exchange.handed o)) := by
  unfold handOrder Exchange.handed
  rw [if_neg h, if_neg h]
  rfl

theorem reportLost_notFormed {o : Order} (h : o.flags.notFormed = true) (s : State) : reportLost o s = s := if_pos h

/-- R64, R65: the loss of a formed order is a gap, and trips GAP when it brings the count to GAP_LIMIT. -/
theorem reportLost_formed {o : Order} (h : o.flags.notFormed = false) (s : State) : reportLost o s =
    if s.gapTripDue o.branch then latchTrip (.gap o.branch) (countGap o.branch s) else countGap o.branch s :=
  if_neg (by simp [h])

/-! ## A record offered (R67) -/

/-- An offered record touches the Capture Unit and the notices alone. -/
theorem offerRecord_eq (r : CaptureRecord) (s : State) : ∃ notices,
    offerRecord r s = (s.setCapture (offerRecord r s).capture).setNotices notices := by
  have post : ∀ c, ∃ notices, countPost c s = (s.setCapture (countPost c s).capture).setNotices notices := fun c => by
    unfold countPost
    split <;> exact ⟨_, rfl⟩
  unfold offerRecord
  dsimp only
  split
  · exact ⟨_, rfl⟩
  · exact ⟨_, rfl⟩
  · split
    · exact ⟨_, rfl⟩
    · split
      · exact post _
      · exact ⟨_, rfl⟩
  · split
    · exact ⟨_, rfl⟩
    · exact post _

/-- An offered record acts on the Capture Unit by the unit's own state. -/
theorem offerRecord_capture_congr (r : CaptureRecord) {s t : State} (h : t.capture = s.capture) :
    (offerRecord r t).capture = (offerRecord r s).capture := by
  have post : ∀ c, (countPost c t).capture = (countPost c s).capture := fun c => by
    unfold countPost
    split <;> rfl
  unfold offerRecord
  dsimp only
  rw [h]
  split
  · exact h
  · rfl
  · split
    · rfl
    · split
      · exact post _
      · rfl
  · split
    · rfl
    · exact post _

theorem eventRecord_eq (ev : CrossingEvent) (x : DemandResult) (angle : Nat) (release : ReleaseState) :
    eventRecord ev x angle release = ⟨ev.branch, ev.polarity, ev.h, ev.crossingTag, x.demand,
      x.raw.map fun r => max (-32767) (min 32767 r), x.load, x.record.trim, x.record.carry, x.flags, angle, release⟩ := by
  have hc : (fun r : Int => clip r (-32767) 32767) = fun r => max (-32767) (min 32767 r) := funext fun r => by
    rw [clip_eq_max_min (by decide), min_comm]
  rw [← hc]
  rfl

/-! ## The event (R46) -/

theorem demandResult_gapCount (s : State) (b : Branch) :
    (s.demandResult b).record.gapCount = (s.demand.get b).gapCount := by
  unfold State.demandResult
  split <;> rfl

theorem demandResult_notFormed (s : State) (b : Branch) :
    (s.demandResult b).flags.notFormed = true ↔ s.demandForms b = false := by
  unfold State.demandResult
  split
  · next h => simp [State.formDemand, h]
  · next h => simp [State.passDemand, h]

/-- R46, stage 1, writes a trim. -/
theorem updateTrim_eq (ev : CrossingEvent) (s : State) : ∃ trim,
    updateTrim ev s = s.setDemandRec ev.branch { s.demand.get ev.branch with trim := trim } := by
  unfold updateTrim
  split
  · exact ⟨_, rfl⟩
  · exact ⟨(s.demand.get ev.branch).trim, congrArg s.setDemand (PerBranch.set_get_self s.demand ev.branch).symm⟩

/-- What stage 1 of an event leaves: everything but the trim of the branch's record. -/
structure TrimOnly (b : Branch) (s v : State) : Prop where
  control : v.control = s.control
  tables : v.tables = s.tables
  params : v.params = s.params
  exchange : v.exchange = s.exchange
  capture : v.capture = s.capture
  other : ∀ c, c ≠ b → v.demand.get c = s.demand.get c
  gapCount : (v.demand.get b).gapCount = (s.demand.get b).gapCount

theorem updateTrim_only (ev : CrossingEvent) (s : State) : TrimOnly ev.branch s (updateTrim ev s) := by
  obtain ⟨trim, h⟩ := updateTrim_eq ev s
  rw [h]
  exact ⟨rfl, rfl, rfl, rfl, rfl, fun c hc => PerBranch.get_set_ne _ _ hc,
    by simp [State.setDemandRec]⟩

/-- The order that an event hands over (R61, R62, R66). -/
def State.eventOrder (s : State) (ev : CrossingEvent) : Order :=
  Machine.eventOrder ev (s.orderAngle ev.branch (s.demandResult ev.branch).demand) (s.demandResult ev.branch).flags

/-- The record that an event offers (R67). -/
def State.eventRecord (s : State) (ev : CrossingEvent) : CaptureRecord :=
  Machine.eventRecord ev (s.demandResult ev.branch) (s.tableAngle ev.branch (s.demandResult ev.branch).demand)
    s.control.release

/-- R64: the event is a gap: its demand is not formed, or its order finds the send queue full. -/
def State.eventGap (s : State) (ev : CrossingEvent) : Bool :=
  (s.demandResult ev.branch).flags.notFormed || !decide (s.exchange.queue.length < Config.sendQueueLimit)

/-- What an event writes before a trip, with the branch's record given: the order handed over, the record offered. -/
def State.eventHanded (s : State) (ev : CrossingEvent) (r : DemandRec) (notices : NoticeUnit) : State :=
  { s with
    demand := s.demand.set ev.branch r
    exchange := s.exchange.handed (s.eventOrder ev)
    capture := (offerRecord (s.eventRecord ev) s).capture
    notices := notices }

/-- R64: a demand record with one gap more. -/
def DemandRec.gap (r : DemandRec) : DemandRec := { r with gapCount := bump255 r.gapCount }

theorem countGap_setDemandRec (b : Branch) (r : DemandRec) (s : State) :
    countGap b (s.setDemandRec b r) = s.setDemandRec b r.gap := by
  simp [countGap, State.setDemandRec, State.setDemand, DemandRec.gap]

theorem countGap_eventHanded (s : State) (ev : CrossingEvent) (r : DemandRec) (notices : NoticeUnit) :
    countGap ev.branch (s.eventHanded ev r notices) = s.eventHanded ev r.gap notices := by
  simp [countGap, State.setDemandRec, State.setDemand, State.eventHanded, DemandRec.gap]

theorem gapTripDue_eventHanded {s : State} {ev : CrossingEvent} {r : DemandRec}
    (h : r.gapCount = (s.demand.get ev.branch).gapCount) (notices : NoticeUnit) :
    (s.eventHanded ev r notices).gapTripDue ev.branch = s.gapTripDue ev.branch := by
  simp [State.gapTripDue, State.eventHanded, h]

/-- R89: the order and the record handed on, the branch's record written; a full queue reports the order lost. -/
theorem handOrder_offered (s : State) (ev : CrossingEvent) (r : DemandRec) : ∃ notices,
    handOrder (s.eventOrder ev) (offerRecord (s.eventRecord ev) (s.setDemandRec ev.branch r)) =
      if s.exchange.queue.length < Config.sendQueueLimit then s.eventHanded ev r notices
      else reportLost (s.eventOrder ev) (s.eventHanded ev r notices) := by
  obtain ⟨notices, h⟩ := offerRecord_eq (s.eventRecord ev) (s.setDemandRec ev.branch r)
  have hc : (offerRecord (s.eventRecord ev) (s.setDemandRec ev.branch r)).capture =
    (offerRecord (s.eventRecord ev) s).capture := offerRecord_capture_congr _ rfl
  have handed : (offerRecord (s.eventRecord ev) (s.setDemandRec ev.branch r)).setExchange
      (s.exchange.handed (s.eventOrder ev)) = s.eventHanded ev r notices := by
    rw [h, hc]
    rfl
  have hx : (offerRecord (s.eventRecord ev) (s.setDemandRec ev.branch r)).exchange = s.exchange := by
    rw [h]
    rfl
  refine ⟨notices, ?_⟩
  split
  · next hq => rw [handOrder_queued (by rwa [hx]), hx, handed]
  · next hq => rw [handOrder_dropped (by rwa [hx]), hx, handed]

/-- The branch's record after an event: a gap is counted, once (R64). -/
def State.eventDemand (s : State) (ev : CrossingEvent) : DemandRec :=
  if s.eventGap ev then (s.demandResult ev.branch).record.gap else (s.demandResult ev.branch).record

/-- R46, stages 2 to 6: the event is handed on whole, then a gap that is due trips (R65; log 16). -/
theorem actOnEvent_eq (ev : CrossingEvent) (s : State) : ∃ notices, actOnEvent ev s =
    if s.eventGap ev && s.gapTripDue ev.branch then
      latchTrip (.gap ev.branch) (s.eventHanded ev (s.eventDemand ev) notices)
    else s.eventHanded ev (s.eventDemand ev) notices := by
  have expand : actOnEvent ev s =
      (if (s.demandResult ev.branch).flags.notFormed && s.gapTripDue ev.branch then latchTrip (.gap ev.branch) else id)
        (handOrder (s.eventOrder ev) (offerRecord (s.eventRecord ev)
          (if (s.demandResult ev.branch).flags.notFormed then
            countGap ev.branch (s.setDemandRec ev.branch (s.demandResult ev.branch).record)
            else s.setDemandRec ev.branch (s.demandResult ev.branch).record))) := by
    unfold actOnEvent
    dsimp only
    split <;> rfl
  rw [expand]
  unfold State.eventDemand State.eventGap
  rcases hn : (s.demandResult ev.branch).flags.notFormed with _ | _
  · obtain ⟨notices, hr⟩ := handOrder_offered s ev (s.demandResult ev.branch).record
    refine ⟨notices, ?_⟩
    simp only [Bool.false_eq_true, if_false, Bool.false_and, Bool.false_or, id, hr]
    by_cases hq : s.exchange.queue.length < Config.sendQueueLimit
    · simp [hq]
    · have hf : (s.eventOrder ev).flags.notFormed = false := hn
      have hb : (s.eventOrder ev).branch = ev.branch := rfl
      rw [if_neg hq, reportLost_formed hf, hb, gapTripDue_eventHanded (demandResult_gapCount s ev.branch),
        countGap_eventHanded]
      simp [hq]
  · obtain ⟨notices, hr⟩ := handOrder_offered s ev (s.demandResult ev.branch).record.gap
    have hf : (s.eventOrder ev).flags.notFormed = true := hn
    refine ⟨notices, ?_⟩
    simp only [if_true, Bool.true_and, Bool.true_or, countGap_setDemandRec, hr, reportLost_notFormed hf, ite_self]
    split <;> rfl

/-- R64: the count after an event. -/
theorem eventDemand_gapCount (s : State) (ev : CrossingEvent) : (s.eventDemand ev).gapCount =
    if s.eventGap ev then bump255 (s.demand.get ev.branch).gapCount else (s.demand.get ev.branch).gapCount := by
  unfold State.eventDemand
  split
  · exact congrArg bump255 (demandResult_gapCount s ev.branch)
  · exact demandResult_gapCount s ev.branch

theorem eventDemand_record (s : State) (ev : CrossingEvent) : s.eventDemand ev =
    { (s.demandResult ev.branch).record with gapCount := (s.eventDemand ev).gapCount } := by
  unfold State.eventDemand
  split <;> rfl

theorem eventGap_iff (s : State) (ev : CrossingEvent) : s.eventGap ev = true ↔
    (s.demandResult ev.branch).flags.notFormed = true ∨ 8 ≤ s.exchange.queue.length := by
  simp only [State.eventGap, Bool.or_eq_true, Bool.not_eq_true', decide_eq_false_iff_not, Nat.not_lt]
  rfl

theorem gapTripDue_iff (s : State) (b : Branch) : s.gapTripDue b = true ↔
    (s.demand.get b).gapCount < 255 ∧ s.params.gapLimit ≤ (s.demand.get b).gapCount + 1 := by
  simp [State.gapTripDue]

/-- What a trip leaves of the event handed on: the exchange but for the queue, the capture and the counts of gaps. -/
structure HandedOn (w t : State) : Prop where
  branches : t.exchange.branches = w.exchange.branches
  transmitter : t.exchange.transmitter = w.exchange.transmitter
  capture : t.capture = w.capture
  gapCount : ∀ b, (t.demand.get b).gapCount = (w.demand.get b).gapCount

theorem actOnEvent_handedOn (ev : CrossingEvent) (s : State) :
    ∃ notices, HandedOn (s.eventHanded ev (s.eventDemand ev) notices) (actOnEvent ev s) := by
  obtain ⟨notices, h⟩ := actOnEvent_eq ev s
  refine ⟨notices, ?_⟩
  rw [h]
  split
  · exact ⟨latchTrip_branches _ _, latchTrip_transmitter _ _, (latchTrip_outside _ _).capture,
      latchTrip_gapCount _ _⟩
  · exact ⟨rfl, rfl, rfl, fun _ => rfl⟩

theorem actOnEvent_quiet {ev : CrossingEvent} {s : State} (h : ¬(s.eventGap ev = true ∧ s.gapTripDue ev.branch = true)) :
    ∃ notices, actOnEvent ev s = s.eventHanded ev (s.eventDemand ev) notices := by
  obtain ⟨notices, e⟩ := actOnEvent_eq ev s
  exact ⟨notices, e.trans (if_neg (by simpa using h))⟩

theorem actOnEvent_trips {ev : CrossingEvent} {s : State} (hg : s.eventGap ev = true)
    (hd : s.gapTripDue ev.branch = true) :
    ∃ notices, actOnEvent ev s = latchTrip (.gap ev.branch) (s.eventHanded ev (s.eventDemand ev) notices) := by
  obtain ⟨notices, e⟩ := actOnEvent_eq ev s
  exact ⟨notices, e.trans (if_pos (by simp [hg, hd]))⟩

/-! ## The exchange after the order -/

theorem Exchange.count_self (b : Branch) (f : ExchangeCounters → ExchangeCounters) (x : Exchange) :
    ((x.count b f).branches.get b).counters = f (x.branches.get b).counters := by simp [Exchange.count]

theorem Exchange.handed_other {o : Order} {b : Branch} (h : b ≠ o.branch) (x : Exchange) :
    (x.handed o).branches.get b = x.branches.get b := by
  unfold Exchange.handed
  split
  · rw [Exchange.begun_branches]
    exact PerBranch.get_set_ne _ _ h
  · exact PerBranch.get_set_ne _ _ h

section
variable {o : Order} {x : Exchange}

theorem Exchange.handed_full (h : 8 ≤ x.queue.length) :
    x.handed o = x.count o.branch fun c => { c with missed := bump c.missed } := if_neg (Nat.not_lt.mpr h)

theorem Exchange.handed_room (h : x.queue.length < 8) :
    x.handed o = ((x.count o.branch fun c => { c with queued := bump c.queued }).append o).begun := if_pos h

theorem Exchange.handed_room_counters (h : x.queue.length < 8) : ((x.handed o).branches.get o.branch).counters =
    { (x.branches.get o.branch).counters with queued := bump (x.branches.get o.branch).counters.queued } := by
  rw [Exchange.handed_room h, Exchange.begun_branches]
  exact Exchange.count_self o.branch (fun c => { c with queued := bump c.queued }) x

theorem Exchange.handed_busy (h : x.queue.length < 8) (hb : x.transmitter.isSome = true) :
    (x.handed o).transmitter = x.transmitter ∧ (x.handed o).queue = x.queue ++ [VFrame.order o] := by
  rw [Exchange.handed_room h, Exchange.begun_busy]
  · exact ⟨rfl, rfl⟩
  · exact hb

theorem Exchange.handed_idle (h : x.queue.length < 8) (hi : x.transmitter = none) :
    (x.handed o).transmitter = (x.queue ++ [VFrame.order o]).head?.map (fun f => ⟨f, false⟩) ∧
      (x.handed o).queue = (x.queue ++ [VFrame.order o]).tail := by
  rw [Exchange.handed_room h, Exchange.begun_idle]
  · exact ⟨rfl, rfl⟩
  · exact hi

end

end Sys2Proof.Machine

open Sys2Proof Sys2Proof.Machine

/-- Settles O43: the event handed on whole, the trip of its gap after it. -/
theorem demandEventHandsOverOneOrder : Obligations.DemandEventHandsOverOneOrder := by
  unfold Obligations.DemandEventHandsOverOneOrder
  refine ⟨fun n h => if_pos h, rfl, fun s ev => ⟨fun hm => if_pos hm, fun hm v x o g hv hx ho hg => ?_⟩⟩
  have acted : demandEvent ev s = actOnEvent ev v := (if_neg hm).trans (by rw [hv])
  obtain ⟨hcontrol, htables, hparams, hexchange, hcapture, hother, hcount⟩ := updateTrim_only ev s
  rw [← hv] at hcontrol htables hparams hexchange hcapture hother hcount
  rw [← hg] at hcount
  have horder : v.eventOrder ev = o := by rw [ho, hx]; rfl
  have hrecord : eventRecord ev x (v.tableAngle ev.branch x.demand) s.control.release = v.eventRecord ev := by
    rw [hx, ← hcontrol]; rfl
  have hbranch : o.branch = ev.branch := by rw [ho]
  have hgap := eventGap_iff v ev
  rw [← hx, hexchange] at hgap
  have hdue := gapTripDue_iff v ev.branch
  rw [hcount, hparams] at hdue
  obtain ⟨notices, handed⟩ := actOnEvent_handedOn ev v
  have hbranches : (demandEvent ev s).exchange.branches = (s.exchange.handed o).branches := by
    rw [acted, handed.branches, ← horder, ← hexchange]; rfl
  have htransmitter : (demandEvent ev s).exchange.transmitter = (s.exchange.handed o).transmitter := by
    rw [acted, handed.transmitter, ← horder, ← hexchange]; rfl
  have counts : ((demandEvent ev s).demand.get ev.branch).gapCount = if v.eventGap ev then bump255 g else g := by
    rw [acted, handed.gapCount, ← hcount, ← eventDemand_gapCount]
    simp [State.eventHanded]
  refine ⟨hx ▸ demandResult_notFormed v ev.branch, demandEvent_trackers ev s,
    congrArg Outer.asm (outer_demandEvent ev s), congrArg Outer.banks (outer_demandEvent ev s), fun b hb => ?_, ?_,
    eventRecord_eq _ _ _ _, ?_, fun hfull => ?_, fun hroom => ⟨?_, fun hbusy => ?_, fun hidle => ?_⟩,
    fun hquiet => ?_, fun hlost hlt hlimit => ?_⟩
  · exact (congrArg (PerBranch.get · b) hbranches).trans (Exchange.handed_other (hbranch ▸ hb) _)
  · rw [acted, handed.capture, hrecord]
    exact offerRecord_capture_congr _ hcapture
  · rw [counts]
    simp only [hgap]
  · rw [Exchange.handed_full hfull] at hbranches htransmitter
    rw [← hbranch]
    exact ⟨(congrArg (fun p => (PerBranch.get p o.branch).counters) hbranches).trans (Exchange.count_self _ _ _),
      htransmitter⟩
  · rw [← hbranch]
    exact (congrArg (fun p => (PerBranch.get p o.branch).counters) hbranches).trans
      (Exchange.handed_room_counters hroom)
  · exact htransmitter.trans (Exchange.handed_busy hroom hbusy).1
  · exact htransmitter.trans (Exchange.handed_idle hroom hidle).1
  · obtain ⟨notices', quiet⟩ := actOnEvent_quiet (ev := ev) (s := v) (by
      rw [hgap, hdue]
      rintro ⟨hlost, hlt, hlimit⟩
      rcases hquiet with h | h | h
      · exact h hlost
      · omega
      · omega)
    rw [acted, quiet]
    have hqueue : (v.eventHanded ev (v.eventDemand ev) notices').exchange = s.exchange.handed o := by
      rw [← horder, ← hexchange]; rfl
    refine ⟨hcontrol, htables, fun b hb => ?_, ?_, fun hfull => ?_, fun hroom hbusy => ?_, fun hroom hidle => ?_⟩
    · exact (PerBranch.get_set_ne _ _ hb).trans (hother b hb)
    · simp only [State.eventHanded, PerBranch.get_set_self]
      rw [hx]
      exact eventDemand_record v ev
    · rw [hqueue, Exchange.handed_full hfull]; rfl
    · rw [hqueue]; exact (Exchange.handed_busy hroom hbusy).2
    · rw [hqueue]; exact (Exchange.handed_idle hroom hidle).2
  · obtain ⟨notices', trips⟩ := actOnEvent_trips (ev := ev) (s := v) (hgap.mpr hlost) (hdue.mpr ⟨hlt, hlimit⟩)
    rw [acted, trips]
    obtain ⟨lost, restarts, hcounters⟩ := latchTrip_counters (.gap ev.branch)
      (v.eventHanded ev (v.eventDemand ev) notices')
    refine ⟨?_, ?_, latchTrip_held _ _, latchTrip_notice _ _⟩
    · rw [latchTrip_trips, ← hcontrol]; rfl
    · rw [hcounters, ← hcontrol]; rfl
end

section
/-! The Order Exchange: the completion of a frame, the deadline check and the ageing of outstanding orders (R91, R93 to
R97), with the gaps and timeouts they count and the trips those bring (R64, R65). -/

namespace Sys2Proof.Machine

/-! ## Counts below their limits -/

theorem bump_below {n : Nat} (h : n < 65535) : bump n = n + 1 := if_pos h

theorem bump255_below {n : Nat} (h : n < 255) : bump255 n = n + 1 := if_pos h

/-! ## Transmit completion (R93, R94) -/

/-- R93, R94: the state in which a completed frame has left the transmitter and is counted. -/
def State.vIdle (s : State) : State :=
  (s.setExchange { s.exchange with transmitter := none }).countV fun c => { c with sent := bump c.sent }

theorem completeV_idle {s : State} (h : s.exchange.transmitter = none) : completeV s = s := by
  simp [completeV, h]

theorem completeV_bank {s : State} {n : Index4} {a : BankAction} {x : Bool}
    (h : s.exchange.transmitter = some ⟨.bank n a, x⟩) : completeV s =
      (s.countV fun c => { c with sent := bump c.sent }).setExchange { s.exchange with
        queue := s.exchange.queue.tail
        transmitter := s.exchange.queue.head?.map fun f => ⟨f, false⟩
        counters := { s.exchange.counters with bankSent := bump s.exchange.counters.bankSent } } := by
  simp only [completeV, h]
  rw [beginV_eq, Exchange.begun_idle rfl]
  rfl

theorem completeV_order {s : State} {o : Order} {x : Bool} (h : s.exchange.transmitter = some ⟨.order o, x⟩) :
    completeV s = if x then beginV (orderSent o s.vIdle)
      else if orderAge (s.trackers.get o.branch).h o.h ≤ 3 then beginV (appendOutstanding o (orderSent o s.vIdle))
      else lateCompletion o (orderSent o s.vIdle) := by
  have ht : (orderSent o s.vIdle).trackers = s.trackers := by
    unfold orderSent reportSent
    split <;> rfl
  simp only [completeV, h]
  rw [← ht]
  rfl

/-- R94: the reports and counts of a completed order write its branch's records alone. -/
theorem orderSent_eq (o : Order) (s : State) : orderSent o s =
    (s.setExchange (s.exchange.count o.branch fun c => { c with sent := bump c.sent })).setDemand
      (if o.flags.notFormed then s.demand
        else s.demand.set o.branch { s.demand.get o.branch with gapCount := 0 }) := by
  unfold orderSent reportSent
  split <;> rfl

/-- R94: the exchange after a completed order is counted and, unless disowned, joins its branch's outstanding list. -/
def Exchange.completed (o : Order) (disowned : Bool) (x : Exchange) : Exchange :=
  { x with
    transmitter := none
    branches := x.branches.set o.branch { x.branches.get o.branch with
      outstanding := (x.branches.get o.branch).outstanding ++ (if disowned then [] else [⟨o.h, o.polarity, o.angle⟩])
      counters := { (x.branches.get o.branch).counters with sent := bump (x.branches.get o.branch).counters.sent } } }

/-- R93, R94: an order disowned, or young enough for its list, completes and lets the next frame begin. -/
theorem completeV_joins {s : State} {o : Order} {x : Bool} (h : s.exchange.transmitter = some ⟨.order o, x⟩)
    (hx : x = true ∨ ((s.trackers.get o.branch).h - o.h).toNat ≤ 3) : completeV s =
      ((s.countV fun c => { c with sent := bump c.sent }).setExchange (s.exchange.completed o x).begun).setDemand
        (if o.flags.notFormed then s.demand
          else s.demand.set o.branch { s.demand.get o.branch with gapCount := 0 }) := by
  rw [completeV_order h]
  cases x with
  | true =>
    rw [if_pos rfl, orderSent_eq, beginV_eq]
    have same : (s.exchange.completed o true) =
        Exchange.count o.branch (fun c => { c with sent := bump c.sent }) { s.exchange with transmitter := none } := by
      simp [Exchange.completed, Exchange.count]
    rw [same]
    rfl
  | false =>
    have young : orderAge (s.trackers.get o.branch).h o.h ≤ 3 := hx.resolve_left Bool.false_ne_true
    rw [if_neg Bool.false_ne_true, if_pos young, orderSent_eq, beginV_eq]
    have same : (appendOutstanding o ((s.vIdle.setExchange (s.vIdle.exchange.count o.branch fun c =>
        { c with sent := bump c.sent })).setDemand (if o.flags.notFormed then s.vIdle.demand
          else s.vIdle.demand.set o.branch { s.vIdle.demand.get o.branch with gapCount := 0 }))).exchange =
        s.exchange.completed o false := by
      simp [appendOutstanding, Exchange.completed, Exchange.count, State.setExchangeRec, State.exchangeRec, State.vIdle,
        State.countV]
    rw [same]
    rfl

/-- R94: only the branch's record changes: its list, unless disowned, and its counter. -/
theorem Exchange.completed_get (o : Order) (disowned : Bool) (b : Branch) (x : Exchange) :
    (x.completed o disowned).begun.branches.get b = if b = o.branch then { x.branches.get b with
      outstanding := (x.branches.get b).outstanding ++ (if disowned then [] else [⟨o.h, o.polarity, o.angle⟩])
      counters := { (x.branches.get b).counters with sent := bump (x.branches.get b).counters.sent } }
    else x.branches.get b := by
  rw [Exchange.begun_branches, Exchange.completed, PerBranch.get_set]
  split
  · next h => rw [h]
  · rfl

/-- R64: the completion of a formed order ends its branch's run of gaps. -/
theorem gapsEnded_get (o : Order) (b : Branch) (s : State) :
    (if o.flags.notFormed then s.demand else s.demand.set o.branch { s.demand.get o.branch with gapCount := 0 }).get b =
      if b = o.branch ∧ o.flags.notFormed = false then { s.demand.get b with gapCount := 0 } else s.demand.get b := by
  cases o.flags.notFormed with
  | true => simp
  | false =>
    simp only [Bool.false_eq_true, if_false, and_true, PerBranch.get_set]
    split
    · next h => rw [h]
    · rfl

theorem Settled.exchange {u t : State} (h : Settled u t) : t.exchange = u.exchange :=
  StationFree.settled (P := fun v => v.exchange = u.exchange)
    ⟨fun _ _ e => e, fun _ _ e => e, fun _ _ e => e, fun _ _ e => e⟩ h rfl

theorem completeV_queue (s : State) : (completeV s).processor.queue = s.processor.queue := by
  have sent : ∀ o t, (orderSent o t).processor.queue = t.processor.queue := fun o t =>
    queue_of_outer ((outer_reportSent o _).trans (outer_countExchange t _ _))
  have begins : ∀ t, (beginV t).processor.queue = t.processor.queue := fun t => queue_of_outer (outer_beginV t)
  rcases ht : s.exchange.transmitter with _ | ⟨f, x⟩
  · rw [completeV_idle ht]
  · cases f with
    | bank n a =>
      rw [completeV_bank ht]
      rfl
    | order o =>
      rw [completeV_order ht]
      split
      · exact (begins _).trans (sent o _)
      · split
        · exact (begins _).trans (sent o _)
        · exact (queue_of_outer (outer_lateCompletion o _)).trans (sent o _)

/-- Two actions in a free order. -/
theorem ordered_pair (s : State) (contended : Bool) (f g : State → State) : ∃ k,
    (s.ordered contended [f, g]).1.foldl (fun t f => f t) (s.ordered contended [f, g]).2 =
        g (f { s with freeCount := k }) ∨
      (s.ordered contended [f, g]).1.foldl (fun t f => f t) (s.ordered contended [f, g]).2 =
        f (g { s with freeCount := k }) := by
  have hs : (s.ordered contended [f, g]).2 = { s with freeCount := (s.ordered contended [f, g]).2.freeCount } := by
    unfold State.ordered
    split <;> rfl
  refine ⟨(s.ordered contended [f, g]).2.freeCount, ?_⟩
  rw [← hs]
  rcases perm_pair (ordered_perm s contended [f, g]) with hl | hl <;> rw [hl]
  · exact .inl rfl
  · exact .inr rfl

/-- R97: the completion of an order too old for its list: its timeout and the next transmission, in either order. -/
theorem completeV_late {s : State} {o : Order} (h : s.exchange.transmitter = some ⟨.order o, false⟩)
    (ho : 3 < ((s.trackers.get o.branch).h - o.h).toNat) : ∃ k,
      completeV s = countTimeout o.branch (beginV { orderSent o s.vIdle with freeCount := k }) ∨
      completeV s = beginV (countTimeout o.branch { orderSent o s.vIdle with freeCount := k }) := by
  have old : ¬orderAge (s.trackers.get o.branch).h o.h ≤ 3 := Nat.not_le.mpr ho
  rw [completeV_order h, if_neg Bool.false_ne_true, if_neg old]
  exact ordered_pair _ _ _ _

/-! ## Timeouts (R96, R97) -/

/-- R96, R97: a branch's record with one timeout more. -/
def ExchangeRec.timedOut (r : ExchangeRec) : ExchangeRec :=
  { r with timeoutRun := bump255 r.timeoutRun, counters := { r.counters with timeout := bump r.counters.timeout } }

theorem countTimeout_eq (b : Branch) (s : State) : countTimeout b s =
    if (s.exchangeRec b).timeoutRun < 255 ∧ s.params.timeoutLimit ≤ (s.exchangeRec b).timeoutRun + 1 then
      latchTrip (.report b) (s.setExchangeRec b (s.exchangeRec b).timedOut)
    else s.setExchangeRec b (s.exchangeRec b).timedOut := rfl

theorem countTimeout_branches (b : Branch) (s : State) :
    (countTimeout b s).exchange.branches = s.exchange.branches.set b (s.exchangeRec b).timedOut := by
  rw [countTimeout_eq]
  split
  · exact latchTrip_branches _ _
  · rfl

theorem countTimeout_rec (b : Branch) (s : State) : (countTimeout b s).exchangeRec b = (s.exchangeRec b).timedOut :=
  (congrArg (PerBranch.get · b) (countTimeout_branches b s)).trans (PerBranch.get_set_self _ _ _)

theorem countTimeout_other {b c : Branch} (h : c ≠ b) (s : State) :
    (countTimeout b s).exchangeRec c = s.exchangeRec c :=
  (congrArg (PerBranch.get · c) (countTimeout_branches b s)).trans (PerBranch.get_set_ne _ _ h)

theorem countTimeout_params (b : Branch) (s : State) : (countTimeout b s).params = s.params :=
  congrArg Outer.params (outer_countTimeout b s)

theorem countTimeout_trips {b : Branch} {s : State} (h : (s.exchangeRec b).timeoutRun < 255)
    (hl : s.params.timeoutLimit ≤ (s.exchangeRec b).timeoutRun + 1) :
    (countTimeout b s).control.trips.report.get b = true ∧ (countTimeout b s).control.release = .held ∧
      ((countTimeout b s).notices.records.get .trip).status = true := by
  rw [countTimeout_eq, if_pos ⟨h, hl⟩, latchTrip_trips]
  exact ⟨PerBranch.get_set_self _ _ _, latchTrip_held _ _, latchTrip_notice _ _⟩

theorem countTimeout_quiet {b : Branch} {s : State} (h : (s.exchangeRec b).timeoutRun + 1 < s.params.timeoutLimit) :
    (countTimeout b s).control = s.control := by
  rw [countTimeout_eq, if_neg (by omega)]
  rfl

/-- R96: n timeouts leave the outstanding lists and every other branch. -/
theorem countTimeouts_rec (b : Branch) : ∀ (n : Nat) (s : State),
    (∀ c, c ≠ b → (countTimeouts b n s).exchangeRec c = s.exchangeRec c) ∧
    ((countTimeouts b n s).exchangeRec b).outstanding = (s.exchangeRec b).outstanding ∧
    ((s.exchangeRec b).counters.timeout + n ≤ 65535 →
      ((countTimeouts b n s).exchangeRec b).counters.timeout = (s.exchangeRec b).counters.timeout + n) ∧
    ((s.exchangeRec b).timeoutRun + n ≤ 255 →
      ((countTimeouts b n s).exchangeRec b).timeoutRun = (s.exchangeRec b).timeoutRun + n)
  | 0, s => ⟨fun _ _ => rfl, rfl, fun _ => rfl, fun _ => rfl⟩
  | n + 1, s => by
    obtain ⟨other, list, count, run⟩ := countTimeouts_rec b n (countTimeout b s)
    rw [countTimeout_rec] at list count run
    refine ⟨fun c hc => (other c hc).trans (countTimeout_other hc s), list, fun h => ?_, fun h => ?_⟩
    · have hb : (s.exchangeRec b).timedOut.counters.timeout = (s.exchangeRec b).counters.timeout + 1 :=
        bump_below (by omega)
      rw [countTimeouts, count (by omega), hb]
      omega
    · have hb : (s.exchangeRec b).timedOut.timeoutRun = (s.exchangeRec b).timeoutRun + 1 := bump255_below (by omega)
      rw [countTimeouts, run (by omega), hb]
      omega

/-- R97: of n timeouts in a row that bring the run to TIMEOUT_LIMIT, one trips; short of it none does. -/
theorem countTimeouts_control (b : Branch) : ∀ (n : Nat) (s : State), (s.exchangeRec b).timeoutRun + n ≤ 255 →
    (1 ≤ n → s.params.timeoutLimit ≤ (s.exchangeRec b).timeoutRun + n →
      (countTimeouts b n s).control.trips.report.get b = true ∧ (countTimeouts b n s).control.release = .held ∧
        ((countTimeouts b n s).notices.records.get .trip).status = true) ∧
    ((n = 0 ∨ (s.exchangeRec b).timeoutRun + n < s.params.timeoutLimit) →
      (countTimeouts b n s).control = s.control)
  | 0, _, _ => ⟨fun h => absurd h (by decide), fun _ => rfl⟩
  | n + 1, s, h => by
    have hb : ((countTimeout b s).exchangeRec b).timeoutRun = (s.exchangeRec b).timeoutRun + 1 := by
      rw [countTimeout_rec]
      exact bump255_below (by omega)
    obtain ⟨trips, quiet⟩ := countTimeouts_control b n (countTimeout b s) (by omega)
    rw [hb, countTimeout_params] at trips quiet
    refine ⟨fun _ hl => ?_, fun hn => ?_⟩
    · cases n with
      | zero => exact countTimeout_trips (by omega) hl
      | succ n => exact trips (by omega) (by omega)
    · have hlt := hn.resolve_left (Nat.succ_ne_zero n)
      exact (quiet (.inr (by omega))).trans (countTimeout_quiet (by omega))

theorem beginV_branches (s : State) : (beginV s).exchange.branches = s.exchange.branches := by
  rw [beginV_eq]
  exact Exchange.begun_branches _

/-- R94, R97: the completion of an order too old for its list is a timeout of its branch and joins no list. -/
theorem completeV_timeout {s : State} {o : Order} (h : s.exchange.transmitter = some ⟨.order o, false⟩)
    (ho : 3 < ((s.trackers.get o.branch).h - o.h).toNat) :
    ((completeV s).exchangeRec o.branch).outstanding = (s.exchangeRec o.branch).outstanding ∧
      ((completeV s).exchangeRec o.branch).timeoutRun = bump255 (s.exchangeRec o.branch).timeoutRun ∧
      ((completeV s).exchangeRec o.branch).counters.timeout = bump (s.exchangeRec o.branch).counters.timeout := by
  have sent : ∀ k, ({ orderSent o s.vIdle with freeCount := k } : State).exchangeRec o.branch =
      { s.exchangeRec o.branch with counters := { (s.exchangeRec o.branch).counters with
        sent := bump (s.exchangeRec o.branch).counters.sent } } := fun k => by
    rw [orderSent_eq]
    exact PerBranch.get_set_self _ _ _
  have hrec : ∃ k, (completeV s).exchangeRec o.branch =
      (({ orderSent o s.vIdle with freeCount := k } : State).exchangeRec o.branch).timedOut := by
    obtain ⟨k, hc | hc⟩ := completeV_late h ho <;> refine ⟨k, ?_⟩ <;> rw [hc]
    · rw [countTimeout_rec]
      exact congrArg (fun p => (PerBranch.get p o.branch).timedOut) (beginV_branches _)
    · exact (congrArg (PerBranch.get · o.branch) (beginV_branches _)).trans (countTimeout_rec _ _)
  obtain ⟨k, hk⟩ := hrec
  rw [hk, sent]
  exact ⟨rfl, rfl, rfl⟩

/-! ## Ageing (R96) -/

/-- R96: the state in which the aged entries have left the branch's list. -/
def State.withoutAged (s : State) (ev : CrossingEvent) : State :=
  s.setExchangeRec ev.branch { s.exchangeRec ev.branch with
    outstanding := (s.exchangeRec ev.branch).outstanding.filter fun e => decide ((ev.h - e.h).toNat ≤ 3) }

theorem withoutAged_rec (s : State) (ev : CrossingEvent) : (s.withoutAged ev).exchangeRec ev.branch =
    { s.exchangeRec ev.branch with
      outstanding := (s.exchangeRec ev.branch).outstanding.filter fun e => decide ((ev.h - e.h).toNat ≤ 3) } :=
  PerBranch.get_set_self _ _ _

theorem ageOrders_eq (ev : CrossingEvent) (s : State) : ageOrders ev s =
    countTimeouts ev.branch (agedOut ev.h (s.exchangeRec ev.branch).outstanding).length (s.withoutAged ev) := by
  have hkept : (fun e : Outstanding => !decide (4 ≤ orderAge ev.h e.h)) = fun e => decide ((ev.h - e.h).toNat ≤ 3) :=
    funext fun e => by
      rw [← decide_not]
      exact decide_eq_decide.mpr (by rw [Nat.not_le]; exact Nat.lt_succ_iff)
  unfold ageOrders State.withoutAged
  rw [hkept]

theorem ageOrders_none {ev : CrossingEvent} {s : State}
    (h : ∀ e ∈ (s.exchangeRec ev.branch).outstanding, orderAge ev.h e.h ≤ 3) : ageOrders ev s = s := by
  have hgone : agedOut ev.h (s.exchangeRec ev.branch).outstanding = [] :=
    List.filter_eq_nil_iff.mpr fun e he => by simpa using Nat.lt_succ_of_le (h e he)
  have hkept : (s.exchangeRec ev.branch).outstanding.filter (fun e => !decide (4 ≤ orderAge ev.h e.h)) =
      (s.exchangeRec ev.branch).outstanding :=
    List.filter_eq_self.mpr fun e he => by simpa using Nat.lt_succ_of_le (h e he)
  unfold ageOrders
  dsimp only
  rw [hgone, hkept]
  exact congrArg (fun p => s.setExchange { s.exchange with branches := p }) (PerBranch.set_get_self _ _)

/-- R95: ages of at most 3 that fall strictly along a list are at most four. -/
theorem length_of_ages {l : List Nat} (h : ∀ n ∈ l, n ≤ 3) (hp : l.Pairwise (· > ·)) : l.length ≤ 4 := by
  have hnodup : l.Nodup := hp.imp fun hgt => (Nat.ne_of_gt hgt)
  have hsub : l ⊆ List.range 4 := fun n hn => List.mem_range.mpr (Nat.lt_succ_of_le (h n hn))
  exact (List.subperm_of_subset hnodup hsub).length_le

/-! ## Orders lost (R64, R65, R91) -/

theorem VFrame.blocked_blocked (f : VFrame) : f.blocked.blocked = f.blocked := by
  cases f <;> rfl

/-- A withdrawal: the order is counted LATE; a formed one is a gap, which trips when it is due. -/
theorem withdrawn_cases (o : Order) (s : State) : ∃ u : State,
    u = s.countExchange o.branch (fun c => { c with late := bump c.late }) ∧
    (withdrawn o s = u ∧ o.flags.notFormed = true ∨
      withdrawn o s = countGap o.branch u ∧ o.flags.notFormed = false ∧ s.gapTripDue o.branch = false ∨
      withdrawn o s = latchTrip (.gap o.branch) (countGap o.branch u) ∧ o.flags.notFormed = false ∧
        s.gapTripDue o.branch = true) := by
  refine ⟨_, rfl, ?_⟩
  unfold withdrawn
  rcases hn : o.flags.notFormed with _ | _
  · have hd : (s.countExchange o.branch fun c => { c with late := bump c.late }).gapTripDue o.branch =
      s.gapTripDue o.branch := rfl
    rw [reportLost_formed hn, hd]
    cases s.gapTripDue o.branch with
    | false => exact .inr (.inl ⟨rfl, rfl, rfl⟩)
    | true => exact .inr (.inr ⟨rfl, rfl, rfl⟩)
  · exact .inl ⟨reportLost_notFormed hn _, rfl⟩

theorem withdrawn_params (o : Order) (s : State) : (withdrawn o s).params = s.params :=
  congrArg Outer.params (outer_withdrawn o s)

theorem withdrawn_branches (o : Order) (s : State) : (withdrawn o s).exchange.branches =
    (s.exchange.count o.branch fun c => { c with late := bump c.late }).branches := by
  obtain ⟨u, rfl, ⟨h, -⟩ | ⟨h, -, -⟩ | ⟨h, -, -⟩⟩ := withdrawn_cases o s <;> rw [h]
  · rfl
  · rfl
  · exact latchTrip_branches _ _

theorem withdrawn_transmitter (o : Order) (s : State) :
    (withdrawn o s).exchange.transmitter = s.exchange.transmitter := by
  obtain ⟨u, rfl, ⟨h, -⟩ | ⟨h, -, -⟩ | ⟨h, -, -⟩⟩ := withdrawn_cases o s <;> rw [h]
  · rfl
  · rfl
  · exact latchTrip_transmitter _ _

/-- R92: a trip may turn the queue to BLOCK. -/
theorem withdrawn_queue (o : Order) (s : State) : (withdrawn o s).exchange.queue = s.exchange.queue ∨
    (withdrawn o s).exchange.queue = s.exchange.queue.map VFrame.blocked := by
  obtain ⟨u, rfl, ⟨h, -⟩ | ⟨h, -, -⟩ | ⟨h, -, -⟩⟩ := withdrawn_cases o s <;> rw [h]
  · exact .inl rfl
  · exact .inl rfl
  · exact (evalBase_only _).queue

/-- A lost order is a gap of a branch: it is the branch's, and it was formed (R64). -/
def Order.isGapOf (b : Branch) (o : Order) : Bool := decide (o.branch = b) && !o.flags.notFormed

theorem Order.isGapOf_iff (b : Branch) (o : Order) : o.isGapOf b = true ↔ o.branch = b ∧ o.flags.notFormed = false := by
  simp [Order.isGapOf]

/-- A trip has been raised and holds release. -/
structure Tripped (s : State) : Prop where
  held : s.control.release = .held
  notice : (s.notices.records.get .trip).status = true

theorem latchTrip_tripped (c : TripCause) (s : State) : Tripped (latchTrip c s) :=
  ⟨latchTrip_held c s, latchTrip_notice c s⟩

theorem Tripped.withdrawn {s : State} (h : Tripped s) (o : Order) : Tripped (withdrawn o s) := by
  obtain ⟨u, rfl, ⟨e, -⟩ | ⟨e, -, -⟩ | ⟨e, -, -⟩⟩ := withdrawn_cases o s <;> rw [e]
  · exact ⟨h.held, h.notice⟩
  · exact ⟨h.held, h.notice⟩
  · exact latchTrip_tripped _ _

theorem countGap_get (b c : Branch) (s : State) : ((countGap b s).demand.get c).gapCount =
    if c = b then bump255 (s.demand.get b).gapCount else (s.demand.get c).gapCount := by
  simp only [countGap, State.setDemandRec, State.setDemand_demand, PerBranch.get_set]
  split <;> rfl

/-- R64: a withdrawal that is no gap of a branch leaves the branch's count and trip. -/
theorem withdrawn_other {o : Order} {b : Branch} (h : o.isGapOf b = false) (s : State) :
    ((withdrawn o s).demand.get b).gapCount = (s.demand.get b).gapCount ∧
      (withdrawn o s).control.trips.gap.get b = s.control.trips.gap.get b := by
  have hne : o.flags.notFormed = false → b ≠ o.branch := fun hn hb => by
    rw [(o.isGapOf_iff b).mpr ⟨hb.symm, hn⟩] at h
    cases h
  obtain ⟨u, rfl, ⟨e, -⟩ | ⟨e, hn, -⟩ | ⟨e, hn, -⟩⟩ := withdrawn_cases o s <;> rw [e]
  · exact ⟨rfl, rfl⟩
  · exact ⟨(countGap_get _ _ _).trans (if_neg (hne hn)), rfl⟩
  · rw [latchTrip_gapCount, latchTrip_trips]
    exact ⟨(countGap_get _ _ _).trans (if_neg (hne hn)), PerBranch.get_set_ne _ _ (hne hn)⟩

/-- R64, R65: a withdrawal that is a gap of a branch counts, and trips at GAP_LIMIT. -/
theorem withdrawn_gap {o : Order} {b : Branch} (h : o.isGapOf b = true) {s : State}
    (hlt : (s.demand.get b).gapCount < 255) :
    ((withdrawn o s).demand.get b).gapCount = (s.demand.get b).gapCount + 1 ∧
      ((withdrawn o s).control.trips.gap.get b = true ↔
        s.control.trips.gap.get b = true ∨ s.params.gapLimit ≤ (s.demand.get b).gapCount + 1) ∧
      (s.params.gapLimit ≤ (s.demand.get b).gapCount + 1 → Tripped (withdrawn o s)) := by
  obtain ⟨rfl, hn⟩ := (o.isGapOf_iff b).mp h
  have counted : ∀ u : State, u.demand = s.demand →
      ((countGap o.branch u).demand.get o.branch).gapCount = (s.demand.get o.branch).gapCount + 1 := fun u hu => by
    rw [countGap_get, if_pos rfl, hu, bump255_below hlt]
  obtain ⟨u, hu, ⟨-, e⟩ | ⟨e, -, hd⟩ | ⟨e, -, hd⟩⟩ := withdrawn_cases o s
  · cases hn.symm.trans e
  · have hlimit : ¬s.params.gapLimit ≤ (s.demand.get o.branch).gapCount + 1 := fun hl => by
      rw [(gapTripDue_iff s o.branch).mpr ⟨hlt, hl⟩] at hd
      cases hd
    have hgap : (countGap o.branch u).control.trips = s.control.trips := by rw [hu]; rfl
    rw [e, counted u (hu ▸ rfl), hgap]
    exact ⟨rfl, by simp [hlimit], fun hl => absurd hl hlimit⟩
  · obtain ⟨-, hlimit⟩ := (gapTripDue_iff s o.branch).mp hd
    rw [e, latchTrip_gapCount, counted u (hu ▸ rfl), latchTrip_trips]
    exact ⟨rfl, iff_of_true (PerBranch.get_set_self _ _ _) (.inr hlimit), fun _ => latchTrip_tripped _ _⟩

/-! ## The deadline check (R91) -/

/-- R91: orders that have left the queue are reported one after the other. -/
def withdrawAll (l : List Order) (s : State) : State := l.foldl (fun t o => withdrawn o t) s

/-- R91: the state in which the overdue orders have left the queue. -/
def State.withoutOverdue (s : State) (tag : Tag) : State :=
  s.setExchange { s.exchange with queue := s.exchange.queue.filter fun f => !f.overdue tag }

theorem deadlineCheck_eq (tag : Tag) (s : State) : deadlineCheck tag s =
    withdrawAll (VFrame.orders (s.exchange.queue.filter fun f => f.overdue tag)) (s.withoutOverdue tag) := rfl

theorem deadlineCheck_none {tag : Tag} {s : State} (h : ∀ f ∈ s.exchange.queue, f.overdue tag = false) :
    deadlineCheck tag s = s := by
  have hgone : s.exchange.queue.filter (fun f => f.overdue tag) = [] :=
    List.filter_eq_nil_iff.mpr fun f hf => by simp [h f hf]
  have hkept : s.exchange.queue.filter (fun f => !f.overdue tag) = s.exchange.queue :=
    List.filter_eq_self.mpr fun f hf => by simp [h f hf]
  rw [deadlineCheck_eq, hgone, State.withoutOverdue, hkept]
  rfl

theorem withdrawAll_transmitter (l : List Order) (s : State) :
    (withdrawAll l s).exchange.transmitter = s.exchange.transmitter :=
  foldl_same (fun t => t.exchange.transmitter) _ (fun t o => withdrawn_transmitter o t) l s

/-- R92: turned to BLOCK once, the queue stays as it is under the trips that follow. -/
theorem withdrawAll_queue : ∀ (l : List Order) (s : State), (withdrawAll l s).exchange.queue = s.exchange.queue ∨
    (withdrawAll l s).exchange.queue = s.exchange.queue.map VFrame.blocked
  | [], _ => .inl rfl
  | o :: rest, s => by
    have twice : (s.exchange.queue.map VFrame.blocked).map VFrame.blocked = s.exchange.queue.map VFrame.blocked := by
      rw [List.map_map]
      exact List.map_congr_left fun f _ => f.blocked_blocked
    rcases withdrawAll_queue rest (withdrawn o s) with h | h <;> rcases withdrawn_queue o s with h' | h' <;>
      rw [h'] at h
    · exact .inl h
    · exact .inr h
    · exact .inr h
    · exact .inr (h.trans twice)

/-- R91: each withdrawal of an order of a branch is counted LATE in the branch's record, and leaves its list. -/
theorem withdrawAll_late (b : Branch) : ∀ (l : List Order) (s : State),
    ((withdrawAll l s).exchangeRec b).outstanding = (s.exchangeRec b).outstanding ∧
    ((s.exchangeRec b).counters.late + (l.filter fun o => decide (o.branch = b)).length ≤ 65535 →
      ((withdrawAll l s).exchangeRec b).counters.late =
        (s.exchangeRec b).counters.late + (l.filter fun o => decide (o.branch = b)).length)
  | [], _ => ⟨rfl, fun _ => rfl⟩
  | o :: rest, s => by
    obtain ⟨list, count⟩ := withdrawAll_late b rest (withdrawn o s)
    have hrec : (withdrawn o s).exchangeRec b =
        (s.exchange.count o.branch fun c => { c with late := bump c.late }).branches.get b :=
      congrArg (PerBranch.get · b) (withdrawn_branches o s)
    by_cases hb : o.branch = b
    · subst hb
      have hown : (withdrawn o s).exchangeRec o.branch = { s.exchangeRec o.branch with
          counters := { (s.exchangeRec o.branch).counters with
            late := bump (s.exchangeRec o.branch).counters.late } } := hrec.trans (PerBranch.get_set_self _ _ _)
      rw [hown] at list count
      refine ⟨list, fun h => ?_⟩
      rw [List.filter_cons_of_pos (by simp), List.length_cons] at h ⊢
      have hlate := bump_below (n := (s.exchangeRec o.branch).counters.late) (by omega)
      have hsum := count (by dsimp only; omega)
      dsimp only at hsum
      rw [hlate] at hsum
      exact hsum.trans (by omega)
    · have hother : (withdrawn o s).exchangeRec b = s.exchangeRec b :=
        hrec.trans (PerBranch.get_set_ne _ _ (Ne.symm hb))
      rw [hother] at list count
      rw [List.filter_cons_of_neg (by simpa using hb)]
      exact ⟨list, count⟩

theorem Tripped.withdrawAll : ∀ (l : List Order) {s : State}, Tripped s → Tripped (withdrawAll l s)
  | [], _, h => h
  | o :: rest, _, h => Tripped.withdrawAll rest (h.withdrawn o)

/-- R64, R65, R91: the withdrawn orders of a branch that were formed are gaps; one of them trips when they bring the
count to GAP_LIMIT. -/
theorem withdrawAll_gaps (b : Branch) : ∀ (l : List Order) (s : State) (g : Nat), g = (s.demand.get b).gapCount →
    g + (l.filter (Order.isGapOf b)).length ≤ 255 →
    ((withdrawAll l s).demand.get b).gapCount = g + (l.filter (Order.isGapOf b)).length ∧
    ((withdrawAll l s).control.trips.gap.get b = true ↔ s.control.trips.gap.get b = true ∨
      1 ≤ (l.filter (Order.isGapOf b)).length ∧ s.params.gapLimit ≤ g + (l.filter (Order.isGapOf b)).length) ∧
    (1 ≤ (l.filter (Order.isGapOf b)).length → s.params.gapLimit ≤ g + (l.filter (Order.isGapOf b)).length →
      Tripped (withdrawAll l s))
  | [], _, _, hg, _ => ⟨hg.symm, by simp [withdrawAll], fun h => absurd h (by simp)⟩
  | o :: rest, s, g, hg, h => by
    cases ho : o.isGapOf b with
    | false =>
      rw [List.filter_cons_of_neg (by simp [ho])] at h ⊢
      obtain ⟨hcount, htrip⟩ := withdrawn_other ho s
      have ih := withdrawAll_gaps b rest (withdrawn o s) g (hg.trans hcount.symm) h
      rwa [htrip, withdrawn_params] at ih
    | true =>
      rw [List.filter_cons_of_pos ho, List.length_cons] at h ⊢
      obtain ⟨hcount, htrip, hdue⟩ := withdrawn_gap ho (s := s) (by omega)
      rw [← hg] at hcount htrip hdue
      obtain ⟨count, trips, tripped⟩ := withdrawAll_gaps b rest (withdrawn o s) (g + 1) hcount.symm (by omega)
      rw [withdrawn_params] at trips tripped
      generalize (rest.filter (Order.isGapOf b)).length = m at h count trips tripped ⊢
      refine ⟨count.trans (by omega), trips.trans ?_, fun _ hl => ?_⟩
      · rw [htrip, or_assoc]
        exact or_congr_right (by omega)
      · by_cases hm : 1 ≤ m
        · exact tripped hm (by omega)
        · exact Tripped.withdrawAll rest (hdue (by omega))

end Sys2Proof.Machine

open Sys2Proof Sys2Proof.Machine

/-- Settles O44: the completion by the frame and its age, the deadline check and the ageing by induction on the orders
they remove. -/
theorem orderCompletionJoinsOutstandingList : Obligations.OrderCompletionJoinsOutstandingList := by
  unfold Obligations.OrderCompletionJoinsOutstandingList
  refine ⟨fun s h => ?_, fun s tag late ho hb => ?_, fun s ev r k hr hk => ?_, fun now l h hp => ?_⟩
  · have settled : ∃ t, exec .vTransmitCompletion s = .next t ∧ Settled (completeV s) t :=
      exec_settled h.high rfl ((completeV_queue s).trans h.queue)
    refine ⟨fun hi => ?_, fun o x hx hj => ?_, fun o hx hold => ?_, fun n a x hx => ?_⟩
    · rwa [completeV_idle hi] at settled
    · obtain ⟨t, ht, hs⟩ := settled
      have he := completeV_joins hx hj
      have hbegun : (completeV s).exchange = (s.exchange.completed o x).begun := by rw [he]; rfl
      have hidle : (s.exchange.completed o x).begun = _ := Exchange.begun_idle rfl
      refine ⟨t, completeV s, ht, hs, by rw [he]; rfl, fun b => ?_, ?_, ?_, ?_, fun b => ?_, ?_⟩
      · exact (congrArg (fun y => y.branches.get b) hbegun).trans (Exchange.completed_get o x b s.exchange)
      · rw [hbegun, hidle]; rfl
      · rw [hbegun, hidle]; rfl
      · rw [hbegun, hidle]; rfl
      · rw [he]
        exact gapsEnded_get o b s
      · rw [he]
        exact ⟨rfl, rfl, rfl, rfl, rfl, rfl, rfl, rfl⟩
    · obtain ⟨t, ht, hs⟩ := settled
      have hexchange : t.exchange = (completeV s).exchange := hs.exchange
      obtain ⟨list, run, count⟩ := completeV_timeout hx hold
      refine ⟨t, ht, ?_⟩
      unfold State.exchangeRec at list run count ⊢
      rw [hexchange]
      exact ⟨list, run, count⟩
    · rwa [completeV_bank hx] at settled
  · have hlate : late = fun f => f.overdue tag := funext fun f => by
      cases f with
      | order o => exact ho o
      | bank n a => exact hb n a
    subst hlate
    refine ⟨deadlineCheck_none, withdrawAll_transmitter _ _, withdrawAll_queue _ _,
      ⟨rfl, fun _ _ => rfl, fun _ _ _ => rfl⟩, fun _ => rfl, fun _ _ => rfl, fun b k m hk hm => ?_⟩
    obtain ⟨list, count⟩ := withdrawAll_late b (VFrame.orders (s.exchange.queue.filter fun f => f.overdue tag))
      (s.withoutOverdue tag)
    rw [← hk] at count
    refine ⟨list, count, fun hg => ?_⟩
    obtain ⟨gaps, trips, tripped⟩ := withdrawAll_gaps b
      (VFrame.orders (s.exchange.queue.filter fun f => f.overdue tag)) (s.withoutOverdue tag) _ rfl
      (le_of_eq_of_le (congrArg _ hm.symm) hg)
    have hm' : m =
      ((VFrame.orders (s.exchange.queue.filter fun f => f.overdue tag)).filter (Order.isGapOf b)).length := hm
    rw [← hm'] at gaps trips tripped
    exact ⟨gaps, trips, fun h1 hl => ⟨(tripped h1 hl).held, (tripped h1 hl).notice⟩⟩
  · subst hr
    have hlen : k = (agedOut ev.h (s.exchangeRec ev.branch).outstanding).length := hk
    have haged := ageOrders_eq ev s
    rw [← hlen] at haged
    obtain ⟨other, list, count, run⟩ := countTimeouts_rec ev.branch k (s.withoutAged ev)
    have control := countTimeouts_control ev.branch k (s.withoutAged ev)
    rw [withoutAged_rec] at list count run control
    rw [← haged] at other list count run control
    refine ⟨fun h0 => ageOrders_none fun e he => ?_, list, fun b hb => (other b hb).trans (PerBranch.get_set_ne _ _ hb),
      count, fun h => ⟨run h, (control h).1, (control h).2⟩⟩
    have hnone := List.filter_eq_nil_iff.mp (List.length_eq_zero_iff.mp (hk.symm.trans h0)) e he
    simp only [decide_eq_true_eq, Nat.not_le] at hnone
    exact Nat.le_of_lt_succ hnone
  · exact (List.length_map _).symm.trans_le (length_of_ages (by simpa using h) hp)
end

section
/-! The directives of the Table Store (R73 to R79), and its part in a crossing event (R81, R83). -/

namespace Sys2Proof.Machine

/-! ## The entries a TABLE_WRITE writes (R73) -/

/-- The entries that N + 1 and the values of a TABLE_WRITE give: one value repeated with fill, else the values. -/
def writtenEntries (fill : Bool) (n : Nat) (values : List Half) : List Nat :=
  if fill then List.replicate (n + 1) ((values.headD 0).toNat) else values.map BitVec.toNat

theorem writtenEntries_length {fill : Bool} {n : Nat} {values : List Half}
    (h : fill = false → values.length = n + 1) : (writtenEntries fill n values).length = n + 1 := by
  cases fill with
  | true => exact List.length_replicate
  | false => exact (List.length_map _).trans (h rfl)

/-- Entries written from values in range are in range. -/
theorem writtenEntries_range {fill : Bool} {n : Nat} {values : List Half} (h : fill = true → values.length = 1)
    (hv : ∀ v ∈ values, 4096 ≤ v.toNat ∧ v.toNat ≤ 8192) :
    ∀ a ∈ writtenEntries fill n values, 4096 ≤ a ∧ a ≤ 8192 := by
  cases fill with
  | true =>
    obtain ⟨v, rfl⟩ := List.length_eq_one_iff.mp (h rfl)
    intro a ha
    rw [List.eq_of_mem_replicate ha]
    exact hv v List.mem_cons_self
  | false =>
    intro a ha
    obtain ⟨v, hm, rfl⟩ := List.mem_map.mp ha
    exact hv v hm

theorem writtenEntries_getElem? {fill : Bool} {n i : Nat} {values : List Half} (h : fill = true → values.length = 1)
    (hi : i ≤ n) : (writtenEntries fill n values)[i]? =
      (if fill = true then values[0]? else values[i]?).map BitVec.toNat := by
  cases fill with
  | true =>
    obtain ⟨v, rfl⟩ := List.length_eq_one_iff.mp (h rfl)
    exact List.getElem?_replicate_of_lt (Nat.lt_succ_of_le hi)
  | false => exact List.getElem?_map

/-- A bank keeps its length where the entries written lie within it. -/
theorem writeEntries_length {bank values : List Nat} {start : Nat} (h : start + values.length ≤ bank.length) :
    (writeEntries bank start values).length = bank.length := by
  simp only [writeEntries, List.length_append, List.length_take, List.length_drop]
  omega

theorem writeEntries_getElem? {bank values : List Nat} {start : Nat} (h : start + values.length ≤ bank.length)
    (i : Nat) : (writeEntries bank start values)[i]? =
      if start ≤ i ∧ i < start + values.length then values[i - start]? else bank[i]? := by
  have hs : (bank.take start).length = start := List.length_take_of_le (by omega)
  unfold writeEntries
  rw [List.append_assoc, List.getElem?_append, hs]
  split
  · next hi => rw [if_neg (by omega), List.getElem?_take_of_lt hi]
  · next hi =>
    rw [List.getElem?_append]
    split
    · next hv => rw [if_pos (by omega)]
    · next hv =>
      rw [if_neg (by omega), List.getElem?_drop]
      congr 1
      omega

theorem BankShape.writeEntries {bank values : List Nat} {start : Nat} (h : BankShape bank)
    (hl : start + values.length ≤ Config.tableLength) (hv : ∀ a ∈ values, 4096 ≤ a ∧ a ≤ Config.blockAngle) :
    BankShape (writeEntries bank start values) := by
  refine ⟨(writeEntries_length (h.length ▸ hl)).trans h.length, fun a ha => ?_⟩
  rcases List.mem_append.mp ha with ha | ha
  · rcases List.mem_append.mp ha with ha | ha
    · exact h.range a (List.mem_of_mem_take ha)
    · exact hv a ha
  · exact h.range a (List.mem_of_mem_drop ha)

/-! ## TABLE_WRITE (R73, R172) -/

/-- The operands of a TABLE_WRITE lie in their lists and ranges. -/
structure TableWriteFits (start : Half) (n fill : Byte) (values : List Half) : Prop where
  fill : fill.toNat ≤ 1
  count : n.toNat ≤ 63
  last : start.toNat + n.toNat ≤ 511
  values : ∀ v ∈ values, 4096 ≤ v.toNat ∧ v.toNat ≤ 8192

theorem not_tableWriteFits {start : Half} {n fill : Byte} {values : List Half}
    (h : 1 < fill.toNat ∨ 63 < n.toNat ∨ 511 < start.toNat + n.toNat ∨
      ∃ v ∈ values, v.toNat < 4096 ∨ 8192 < v.toNat) : ¬TableWriteFits start n fill values := by
  rintro ⟨hf, hn, hl, hv⟩
  rcases h with h | h | h | ⟨v, hm, h⟩
  · omega
  · omega
  · omega
  · have := hv v hm
    omega

theorem flag?_some {b : Byte} (h : b.toNat ≤ 1) : flag? b = some (decide (b = 1)) := by
  rcases Nat.le_one_iff_eq_zero_or_eq_one.mp h with h | h
  · rw [show b = 0 from BitVec.eq_of_toNat_eq h]
    rfl
  · rw [show b = 1 from BitVec.eq_of_toNat_eq h]
    rfl

theorem entryInRange_iff (v : Half) : entryInRange v = true ↔ 4096 ≤ v.toNat ∧ v.toNat ≤ 8192 := by
  simp [entryInRange]

section
variable {start : Half} {n fill : Byte} {values : List Half} {s : State}

theorem actTableWrite_busy (h : s.tables.commit.isSome = true) :
    actTableWrite start n fill values s = s.refuse .busy := if_pos h

theorem actTableWrite_done (h : s.tables.commit = none) (hf : TableWriteFits start n fill values) :
    actTableWrite start n fill values s =
      (s.setTables { s.tables with
        staged := writeEntries s.tables.staged start.toNat (writtenEntries (decide (fill = 1)) n.toNat values) }).done
        (.tableWrite start.toNat (n.toNat + 1)) := by
  have hv : values.all entryInRange = true :=
    List.all_eq_true.mpr fun v hm => (entryInRange_iff v).mpr (hf.values v hm)
  simp [actTableWrite, h, flag?_some hf.fill, within?_some (Nat.zero_le _) hf.count, Nat.not_lt.mpr hf.last, hv,
    writtenEntries]

theorem actTableWrite_range (h : s.tables.commit = none) (hf : ¬TableWriteFits start n fill values) :
    actTableWrite start n fill values s = s.refuse .range := by
  unfold actTableWrite
  rw [h, Option.isSome_none, if_neg Bool.false_ne_true]
  split
  · next f count hflag hcount =>
    have hfill : fill.toNat ≤ 1 := Nat.not_lt.mp fun hlt => by simp [flag?_none hlt] at hflag
    have hn : n.toNat ≤ 63 := Nat.not_lt.mp fun hlt => by simp [within?_none (.inr hlt)] at hcount
    rw [within?_some (Nat.zero_le _) hn] at hcount
    cases hcount
    split
    · rfl
    · next hlast =>
      rw [if_neg]
      exact fun hv => hf ⟨hfill, hn, Nat.not_lt.mp hlast, fun v hm =>
        (entryInRange_iff v).mp (List.all_eq_true.mp hv v hm)⟩
  · rfl

theorem tableWriteLengthOk_one (n : Byte) (rest : Nat) : tableWriteLengthOk n 1 rest = decide (rest = 2) := rfl

theorem tableWriteLengthOk_zero (n : Byte) (rest : Nat) :
    tableWriteLengthOk n 0 rest = decide (rest = 2 * (n.toNat + 1)) := rfl

theorem tableWriteLengthOk_other (h : 1 < fill.toNat) (n : Byte) (rest : Nat) :
    tableWriteLengthOk n fill rest = true := by
  simp [tableWriteLengthOk, flag?_none h]

/-- R172, step 2: a TABLE_WRITE of a length that its N and its fill require, or with a fill that is neither. -/
theorem tableWriteRequest_decoded
    (h : (fill = 1 ∧ values.length = 1) ∨ (fill = 0 ∧ values.length = n.toNat + 1) ∨ 1 < fill.toNat) :
    tableWriteRequest start n fill (2 * values.length) values = .tableWrite start n fill values := by
  refine if_pos ?_
  rcases h with ⟨rfl, hl⟩ | ⟨rfl, hl⟩ | h
  · rw [tableWriteLengthOk_one, hl]
    rfl
  · rw [tableWriteLengthOk_zero, hl]
    exact decide_eq_true rfl
  · exact tableWriteLengthOk_other h _ _

/-- R172, step 2: a TABLE_WRITE of another length. -/
theorem tableWriteRequest_malformed
    (h : (fill = 1 ∧ values.length ≠ 1) ∨ (fill = 0 ∧ values.length ≠ n.toNat + 1)) :
    tableWriteRequest start n fill (2 * values.length) values = .malformed := by
  refine if_neg ?_
  rcases h with ⟨rfl, hl⟩ | ⟨rfl, hl⟩
  · rw [tableWriteLengthOk_one, decide_eq_true_eq]
    omega
  · rw [tableWriteLengthOk_zero, decide_eq_true_eq]
    omega

/-- A TABLE_WRITE that is not malformed arrives as itself. -/
theorem exec_tableWrite
    (h : (fill = 1 ∧ values.length = 1) ∨ (fill = 0 ∧ values.length = n.toNat + 1) ∨ 1 < fill.toNat) (tag : Byte) :
    exec (.tableWrite s.unitByte tag start n fill values) s =
      whileReleased s (directiveArrives s.unitByte tag 12 (11 + 2 * values.length)
        (.tableWrite start n fill values)) := by
  rw [← tableWriteRequest_decoded h]
  rfl

end

/-! ## TABLE_READ and TABLE_COPY (R74, R75) -/

theorem actTableRead_done {bank : Byte} {b : TableBank} {start : Half} {n : Byte} (hb : tableBank? bank = some b)
    (hn : n.toNat ≤ 63) (hl : start.toNat + n.toNat ≤ 511) (s : State) : actTableRead bank start n s =
      s.done (.tableRead b start.toNat (n.toNat + 1)
        (((s.tables.bank b).drop start.toNat).take (n.toNat + 1)) s.tables.commit.isSome) := by
  simp [actTableRead, hb, within?_some (Nat.zero_le _) hn, Nat.not_lt.mpr hl]

theorem actTableRead_range {bank : Byte} {start : Half} {n : Byte}
    (h : tableBank? bank = none ∨ 63 < n.toNat ∨ 511 < start.toNat + n.toNat) (s : State) :
    actTableRead bank start n s = s.refuse .range := by
  unfold actTableRead
  split
  · next b count hb hcount =>
    have hn : n.toNat ≤ 63 := Nat.not_lt.mp fun hlt => by simp [within?_none (.inr hlt)] at hcount
    rw [within?_some (Nat.zero_le _) hn] at hcount
    cases hcount
    rcases h with h | h | h
    · cases h.symm.trans hb
    · omega
    · exact if_pos h
  · rfl

theorem actTableCopy_busy {s : State} (h : s.tables.commit.isSome = true) : actTableCopy s = s.refuse .busy := if_pos h

theorem actTableCopy_done {s : State} (h : s.tables.commit = none) :
    actTableCopy s = (s.setTables { s.tables with staged := s.tables.active }).done .empty := by
  simp [actTableCopy, h]

/-! ## The order of a bank (R72, R77) -/

/-- The entry after index j is greater than the entry at j. -/
def RisesAfter (bank : List Nat) (j : Nat) : Prop := ∃ a b, bank[j]? = some a ∧ bank[j + 1]? = some b ∧ a < b

theorem risesAfter_zero (a b : Nat) (rest : List Nat) : RisesAfter (a :: b :: rest) 0 ↔ a < b := by
  simp [RisesAfter]

theorem risesAfter_succ (a : Nat) (rest : List Nat) (j : Nat) : RisesAfter (a :: rest) (j + 1) ↔ RisesAfter rest j := by
  simp [RisesAfter]

theorem not_risesAfter_nil (j : Nat) : ¬RisesAfter [] j := by
  rintro ⟨a, b, ha, -, -⟩
  cases ha

theorem not_risesAfter_singleton (a : Nat) (j : Nat) : ¬RisesAfter [a] j := by
  rintro ⟨_, b, -, hb, -⟩
  cases hb

/-- R77: with no rise found there is none. -/
theorem firstRise_none : ∀ (bank : List Nat) (i : Nat), firstRise i bank = none → ∀ j, ¬RisesAfter bank j
  | [], _, _, j => not_risesAfter_nil j
  | [a], _, _, j => not_risesAfter_singleton a j
  | a :: b :: rest, i, h, j => by
    unfold firstRise at h
    split at h
    · cases h
    · next hab =>
      cases j with
      | zero => rwa [risesAfter_zero]
      | succ j =>
        rw [risesAfter_succ]
        exact firstRise_none (b :: rest) (i + 1) h j

/-- R77: the rise found is the first. -/
theorem firstRise_some : ∀ (bank : List Nat) (i k : Nat), firstRise i bank = some k →
    ∃ j, k = i + j + 1 ∧ RisesAfter bank j ∧ ∀ m < j, ¬RisesAfter bank m
  | [], _, _, h => nomatch h
  | [_], _, _, h => nomatch h
  | a :: b :: rest, i, k, h => by
    unfold firstRise at h
    split at h
    · next hab =>
      cases h
      exact ⟨0, rfl, (risesAfter_zero a b rest).mpr hab, fun m hm => absurd hm (Nat.not_lt_zero m)⟩
    · next hab =>
      obtain ⟨j, hk, hrise, hfirst⟩ := firstRise_some (b :: rest) (i + 1) k h
      refine ⟨j + 1, by omega, (risesAfter_succ a (b :: rest) j).mpr hrise, fun m hm => ?_⟩
      cases m with
      | zero => rwa [risesAfter_zero]
      | succ m =>
        rw [risesAfter_succ]
        exact hfirst m (Nat.lt_of_succ_lt_succ hm)

/-- No rise after an index, said of the two entries. -/
theorem le_of_not_risesAfter {bank : List Nat} {j a b : Nat} (h : ¬RisesAfter bank j) (ha : bank[j]? = some a)
    (hb : bank[j + 1]? = some b) : b ≤ a := Nat.not_lt.mp fun hlt => h ⟨a, b, ha, hb, hlt⟩

/-! ## TABLE_COMMIT (R77, R78, R79) -/

section
variable {s : State} (tag : Byte)

theorem actTableCommit_busy (h : s.tables.commit.isSome = true) : actTableCommit tag s = s.refuse .busy := if_pos h

theorem actTableCommit_notMonotonic (h : s.tables.commit = none) {i : Nat}
    (hi : firstRise 0 s.tables.staged = some i) : actTableCommit tag s =
      (s.setTables { s.tables with counters := { s.tables.counters with
        notMonotonic := bump s.tables.counters.notMonotonic } }, some (.notMonotonic, .notMonotonic i)) := by
  simp [actTableCommit, h, hi]

theorem actTableCommit_immediate (h : s.tables.commit = none) (hi : firstRise 0 s.tables.staged = none)
    (hr : s.control.release ≠ .released) : actTableCommit tag s =
      (s.setTables { s.tables with
        active := s.tables.staged
        staged := s.tables.active
        counters := { s.tables.counters with immediate := bump s.tables.counters.immediate } }).done
        (.commit .immediate) := by
  simp [actTableCommit, h, hi, hr, TableStore.swapped]

theorem actTableCommit_pending (h : s.tables.commit = none) (hi : firstRise 0 s.tables.staged = none)
    (hr : s.control.release = .released) :
    actTableCommit tag s = (s.setTables { s.tables with commit := some tag }, none) := by
  simp [actTableCommit, h, hi, hr]

end

/-! ## The Table Store at a crossing event (R81, R83) -/

theorem completeCommit_some {s : State} {tag : Byte} (h : s.tables.commit = some tag) (c : Completion)
    (f : TableCounters → TableCounters) : completeCommit c f s =
      (s.setTables ⟨s.tables.staged, s.tables.active, none, f s.tables.counters⟩).appendReply tag commitKind .done
        (.commit c) := by
  simp [completeCommit, h, TableStore.swapped]

theorem tableEvent_crossing {ev : CrossingEvent} (hb : ev.branch = .ab) (hp : ev.polarity = .pos) (s : State) :
    tableEvent ev s = completeCommit (.abCrossing ev.h) (fun c => { c with crossing := bump c.crossing }) s := by
  simp [tableEvent, hb, hp]

theorem tableEvent_other {ev : CrossingEvent} (h : ¬(ev.branch = .ab ∧ ev.polarity = .pos)) (s : State) :
    tableEvent ev s = s := by
  unfold tableEvent
  split
  · next hb hp => exact absurd ⟨hb, hp⟩ h
  · rfl

end Sys2Proof.Machine

open Sys2Proof Sys2Proof.Machine

/-- Settles O10: the answer is what actTableRead gives. -/
theorem tableReadAnswersEntries : Obligations.TableReadAnswersEntries := by
  unfold Obligations.TableReadAnswersEntries
  refine ⟨fun t => ⟨rfl, rfl⟩, fun s tag bank n start h => ⟨fun b hb hn hl => ?_, fun hr => ?_⟩⟩
  · exact exec_answered h rfl (by decide) rfl (actTableRead_done hb hn hl s.taken)
  · exact exec_answered h rfl (by decide) rfl (actTableRead_range hr s.taken)

/-- Settles O17: the length is checked when the directive is decoded, then a pending commit, then the operands; what is
written stands in the bank from start. -/
theorem tableWriteWritesStaged : Obligations.TableWriteWritesStaged := by
  unfold Obligations.TableWriteWritesStaged
  intro s tag n fill start values h hl
  have length : 11 + 2 * values.length ≤ Config.frameLimit := by
    simp only [Config.frameLimit]
    omega
  refine ⟨fun hm => ?_, fun hd => ⟨fun hc => ?_, fun hc hr => ?_, fun hc hf hn hs hv hlen => ?_⟩⟩
  · have arrives : exec (.tableWrite s.unitByte tag start n fill values) s = whileReleased s
        (directiveArrives s.unitByte tag 12 (11 + 2 * values.length) .malformed) := by
      rw [← tableWriteRequest_malformed hm]
      rfl
    exact exec_answered h arrives length rfl rfl
  · exact exec_answered h (exec_tableWrite hd tag) length rfl (actTableWrite_busy hc)
  · exact exec_answered h (exec_tableWrite hd tag) length rfl (actTableWrite_range hc (not_tableWriteFits hr))
  · obtain ⟨t, ht, settled⟩ := exec_answered h (exec_tableWrite hd tag) length rfl
      (actTableWrite_done (s := s.taken) hc ⟨hf, hn, hs, hv⟩)
    have sized : values.length = if fill = 1 then 1 else n.toNat + 1 := by
      rcases hd with ⟨rfl, hd⟩ | ⟨rfl, hd⟩ | hd
      · exact hd
      · exact hd
      · omega
    have count : (writtenEntries (decide (fill = 1)) n.toNat values).length = n.toNat + 1 :=
      writtenEntries_length fun hne => sized.trans (if_neg (of_decide_eq_false hne))
    have fits : start.toNat + (writtenEntries (decide (fill = 1)) n.toNat values).length ≤ s.tables.staged.length := by
      omega
    refine ⟨t, _, ht, settled, (writeEntries_length fits).trans hlen, fun i => ?_⟩
    rw [taken_tables, writeEntries_getElem? fits, count]
    by_cases hi : start.toNat ≤ i ∧ i ≤ start.toNat + n.toNat
    · rw [if_pos (by omega), if_pos hi, writtenEntries_getElem? (fun he => sized.trans (if_pos (of_decide_eq_true he)))
        (by omega)]
      simp
    · rw [if_neg (by omega), if_neg hi]

/-- Settles O18: the answer is what actTableCopy gives. -/
theorem tableCopyCopiesActive : Obligations.TableCopyCopiesActive := by
  unfold Obligations.TableCopyCopiesActive
  refine fun s tag h => ⟨fun hc => ?_, fun hc => ?_⟩
  · exact exec_answered h rfl (by decide) rfl (actTableCopy_busy (s := s.taken) hc)
  · exact exec_answered h rfl (by decide) rfl (actTableCopy_done (s := s.taken) hc)

/-- Settles O19: the first rise of a bank, and what actTableCommit does with it. -/
theorem tableCommitChecksAndExchanges : Obligations.TableCommitChecksAndExchanges := by
  unfold Obligations.TableCommitChecksAndExchanges
  refine ⟨fun bank => ⟨fun k hk => ?_, fun hk j hj a b ha hb => ?_⟩, fun s tag h =>
    ⟨fun hc => ?_, fun i hc hi => ?_, fun hc hi hr => ?_, fun hc hi hr => ?_⟩⟩
  · obtain ⟨j, rfl, ⟨a, b, ha, hb, hab⟩, hfirst⟩ := firstRise_some bank 0 k hk
    rw [Nat.zero_add]
    refine ⟨Nat.le_add_left 1 j, ⟨a, b, ha, hb, hab⟩, fun m hm hmj c d hc hd => ?_⟩
    obtain ⟨m, rfl⟩ := Nat.exists_eq_add_of_le' hm
    exact le_of_not_risesAfter (hfirst m (by omega)) hc hd
  · obtain ⟨j, rfl⟩ := Nat.exists_eq_add_of_le' hj
    exact le_of_not_risesAfter (firstRise_none bank 0 hk j) ha hb
  · exact exec_answered h rfl (by decide) rfl (actTableCommit_busy (s := s.taken) tag hc)
  · exact exec_answered h rfl (by decide) rfl (actTableCommit_notMonotonic (s := s.taken) tag hc hi)
  · exact exec_answered h rfl (by decide) rfl (actTableCommit_immediate (s := s.taken) tag hc hi hr)
  · have arrives : exec (.tableCommit s.unitByte tag) s = whileReleased s
      (directiveArrives s.unitByte tag commitKind 7 .tableCommit) := rfl
    rw [arrives, whileReleased_high h.high, directive_deferred s tag commitKind 7 .tableCommit _ h (by decide)
      (actTableCommit_pending (s := s.taken) tag hc hi hr)]
    rfl

/-- Settles O20: a POS event of branch AB completes the commit that is pending. -/
theorem abCrossingCompletesCommit : Obligations.AbCrossingCompletesCommit := by
  unfold Obligations.AbCrossingCompletesCommit
  refine fun s ev tag hc => ⟨fun hb hp => ?_, fun hne => tableEvent_other hne s⟩
  rw [tableEvent_crossing hb hp, completeCommit_some hc]
  rfl
end

section
/-! A sound Table Store (R71, R72, R84), and that releases, trips, orders, crossing events, released sets, sample frames,
aux inputs and local ticks keep it: they touch it by completing a pending commit alone (R81, R82). -/

namespace Sys2Proof.Machine

/-! ## A sound Table Store -/

/-- R71, R72, R84: both banks have their shape, ACTIVE never rises, and STAGED does not while a commit is pending. -/
structure TableStore.Sound (t : TableStore) : Prop where
  active : BankShape t.active
  staged : BankShape t.staged
  ordered : NonIncreasing t.active
  checked : t.commit.isSome = true → NonIncreasing t.staged

/-- R80: an exchange of the banks, with STAGED in order, leaves the store sound. -/
theorem TableStore.Sound.exchanged {t : TableStore} (h : t.Sound) (order : NonIncreasing t.staged)
    (c : TableCounters) : TableStore.Sound ⟨t.staged, t.active, none, c⟩ :=
  ⟨h.staged, h.active, order, fun hc => nomatch hc⟩

theorem blockBank_shape : BankShape TableStore.blockBank := by
  refine ⟨List.length_replicate, fun a ha => ?_⟩
  rw [List.eq_of_mem_replicate ha]
  decide

/-- A bank of equal entries never rises. -/
theorem nonIncreasing_replicate (a : Nat) : ∀ n, NonIncreasing (List.replicate n a) := by
  have level : ∀ n i, firstRise i (List.replicate n a) = none := by
    intro n
    induction n with
    | zero => exact fun _ => rfl
    | succ n ih =>
      intro i
      cases n with
      | zero => rfl
      | succ n => exact (if_neg (Nat.lt_irrefl a)).trans (ih (i + 1))
  exact fun n => level n 0

theorem TableStore.sound_initial : TableStore.initial.Sound :=
  ⟨blockBank_shape, blockBank_shape, nonIncreasing_replicate _ _, fun hc => nomatch hc⟩

/-- The Table Store of the state is sound. -/
def TablesSound (s : State) : Prop := s.tables.Sound

theorem TablesSound.of_tables {s t : State} (h : TablesSound s) (e : t.tables = s.tables) : TablesSound t := by
  rwa [TablesSound, e]

theorem tablesSound_powerOn (straps : Straps) (rstn : Bool) (p : List Instr) (k : Nat) :
    TablesSound (State.powerOn straps rstn p k) := TableStore.sound_initial

/-- What every one of the actions keeps of the Table Store, they keep in turn. -/
theorem TablesSound.inTurn {s : State} (h : TablesSound s) (contended : Bool) {fs : List (State → State)}
    (hf : ∀ f ∈ fs, ∀ t, TablesSound t → TablesSound (f t)) : TablesSound (s.inTurn contended fs) :=
  inTurn_keeps s contended fs (fun _ => h) hf fun t ht => ht.of_tables (moment_tables t)

/-! ## Operations that leave the Table Store -/

@[simp] theorem State.countExchange_tables (s : State) (b : Branch) (f : ExchangeCounters → ExchangeCounters) :
    (s.countExchange b f).tables = s.tables := rfl
@[simp] theorem State.countControl_tables (s : State) (f : ControlCounters → ControlCounters) :
    (s.countControl f).tables = s.tables := rfl
@[simp] theorem State.countAsm_tables (s : State) (f : AssemblyCounters → AssemblyCounters) :
    (s.countAsm f).tables = s.tables := rfl
@[simp] theorem State.setAux_tables (s : State) (n : Index4) (x : AuxRec) : (s.setAux n x).tables = s.tables := rfl
@[simp] theorem zeroCarries_tables (s : State) : (zeroCarries s).tables = s.tables := rfl
@[simp] theorem zeroClamps_tables (s : State) : (zeroClamps s).tables = s.tables := rfl
@[simp] theorem rewriteQueue_tables (s : State) : (rewriteQueue s).tables = s.tables := rfl
@[simp] theorem interrupt_tables (f : ControlCounters → ControlCounters) (s : State) :
    (interrupt f s).tables = s.tables := rfl
@[simp] theorem gainRelease_tables (s : State) : (gainRelease s).tables = s.tables := rfl
@[simp] theorem completeSets_tables (s : State) : (completeSets s).tables = s.tables := rfl
@[simp] theorem closeSets_tables (e tag : Tag) (s : State) : (closeSets e tag s).tables = s.tables := rfl
@[simp] theorem placeFrame_tables (e tag : Tag) (n : Index4) (channels : List Half) (s : State) :
    (placeFrame e tag n channels s).tables = s.tables := rfl

@[simp] theorem startQualifying_tables (s : State) : (startQualifying s).tables = s.tables := by
  unfold startQualifying
  split <;> rfl

@[simp] theorem dipBegins_tables (s : State) : (dipBegins s).tables = s.tables := by
  unfold dipBegins
  split
  · split <;> rfl
  all_goals rfl

@[simp] theorem dipEnds_tables (s : State) : (dipEnds s).tables = s.tables := by
  unfold dipEnds
  split <;> rfl

@[simp] theorem tickDip_tables (s : State) : (tickDip s).tables = s.tables := by
  unfold tickDip
  split
  · split <;> rfl
  all_goals rfl

@[simp] theorem recover_tables (s : State) : (recover s).tables = s.tables := by
  unfold recover
  split
  · rfl
  · exact changeMode_tables _ _ _

@[simp] theorem supplyReturns_tables (s : State) : (supplyReturns s).tables = s.tables := by
  unfold supplyReturns
  rw [recover_tables]
  split <;> rfl

@[simp] theorem reportSent_tables (o : Order) (s : State) : (reportSent o s).tables = s.tables := by
  unfold reportSent
  split <;> rfl

@[simp] theorem updateTrim_tables (ev : CrossingEvent) (s : State) : (updateTrim ev s).tables = s.tables := by
  unfold updateTrim
  split <;> rfl

@[simp] theorem trigger_tables (x : TriggerSource) (s : State) : (trigger x s).tables = s.tables := by
  unfold trigger
  dsimp only
  split
  · split <;> rfl
  all_goals rfl

@[simp] theorem countPost_tables (c : Capture) (s : State) : (countPost c s).tables = s.tables := by
  unfold countPost
  split <;> rfl

@[simp] theorem offerRecord_tables (r : CaptureRecord) (s : State) : (offerRecord r s).tables = s.tables := by
  unfold offerRecord
  dsimp only
  split
  · rfl
  · rfl
  · split
    · rfl
    · split
      · exact countPost_tables _ s
      · rfl
  · split
    · rfl
    · exact countPost_tables _ s

@[simp] theorem trackerChanged_tables (b : Branch) (s : State) : (trackerChanged b s).tables = s.tables := by
  unfold trackerChanged
  dsimp only
  split <;> rfl

@[simp] theorem unlockTracker_tables (b : Branch) (s : State) : (unlockTracker b s).tables = s.tables := by
  unfold unlockTracker
  dsimp only
  split
  · rfl
  · exact trackerChanged_tables b _

@[simp] theorem wakeAction_tables (s : State) : (wakeAction s).tables = s.tables := by
  unfold wakeAction
  split
  · exact changeMode_tables _ _ s
  · rfl

@[simp] theorem beginV_tables (s : State) : (beginV s).tables = s.tables := by
  unfold beginV
  split <;> rfl

@[simp] theorem pushFrame_tables (f : VFrame) (s : State) : (pushFrame f s).tables = s.tables := beginV_tables _

@[simp] theorem slotClosed_tables (e : Tag) (forced : Bool) (s : State) :
    (slotClosed e forced s).tables = s.tables := by
  obtain ⟨_, _, -, hs⟩ := slotClosed_eq e forced s
  rw [hs, State.setNotices_tables, State.setAsm_tables]

@[simp] theorem writeBank_tables (n : Index4) (r : BankRec) (s : State) : (writeBank n r s).tables = s.tables := by
  unfold writeBank
  dsimp only
  split
  · rfl
  · split <;> rfl

@[simp] theorem faultBank_tables (n : Index4) (code : Option Byte) (f : BankCounters → BankCounters) (s : State) :
    (faultBank n code f s).tables = s.tables := writeBank_tables n _ s

@[simp] theorem takeBankStatus_tables (n : Index4) (st : BankStatus) (code : Byte) (s : State) :
    (takeBankStatus n st code s).tables = s.tables := by
  unfold takeBankStatus
  dsimp only
  split
  case h_1 | h_9 | h_10 | h_11 | h_12 | h_13 | h_14 => rfl
  case h_15 | h_16 | h_17 | h_18 | h_19 => exact faultBank_tables _ _ _ s
  all_goals exact writeBank_tables _ _ s

@[simp] theorem receiveBankStatus_tables (bank status code : Byte) (s : State) :
    (receiveBankStatus bank status code s).tables = s.tables := by
  unfold receiveBankStatus
  split
  · exact takeBankStatus_tables _ _ _ s
  · rfl

@[simp] theorem tickConfirmation_tables (s : State) (n : Index4) : (tickConfirmation s n).tables = s.tables := by
  unfold tickConfirmation
  dsimp only
  split
  · split
    · exact faultBank_tables _ _ _ s
    · rfl
  · rfl

@[simp] theorem tickDischarge_tables (s : State) (n : Index4) : (tickDischarge s n).tables = s.tables := by
  unfold tickDischarge
  dsimp only
  split
  · split
    · exact writeBank_tables _ _ s
    · rfl
  · rfl

@[simp] theorem tickDwell_tables (s : State) : (tickDwell s).tables = s.tables := by
  unfold tickDwell
  split
  · rfl
  · split <;> rfl

@[simp] theorem confirmationExpiresAt_tables (s : State) (n : Index4) :
    (confirmationExpiresAt s n).tables = s.tables := by
  unfold confirmationExpiresAt
  split
  · exact faultBank_tables _ _ _ s
  · rfl

@[simp] theorem dischargeExpires_tables (n : Index4) (s : State) : (dischargeExpires n s).tables = s.tables := by
  unfold dischargeExpires
  split
  · exact writeBank_tables _ _ s
  · rfl

/-! ## A pending commit completed (R81, R82) -/

/-- R83: a completed commit exchanges the banks, of which STAGED has been checked (R77, R84). -/
theorem TablesSound.completeCommit {s : State} (h : TablesSound s) (c : Completion)
    (f : TableCounters → TableCounters) : TablesSound (completeCommit c f s) := by
  unfold Machine.completeCommit
  split
  · exact h
  · next tag ht => exact TableStore.Sound.exchanged h (h.checked (by rw [ht]; rfl)) _

theorem TablesSound.tableEvent {s : State} (h : TablesSound s) (ev : CrossingEvent) :
    TablesSound (tableEvent ev s) := by
  unfold Machine.tableEvent
  split
  · exact h.completeCommit _ _
  · exact h

/-! ## Release, trips and readiness -/

theorem TablesSound.releaseDrop {s : State} (h : TablesSound s) : TablesSound (releaseDrop s) := by
  have dropped : TablesSound (rewriteQueue (zeroClamps (zeroCarries (s.countControl fun c =>
      { c with releaseLost := bump c.releaseLost })))) := h.of_tables (by simp)
  exact (dropped.completeCommit _ _).of_tables (raise_tables _ _)

theorem TablesSound.evalBase {s : State} (h : TablesSound s) : TablesSound (evalBase s) := by
  unfold Machine.evalBase
  split
  · exact h.of_tables (startQualifying_tables s)
  · unfold holdRelease
    dsimp only
    split
    · exact h
    · exact h.of_tables (by simp)
    · exact h.of_tables (by simp)
    · exact TablesSound.releaseDrop (h.of_tables (by simp))

theorem TablesSound.checkReady {s : State} (h : TablesSound s) (before : Bool) : TablesSound (checkReady before s) := by
  unfold Machine.checkReady
  split
  · exact h
  · unfold handReady
    dsimp only
    split
    · exact h.of_tables (by simp)
    · exact TablesSound.releaseDrop (h.of_tables (by simp))
    · exact h.of_tables (by simp)

theorem TablesSound.latchTrip {s : State} (h : TablesSound s) (c : TripCause) : TablesSound (latchTrip c s) :=
  TablesSound.evalBase (s := raise .trip (s.setControl _)) h

theorem TablesSound.reportLost {s : State} (h : TablesSound s) (o : Order) : TablesSound (reportLost o s) := by
  unfold Machine.reportLost
  split
  · exact h
  · split
    · exact TablesSound.latchTrip (s := countGap o.branch s) h _
    · exact h

theorem TablesSound.evalSupply {s : State} (h : TablesSound s) : TablesSound (evalSupply s) := by
  have returns : ∀ (c : Bool) (t : State), (if c then supplyReturns t else t).tables = t.tables := fun c t => by
    cases c <;> simp
  have evaluated : ∀ (c : Bool) (x : Controller), TablesSound (Machine.evalBase (momentAfter [.mode]
      (if c then supplyReturns (s.setControl x) else s.setControl x))) := fun c x =>
    TablesSound.evalBase (h.of_tables ((momentAfter_tables _ _).trans (returns c _)))
  unfold Machine.evalSupply
  dsimp only
  split
  · exact (evaluated _ _).of_tables ((dipBegins_tables _).trans (momentAfterRelease_tables _))
  · split
    · exact (evaluated _ _).of_tables (dipEnds_tables _)
    · exact evaluated _ _

theorem TablesSound.endWaking {s : State} (h : TablesSound s) : TablesSound (endWaking s) := by
  have changed : ∀ m t, TablesSound (changeMode m t s) := fun m t => h.of_tables (changeMode_tables m t s)
  unfold Machine.endWaking
  split
  · exact (changed _ _).evalBase
  · exact (changed _ _).evalBase

theorem TablesSound.controlEvent {s : State} (h : TablesSound s) (ev : CrossingEvent) :
    TablesSound (controlEvent ev s) := by
  unfold Machine.controlEvent
  split
  · split
    · unfold countWaking
      dsimp only
      split
      · exact h
      · split
        · exact TablesSound.endWaking (h.of_tables (by simp))
        · exact h.of_tables (by simp)
    · split
      · unfold countQualifying
        dsimp only
        split
        · split <;> exact h.of_tables (by simp)
        · exact h.of_tables (by simp)
      · exact h
  · exact h

/-! ## The Order Exchange -/

theorem TablesSound.handOrder {s : State} (h : TablesSound s) (o : Order) : TablesSound (handOrder o s) := by
  unfold Machine.handOrder
  split
  · exact h.of_tables (pushFrame_tables _ _)
  · exact TablesSound.reportLost (s := s.countExchange _ _) h o

theorem TablesSound.handBankOrder {s : State} (h : TablesSound s) (n : Index4) (a : BankAction) :
    TablesSound (handBankOrder n a s) := by
  have push : ∀ {t : State}, TablesSound t → ∀ x, TablesSound (Machine.pushFrame (.bank n a) (t.setExchange x)) :=
    fun ht x => ht.of_tables (pushFrame_tables _ _)
  unfold Machine.handBankOrder
  dsimp only
  split
  · exact push h _
  · split
    · exact h
    · next o rest _ =>
      have displaced : TablesSound (s.setExchange { s.exchange with queue := rest }) := h.of_tables (by simp)
      exact push (TablesSound.reportLost (displaced.of_tables (State.countExchange_tables _ _ _)) o) _

theorem TablesSound.deadlineCheck {s : State} (h : TablesSound s) (tag : Tag) : TablesSound (deadlineCheck tag s) := by
  have all : ∀ (l : List Order) {t : State}, TablesSound t →
      TablesSound (l.foldl (fun t o => withdrawn o t) t) := by
    intro l
    induction l with
    | nil => exact fun ht => ht
    | cons o rest ih => exact fun {t} ht => ih (TablesSound.reportLost (s := t.countExchange _ _) ht o)
  exact all _ (t := s.setExchange _) h

theorem TablesSound.countTimeout {s : State} (h : TablesSound s) (b : Branch) : TablesSound (countTimeout b s) := by
  unfold Machine.countTimeout
  dsimp only
  split
  · exact TablesSound.latchTrip (s := s.setExchangeRec _ _) h _
  · exact h

theorem TablesSound.ageOrders {s : State} (h : TablesSound s) (ev : CrossingEvent) : TablesSound (ageOrders ev s) := by
  have all : ∀ (n : Nat) {t : State}, TablesSound t → TablesSound (countTimeouts ev.branch n t) := by
    intro n
    induction n with
    | zero => exact fun ht => ht
    | succ n ih => exact fun ht => ih (ht.countTimeout _)
  exact all _ (t := s.setExchangeRec _ _) h

theorem TablesSound.completeV {s : State} (h : TablesSound s) : TablesSound (completeV s) := by
  unfold Machine.completeV
  split
  · exact h
  · dsimp only
    split
    · exact h.of_tables (beginV_tables _)
    · next o _ =>
      have sent : TablesSound (orderSent o ((s.setExchange { s.exchange with transmitter := none }).countV fun c =>
          { c with sent := bump c.sent })) := h.of_tables (reportSent_tables o _)
      split
      · exact sent.of_tables (beginV_tables _)
      · split
        · exact sent.of_tables (beginV_tables _)
        · refine ordered_keeps _ _ _ (fun _ => sent) fun f hf t ht => ?_
          simp only [List.mem_cons, List.not_mem_nil, or_false] at hf
          rcases hf with rfl | rfl
          · exact ht.of_tables (beginV_tables t)
          · exact ht.countTimeout _

theorem TablesSound.matchReport {s : State} (h : TablesSound s) (r : ValveReport) : TablesSound (matchReport r s) := by
  have result : ∀ {t : State}, TablesSound t → ∀ x, TablesSound (applyResult r t x) := fun {t} ht x => by
    unfold applyResult
    dsimp only
    split
    · exact ht
    · split
      · exact TablesSound.latchTrip (s := t.setExchangeRec _ _) ht _
      · exact ht
    · exact TablesSound.latchTrip (s := t.countExchange _ _) ht _
  unfold Machine.matchReport
  dsimp only
  split
  · exact h
  · exact result (t := s.setExchangeRec _ _) h _

theorem TablesSound.receiveReport {s : State} (h : TablesSound s) (r : ReportFrame) :
    TablesSound (receiveReport r s) := by
  unfold Machine.receiveReport
  split
  · exact h
  · next v _ =>
    unfold takeReport
    split
    · exact h
    · have ready : TablesSound (setReadiness v.branch v.ready s) :=
        TablesSound.checkReady (s := s.setExchangeRec _ _) h _
      exact TablesSound.matchReport (ready.of_tables (moment_tables _)) v

theorem TablesSound.exchangeQuiescent {s : State} (h : TablesSound s) : TablesSound (exchangeQuiescent s) := by
  unfold Machine.exchangeQuiescent
  exact TablesSound.checkReady (h.of_tables (State.setExchange_tables s _)) _

theorem TablesSound.enterQuiescent {s : State} (h : TablesSound s) : TablesSound (enterQuiescent s) := by
  have quieted : TablesSound (changeMode .quiescent none s) := h.of_tables (changeMode_tables _ _ s)
  unfold Machine.enterQuiescent
  dsimp only
  refine TablesSound.exchangeQuiescent (ordered_keeps _ _ _ (fun _ => quieted) fun f hf t ht => ?_)
  simp only [List.mem_cons, List.not_mem_nil, or_false] at hf
  rcases hf with rfl | rfl
  · exact ht.evalBase
  · exact ht

/-! ## The Demand Unit, crossing events and released sets -/

theorem TablesSound.actOnEvent {s : State} (h : TablesSound s) (ev : CrossingEvent) :
    TablesSound (actOnEvent ev s) := by
  have counted : TablesSound (if (s.demandResult ev.branch).flags.notFormed
      then countGap ev.branch (s.setDemandRec ev.branch (s.demandResult ev.branch).record)
      else s.setDemandRec ev.branch (s.demandResult ev.branch).record) := by
    split <;> exact h
  have handed : ∀ o r, TablesSound (Machine.handOrder o (offerRecord r _)) := fun o r =>
    TablesSound.handOrder (counted.of_tables (offerRecord_tables r _)) o
  unfold Machine.actOnEvent
  dsimp only
  split
  · exact (handed _ _).latchTrip _
  · exact handed _ _

theorem TablesSound.demandEvent {s : State} (h : TablesSound s) (ev : CrossingEvent) :
    TablesSound (demandEvent ev s) := by
  unfold Machine.demandEvent
  split
  · exact h
  · exact TablesSound.actOnEvent (h.of_tables (updateTrim_tables ev s)) ev

theorem TablesSound.offerEvent {s : State} (h : TablesSound s) (ev : CrossingEvent) :
    TablesSound (offerEvent ev s) := by
  refine h.inTurn _ fun f hf t ht => ?_
  simp only [List.mem_cons, List.not_mem_nil, or_false] at hf
  rcases hf with rfl | rfl | rfl | rfl
  · exact ht.demandEvent ev
  · exact ht.ageOrders ev
  · exact ht.tableEvent ev
  · exact ht.controlEvent ev

theorem TablesSound.runTracker {s : State} (h : TablesSound s) (tag : Tag) (b : Branch) :
    TablesSound (runTracker tag b s) := by
  have written : ∀ (x : Bool) (t : Tracker),
      TablesSound (if x then trackerChanged b (s.setTracker b t) else s.setTracker b t) := fun x t => by
    cases x
    · exact h
    · exact h.of_tables (trackerChanged_tables b _)
  have evaluated : ∀ (x y : Bool) (t : Tracker), TablesSound
      (if y then Machine.evalSupply (if x then trackerChanged b (s.setTracker b t) else s.setTracker b t)
        else if x then trackerChanged b (s.setTracker b t) else s.setTracker b t) := fun x y t => by
    cases y
    · exact written x t
    · exact (written x t).evalSupply
  unfold Machine.runTracker
  dsimp only
  split
  · exact evaluated _ _ _
  · exact TablesSound.offerEvent ((evaluated _ _ _).of_tables (moment_tables _)) _

theorem TablesSound.releasedSet {s : State} (h : TablesSound s) (tag : Tag) : TablesSound (releasedSet tag s) := by
  refine h.inTurn _ fun f hf t ht => ?_
  simp only [List.mem_cons, List.not_mem_nil, or_false] at hf
  rcases hf with rfl | rfl | rfl | rfl
  · exact ht.runTracker tag _
  · exact ht.runTracker tag _
  · exact ht.runTracker tag _
  · exact ht.deadlineCheck tag

theorem TablesSound.unlockTrackers {s : State} (h : TablesSound s) : TablesSound (unlockTrackers s) :=
  TablesSound.evalSupply (h.of_tables (by simp))

/-! ## Aux inputs -/

theorem TablesSound.startBlanking {s : State} (h : TablesSound s) (delay width : Nat) :
    TablesSound (startBlanking delay width s) := by
  unfold Machine.startBlanking
  dsimp only
  split
  · split
    · exact TablesSound.evalBase (h.of_tables (by simp))
    · exact h.of_tables (by simp)
  · exact h.of_tables (by simp)
  · exact h.of_tables (by simp)

theorem TablesSound.activateBlanking {s : State} (h : TablesSound s) (width : Nat) :
    TablesSound (activateBlanking width s) := TablesSound.evalBase (s := s.setControl _) h

theorem TablesSound.endBlanking {s : State} (h : TablesSound s) : TablesSound (endBlanking s) :=
  TablesSound.evalBase (s := s.setControl _) h

theorem TablesSound.tickBlanking {s : State} (h : TablesSound s) : TablesSound (tickBlanking s) := by
  unfold Machine.tickBlanking
  dsimp only
  split
  · exact h
  · split
    · exact h.activateBlanking _
    · exact h
  · split
    · exact h.endBlanking
    · exact h

theorem TablesSound.actIf {s : State} (h : TablesSound s) (has : Bool) {f : State → State}
    (hf : TablesSound s → TablesSound (f s)) : TablesSound (actIf has f s) := by
  unfold Machine.actIf
  split
  · exact hf h
  · exact h

theorem TablesSound.blockAction {s : State} (h : TablesSound s) (n : Index4) : TablesSound (blockAction n s) := by
  refine TablesSound.evalBase ?_
  split <;> exact h

theorem TablesSound.activeEdge {s : State} (h : TablesSound s) (n : Index4) : TablesSound (activeEdge n s) := by
  have counted : TablesSound (edgeCounted n s) := h
  rw [activeEdge_eq rfl]
  unfold edgeActions
  exact ((((counted.actIf _ fun k => k.of_tables (wakeAction_tables _)).actIf _ fun k => k.blockAction n).actIf _
    fun k => k.startBlanking _ _).actIf _ fun k => k.of_tables (trigger_tables _ _)).actIf _ fun k => k

theorem TablesSound.inactiveEdge {s : State} (h : TablesSound s) (n : Index4) : TablesSound (inactiveEdge n s) :=
  (h.actIf _ fun k => k.evalBase).actIf _ fun k => k

theorem TablesSound.handAux {s : State} (h : TablesSound s) (flags : Four Bool) : TablesSound (handAux flags s) := by
  refine h.inTurn _ fun f hf t ht => ?_
  obtain ⟨n, _, rfl⟩ := List.mem_map.mp hf
  have written : ∀ r, TablesSound (t.setAux n r) := fun _ => ht
  dsimp only
  rw [debounceAux_reads rfl rfl]
  split
  · exact written _
  · split
    · split
      · exact (written _).activeEdge n
      · exact (written _).inactiveEdge n
    · exact written _

/-! ## Releases of slots and sample frames -/

theorem TablesSound.releaseSlot {s : State} (h : TablesSound s) (forced : Bool) :
    TablesSound (releaseSlot forced s) := by
  rcases he : s.asm.expected with _ | e
  · rwa [releaseSlot_none he]
  · rw [releaseSlot_eq he]
    have released := TablesSound.releasedSet (h.of_tables (slotClosed_tables e forced s)) e
    exact released.of_tables ((moment_tables _).trans (State.setAsm_tables _ _))

theorem TablesSound.releaseChain : ∀ (n : Nat) {s : State}, TablesSound s → TablesSound (releaseChain n s)
  | 0, _, h => h
  | n + 1, s, h => by
    unfold Machine.releaseChain
    split
    · exact TablesSound.releaseChain n (h.releaseSlot false)
    · exact h

theorem TablesSound.releaseCheck {s : State} (h : TablesSound s) : TablesSound (releaseCheck s) := by
  unfold Machine.releaseCheck
  split
  · exact h
  · split
    · exact h
    · exact h.releaseChain _

theorem TablesSound.forceReleases : ∀ (n : Nat) {s : State}, TablesSound s → TablesSound (forceReleases n s)
  | 0, _, h => h
  | n + 1, _, h => TablesSound.forceReleases n (h.releaseSlot true)

theorem TablesSound.acceptFrame {s : State} (h : TablesSound s) (e tag : Tag) (n : Index4) (f : SampleFrame) :
    TablesSound (acceptFrame e tag n f s) := by
  have placed : TablesSound (completeSets (closeSets e tag (placeFrame e tag n f.channels s))) :=
    h.of_tables (by simp)
  unfold Machine.acceptFrame
  dsimp only
  split
  · exact h
  · split
    · refine placed.inTurn _ fun g hg t ht => ?_
      simp only [List.mem_cons, List.not_mem_nil, or_false] at hg
      rcases hg with rfl | rfl
      · exact ht.releaseCheck
      · exact ht.handAux _
    · exact placed.releaseCheck

theorem TablesSound.discontinuity {s : State} (h : TablesSound s) (tag : Tag) (n : Index4) :
    TablesSound (discontinuity tag n s) := by
  rw [discontinuity_eq]
  have unlocked := TablesSound.unlockTrackers (s := discontinuityPlaced tag n s) h
  exact unlocked.of_tables (by simp)

theorem TablesSound.handleFrame {s : State} (h : TablesSound s) (e tag : Tag) (n : Index4) (f : SampleFrame) :
    TablesSound (handleFrame e tag n f s) := by
  unfold Machine.handleFrame
  dsimp only
  split
  · exact h.acceptFrame _ _ _ _
  · split
    · exact (TablesSound.forceReleases _ h).acceptFrame _ _ _ _
    · split
      · exact (h.discontinuity _ _).acceptFrame _ _ _ _
      · exact h

theorem TablesSound.takeSample {s : State} (h : TablesSound s) (f : SampleFrame) : TablesSound (takeSample f s) := by
  unfold Machine.takeSample
  split
  · exact h
  · split
    · exact h
    · split
      · exact h
      · split
        · exact h
        · dsimp only
          split
          · exact (h.of_tables (State.setAsm_tables s _)).handleFrame _ _ _ _
          · exact h.handleFrame _ _ _ _

theorem TablesSound.expireSilence {s : State} (h : TablesSound s) : TablesSound (expireSilence s) := by
  rw [expireSilence_eq]
  have unlocked := TablesSound.unlockTrackers (s := silenceCleared s) h
  exact unlocked.of_tables (by simp [streamInterruption])

/-! ## Filter banks and the local tick -/

theorem TablesSound.placeBankOrder {s : State} (h : TablesSound s) (n : Index4) (a : BankAction) :
    TablesSound (placeBankOrder n a s) :=
  TablesSound.handBankOrder (h.of_tables ((momentAfter_tables _ _).trans (writeBank_tables n _ s))) n a

theorem TablesSound.autoSwitch {s : State} (h : TablesSound s) : TablesSound (autoSwitch s) := by
  have counted : ∀ f, TablesSound (s.countBanks f) := fun _ => h
  unfold Machine.autoSwitch
  split
  · split
    · split
      · exact (counted _).placeBankOrder _ _
      · exact h
    · split
      · split
        · exact (counted _).placeBankOrder _ _
        · exact h
      · exact h
  · exact h

theorem TablesSound.tickBanks {s : State} (h : TablesSound s) : TablesSound (tickBanks s) := by
  have dwell : ∀ t : State, (if s.confirmationExpires then t else tickDwell t).tables = t.tables := fun t => by
    split <;> simp
  refine TablesSound.autoSwitch (h.of_tables ?_)
  rw [dwell, momentAfter_tables, foldl_same State.tables _ tickDischarge_tables, momentAfter_tables,
    foldl_same State.tables _ tickConfirmation_tables]

theorem TablesSound.localTick {s : State} (h : TablesSound s) : TablesSound (localTick s) := by
  have ticked : TablesSound (tickDip (countTick s)) := h.of_tables (tickDip_tables _)
  refine ticked.inTurn _ fun f hf t ht => ?_
  simp only [List.mem_cons, List.not_mem_nil, or_false] at hf
  rcases hf with rfl | rfl
  · exact ht.tickBlanking
  · exact ht.tickBanks

end Sys2Proof.Machine
end

section
/-! Every step keeps the firing tables (R71, R72, R76, R84): what a directive's action leaves of the directive queue and of
the Table Store, and the TABLE_WRITEs that wait with the values they need (R172). -/

namespace Sys2Proof.Machine

/-! ## The directive queue -/

@[simp] theorem takeBankStatus_queue (n : Index4) (st : BankStatus) (code : Byte) (s : State) :
    (takeBankStatus n st code s).processor.queue = s.processor.queue := by
  unfold takeBankStatus
  dsimp only
  split
  case h_1 | h_9 | h_10 | h_11 | h_12 | h_13 | h_14 => rfl
  all_goals exact writeBank_queue _ _ s

theorem receiveBankStatus_queue (bank status code : Byte) (s : State) :
    (receiveBankStatus bank status code s).processor.queue = s.processor.queue := by
  unfold receiveBankStatus
  split
  · exact takeBankStatus_queue _ _ _ s
  · rfl

theorem receiveReport_queue (r : ReportFrame) (s : State) :
    (receiveReport r s).processor.queue = s.processor.queue := by
  unfold receiveReport
  split
  · rfl
  · exact queue_of_outer (outer_takeReport _ s)

theorem confirmationExpiresAt_queue (s : State) (n : Index4) :
    (confirmationExpiresAt s n).processor.queue = s.processor.queue := by
  unfold confirmationExpiresAt
  split
  · exact writeBank_queue _ _ s
  · rfl

theorem dischargeExpires_queue (n : Index4) (s : State) :
    (dischargeExpires n s).processor.queue = s.processor.queue := by
  unfold dischargeExpires
  split
  · exact writeBank_queue _ _ s
  · rfl

theorem chooseNext_queue (s : State) : (chooseNext s).processor.queue = s.processor.queue := by
  unfold chooseNext
  split
  · rfl
  · split
    · split <;> rfl
    · exact beginReply_queue s

theorem clearCounters_queue (s : State) (g : CounterGroup) :
    (clearCounters s g).processor.queue = s.processor.queue := by
  cases g <;> rfl

theorem afterWrite_queue (p : Param) (s : State) : (afterWrite p s).processor.queue = s.processor.queue := by
  unfold afterWrite
  split
  · split <;> rfl
  · rfl
  · rfl
  · exact queue_of_outer (outer_evalSupply s)
  · exact queue_of_outer (outer_evalSupply s)
  · exact queue_of_outer (outer_evalBase s)
  · rfl

theorem takeMode_queue (m : Mode) (s : State) : (takeMode m s).processor.queue = s.processor.queue := by
  have requested : ∀ t u, (requestMode t u).processor.queue = u.processor.queue := fun t u => by
    unfold requestMode
    split
    · exact queue_of_outer ((outer_evalBase _).trans (outer_changeMode _ _ _))
    · exact queue_of_outer ((outer_evalBase _).trans (outer_changeMode _ _ _))
    · exact queue_of_outer (outer_changeMode _ _ _)
    · rfl
  have quieted : (if s.control.mode = .quiescent then cancelResume s else enterQuiescent s).processor.queue =
      s.processor.queue := by
    split
    · rfl
    · exact queue_of_outer (outer_enterQuiescent s)
  cases m with
  | run | park => exact (requested _ _).trans rfl
  | quiescent | waking => exact quieted

/-- R185: an ENGINE reset leaves the directives that wait. -/
theorem engineReset_queue (s : State) : (engineReset s).processor.queue = s.processor.queue := by
  obtain ⟨tables, processor, records, valid, dip, ready, hs, ⟨-, -, -, idle, pending⟩, -⟩ := engineReset_eq s
  rw [hs]
  rcases hc : s.tables.commit with _ | x
  · rw [(idle hc).2]
  · rw [(pending x hc).2]

/-! ## What a directive's action leaves of the directive queue, directive by directive -/

@[simp] theorem State.done_state (s : State) (data : ReplyData) : (s.done data).1 = s := rfl

@[simp] theorem State.refuse_state (s : State) (code : ResultCode) : (s.refuse code).1 = s := rfl

theorem actCounters_queue (group clear : Byte) (s : State) :
    (actCounters group clear s).1.processor.queue = s.processor.queue := by
  unfold actCounters
  split
  · split
    · exact clearCounters_queue s _
    · rfl
  · rfl

theorem actGet_queue (ident : Byte) (s : State) : (actGet ident s).1.processor.queue = s.processor.queue := by
  unfold actGet
  split <;> rfl

theorem actSet_queue (ident : Byte) (value : Word) (s : State) :
    (actSet ident value s).1.processor.queue = s.processor.queue := by
  unfold actSet
  split
  · rfl
  · split
    · rfl
    · split
      · exact afterWrite_queue _ _
      · rfl

theorem actMapSet_queue (quantity source channel : Byte) (s : State) :
    (actMapSet quantity source channel s).1.processor.queue = s.processor.queue := by
  unfold actMapSet
  split
  · rfl
  · split <;> simp

theorem actSourceSet_queue (source enabled policy hold miss : Byte) (s : State) :
    (actSourceSet source enabled policy hold miss s).1.processor.queue = s.processor.queue := by
  unfold actSourceSet
  split
  · rfl
  · split
    · simp [releaseCheck_queue, State.setSource]
    · rfl

theorem actAuxSet_queue (aux polarity kind debounce actions delay width : Byte) (s : State) :
    (actAuxSet aux polarity kind debounce actions delay width s).1.processor.queue = s.processor.queue := by
  unfold actAuxSet
  split
  · rfl
  · split
    · exact queue_of_outer ((outer_evalBase _).trans (outer_setAux _ _ _))
    · rfl

theorem actBankSet_queue (bank present : Byte) (susceptance : Half) (state : Byte) (s : State) :
    (actBankSet bank present susceptance state s).1.processor.queue = s.processor.queue := by
  have record : ∀ n st x, (setBankRecord n st x s).1.processor.queue = s.processor.queue := fun n _ _ =>
    writeBank_queue n _ s
  unfold actBankSet
  split
  · rfl
  · split
    · split
      · rfl
      · exact record _ _ _
    · split
      · split
        · rfl
        · split
          · rfl
          · exact record _ _ _
      · rfl
    · rfl

theorem actBankForce_queue (bank action : Byte) (s : State) :
    (actBankForce bank action s).1.processor.queue = s.processor.queue := by
  unfold actBankForce
  split
  · split
    · rfl
    · split
      · rfl
      · simp [State.countBanks]
  · rfl

theorem actTableWrite_queue (start : Half) (n fill : Byte) (values : List Half) (s : State) :
    (actTableWrite start n fill values s).1.processor.queue = s.processor.queue := by
  by_cases hc : s.tables.commit.isSome = true
  · simp [actTableWrite_busy hc]
  · have hn : s.tables.commit = none := by simpa using hc
    by_cases hf : TableWriteFits start n fill values
    · simp [actTableWrite_done hn hf]
    · simp [actTableWrite_range hn hf]

theorem actTableRead_queue (bank : Byte) (start : Half) (n : Byte) (s : State) :
    (actTableRead bank start n s).1.processor.queue = s.processor.queue := by
  unfold actTableRead
  split
  · split <;> rfl
  · rfl

theorem actTableCopy_queue (s : State) : (actTableCopy s).1.processor.queue = s.processor.queue := by
  unfold actTableCopy
  split <;> simp

theorem actTableCommit_queue (tag : Byte) (s : State) :
    (actTableCommit tag s).1.processor.queue = s.processor.queue := by
  unfold actTableCommit
  split
  · rfl
  · split
    · simp
    · split <;> simp

theorem actMode_queue (operand : Byte) (s : State) : (actMode operand s).1.processor.queue = s.processor.queue := by
  unfold actMode
  split
  · rfl
  · split
    · rfl
    · exact takeMode_queue _ s

theorem actBlock_queue (operand : Byte) (s : State) : (actBlock operand s).1.processor.queue = s.processor.queue := by
  unfold actBlock
  split
  · rfl
  · exact queue_of_outer ((outer_evalBase _).trans (outer_setControl s _))

theorem actTripClear_queue (s : State) : (actTripClear s).1.processor.queue = s.processor.queue :=
  (queue_of_outer (outer_evalBase _)).trans (by simp [zeroRuns, zeroGaps, clearLatches])

theorem actCaptureSet_queue (mode : Byte) (post : Half) (s : State) :
    (actCaptureSet mode post s).1.processor.queue = s.processor.queue := by
  unfold actCaptureSet
  split
  · split <;> simp
  · rfl

theorem actCaptureTrigger_queue (s : State) : (actCaptureTrigger s).1.processor.queue = s.processor.queue := by
  unfold actCaptureTrigger
  split
  · exact queue_of_outer (outer_trigger _ s)
  · rfl

theorem actCaptureRead_queue (n : Byte) (s : State) :
    (actCaptureRead n s).1.processor.queue = s.processor.queue := by
  unfold actCaptureRead
  split <;> simp

theorem actNoticeSet_queue (source enable level : Byte) (s : State) :
    (actNoticeSet source enable level s).1.processor.queue = s.processor.queue := by
  unfold actNoticeSet
  split <;> simp

theorem actNoticeClear_queue (sources : Half) (s : State) :
    (actNoticeClear sources s).1.processor.queue = s.processor.queue := by
  unfold actNoticeClear
  split <;> simp

theorem actReset_queue (scope : Byte) (s : State) : (actReset scope s).1.processor.queue = s.processor.queue := by
  unfold actReset
  split
  · rfl
  · simp [engineReset_queue]
  · simp

/-- R172: a directive's action leaves the directives that wait behind it. -/
theorem act_queue (d : Directive) (s : State) : (act d s).1.processor.queue = s.processor.queue := by
  unfold act
  split
  case h_3 => exact actCounters_queue _ _ s
  case h_5 => exact actGet_queue _ s
  case h_6 => exact actSet_queue _ _ s
  case h_7 => exact actMapSet_queue _ _ _ s
  case h_8 => exact actSourceSet_queue _ _ _ _ _ s
  case h_9 => exact actAuxSet_queue _ _ _ _ _ _ _ s
  case h_10 => exact actBankSet_queue _ _ _ _ s
  case h_11 => exact actBankForce_queue _ _ s
  case h_12 => exact actTableWrite_queue _ _ _ _ s
  case h_13 => exact actTableRead_queue _ _ _ s
  case h_14 => exact actTableCopy_queue s
  case h_15 => exact actTableCommit_queue _ s
  case h_16 => exact actMode_queue _ s
  case h_17 => exact actBlock_queue _ s
  case h_18 => exact actTripClear_queue s
  case h_19 => exact actCaptureSet_queue _ _ s
  case h_20 => exact actCaptureTrigger_queue s
  case h_21 => exact actCaptureRead_queue _ s
  case h_23 => exact actNoticeSet_queue _ _ _ s
  case h_24 => exact actNoticeClear_queue _ s
  case h_25 => exact actReset_queue _ s
  case h_22 | h_26 | h_27 => simp [actCaptureFlush, actUnknownKind, actMalformed]
  all_goals rfl

/-! ## The Table Store after a directive's action -/

theorem TablesSound.afterWrite {s : State} (h : TablesSound s) (p : Param) : TablesSound (afterWrite p s) := by
  unfold Machine.afterWrite
  split
  · split <;> exact h
  · exact h
  · exact h
  · exact h.evalSupply
  · exact h.evalSupply
  · exact h.evalBase
  · exact h

theorem TablesSound.takeMode {s : State} (h : TablesSound s) (m : Mode) : TablesSound (takeMode m s) := by
  have changed : ∀ {u : State}, TablesSound u → ∀ m g, TablesSound (changeMode m g u) := fun hu m g =>
    hu.of_tables (changeMode_tables m g _)
  have requested : ∀ t {u : State}, TablesSound u → TablesSound (requestMode t u) := fun t u hu => by
    unfold requestMode
    split
    · exact (changed hu _ _).evalBase
    · exact (changed hu _ _).evalBase
    · exact changed hu _ _
    · exact hu
  have cancelled : TablesSound (cancelResume s) := h
  have quieted : TablesSound (if s.control.mode = .quiescent then cancelResume s else Machine.enterQuiescent s) := by
    split
    · exact cancelled
    · exact h.enterQuiescent
  cases m with
  | run | park => exact requested _ cancelled
  | quiescent | waking => exact quieted

/-- R73, R84: a TABLE_WRITE of the length its N and its fill require keeps STAGED in shape, and is refused while a commit
is pending. -/
theorem TablesSound.actTableWrite {s : State} (h : TablesSound s) {start : Half} {n fill : Byte} {values : List Half}
    (hd : (Request.tableWrite start n fill values).Sized) : TablesSound (actTableWrite start n fill values s).1 := by
  by_cases hc : s.tables.commit.isSome = true
  · rw [actTableWrite_busy hc]
    exact h
  · have hn : s.tables.commit = none := by simpa using hc
    by_cases hf : TableWriteFits start n fill values
    · rw [actTableWrite_done hn hf]
      obtain ⟨one, all⟩ := hd
      have zero : ¬fill = 1 → fill = 0 := fun hne => by
        have := hf.fill
        bv_omega
      have length : (writtenEntries (decide (fill = 1)) n.toNat values).length = n.toNat + 1 :=
        writtenEntries_length fun hne => all (zero (of_decide_eq_false hne))
      have last := hf.last
      refine ⟨h.active, BankShape.writeEntries h.staged ?_ (writtenEntries_range
        (fun he => one (of_decide_eq_true he)) hf.values), h.ordered, fun hp => absurd hp hc⟩
      simp only [Config.tableLength]
      omega
    · rw [actTableWrite_range hn hf]
      exact h

/-- R75: ACTIVE copied into STAGED. -/
theorem TablesSound.actTableCopy {s : State} (h : TablesSound s) : TablesSound (actTableCopy s).1 := by
  unfold Machine.actTableCopy
  split
  · exact h
  · exact ⟨h.active, h.active, h.ordered, fun _ => h.ordered⟩

/-- R77, R78, R79: STAGED is exchanged, or awaits the exchange, only where it never rises. -/
theorem TablesSound.actTableCommit {s : State} (h : TablesSound s) (tag : Byte) :
    TablesSound (actTableCommit tag s).1 := by
  unfold Machine.actTableCommit
  split
  · exact h
  · next hc =>
    split
    · exact ⟨h.active, h.staged, h.ordered, h.checked⟩
    · next order =>
      split
      · exact ⟨h.active, h.staged, h.ordered, fun _ => order⟩
      · exact ⟨h.staged, h.active, order, fun hp => absurd hp hc⟩

/-- R85, R185: an ENGINE reset leaves both banks, and no commit. -/
theorem TablesSound.engineReset {s : State} (h : TablesSound s) : TablesSound (engineReset s) := by
  obtain ⟨tables, processor, records, valid, dip, ready, hs, ⟨active, staged, commit, -, -⟩, -⟩ := engineReset_eq s
  rw [hs]
  refine ⟨active ▸ h.active, staged ▸ h.staged, active ▸ h.ordered, fun hp => ?_⟩
  rw [commit] at hp
  cases hp

theorem TablesSound.actCounters {s : State} (h : TablesSound s) (group clear : Byte) :
    TablesSound (actCounters group clear s).1 := by
  have cleared : ∀ g, TablesSound (clearCounters s g) := fun g => by
    cases g with
    | tables => exact ⟨h.active, h.staged, h.ordered, h.checked⟩
    | _ => exact h
  unfold Machine.actCounters
  split
  · split
    · exact cleared _
    · exact h
  · exact h

theorem TablesSound.actSet {s : State} (h : TablesSound s) (ident : Byte) (value : Word) :
    TablesSound (actSet ident value s).1 := by
  have written : ∀ p x, TablesSound (Machine.afterWrite p (s.setParams x)) := fun p x =>
    TablesSound.afterWrite (h.of_tables (State.setParams_tables s x)) p
  unfold Machine.actSet
  split
  · exact h
  · split
    · exact h
    · split
      · exact written _ _
      · exact h

theorem actMapSet_tables (quantity source channel : Byte) (s : State) :
    (actMapSet quantity source channel s).1.tables = s.tables := by
  unfold actMapSet
  split
  · rfl
  · split <;> simp

theorem TablesSound.actSourceSet {s : State} (h : TablesSound s) (source enabled policy hold miss : Byte) :
    TablesSound (actSourceSet source enabled policy hold miss s).1 := by
  have written : ∀ n r, TablesSound (completeSets (s.setSource n r)) := fun n r =>
    h.of_tables ((completeSets_tables _).trans (State.setAsm_tables s _))
  unfold Machine.actSourceSet
  split
  · exact h
  · split
    · exact (written _ _).releaseCheck
    · exact h

theorem TablesSound.actAuxSet {s : State} (h : TablesSound s)
    (aux polarity kind debounce actions delay width : Byte) :
    TablesSound (actAuxSet aux polarity kind debounce actions delay width s).1 := by
  have written : ∀ n r, TablesSound (s.setAux n r) := fun n r => h.of_tables (State.setAux_tables s n r)
  unfold Machine.actAuxSet
  split
  · exact h
  · split
    · exact (written _ _).evalBase
    · exact h

theorem actBankSet_tables (bank present : Byte) (susceptance : Half) (state : Byte) (s : State) :
    (actBankSet bank present susceptance state s).1.tables = s.tables := by
  have record : ∀ n st x, (setBankRecord n st x s).1.tables = s.tables := fun n _ _ => writeBank_tables n _ s
  unfold actBankSet
  split
  · rfl
  · split
    · split
      · rfl
      · exact record _ _ _
    · split
      · split
        · rfl
        · split
          · rfl
          · exact record _ _ _
      · rfl
    · rfl

theorem TablesSound.actBankForce {s : State} (h : TablesSound s) (bank action : Byte) :
    TablesSound (actBankForce bank action s).1 := by
  have forced : ∀ n a f, TablesSound ((Machine.placeBankOrder n a s).countBanks f) := fun n a f =>
    (h.placeBankOrder n a).of_tables (State.setBanks_tables _ _)
  unfold Machine.actBankForce
  split
  · split
    · exact h
    · split
      · exact h
      · exact forced _ _ _
  · exact h

theorem actTableRead_tables (bank : Byte) (start : Half) (n : Byte) (s : State) :
    (actTableRead bank start n s).1.tables = s.tables := by
  unfold actTableRead
  split
  · split <;> rfl
  · rfl

theorem TablesSound.actMode {s : State} (h : TablesSound s) (operand : Byte) :
    TablesSound (actMode operand s).1 := by
  unfold Machine.actMode
  split
  · exact h
  · split
    · exact h
    · exact h.takeMode _

theorem TablesSound.actBlock {s : State} (h : TablesSound s) (operand : Byte) :
    TablesSound (actBlock operand s).1 := by
  have directed : ∀ x, TablesSound (s.setControl x) := fun x => h.of_tables (State.setControl_tables s x)
  unfold Machine.actBlock
  split
  · exact h
  · exact (directed _).evalBase

theorem TablesSound.actTripClear {s : State} (h : TablesSound s) : TablesSound (actTripClear s).1 :=
  TablesSound.evalBase (h.of_tables (by simp [zeroRuns, zeroGaps, clearLatches]))

theorem actCaptureSet_tables (mode : Byte) (post : Half) (s : State) :
    (actCaptureSet mode post s).1.tables = s.tables := by
  unfold actCaptureSet
  split
  · split <;> simp
  · rfl

theorem actCaptureTrigger_tables (s : State) : (actCaptureTrigger s).1.tables = s.tables := by
  unfold actCaptureTrigger
  split
  · exact trigger_tables _ s
  · rfl

theorem actCaptureRead_tables (n : Byte) (s : State) : (actCaptureRead n s).1.tables = s.tables := by
  unfold actCaptureRead
  split <;> simp

theorem actNoticeSet_tables (source enable level : Byte) (s : State) :
    (actNoticeSet source enable level s).1.tables = s.tables := by
  unfold actNoticeSet
  split <;> simp

theorem actNoticeClear_tables (sources : Half) (s : State) : (actNoticeClear sources s).1.tables = s.tables := by
  unfold actNoticeClear
  split <;> simp

theorem TablesSound.actReset {s : State} (h : TablesSound s) (scope : Byte) : TablesSound (actReset scope s).1 := by
  unfold Machine.actReset
  split
  · exact h
  · exact h.engineReset.of_tables (moment_tables _)
  · exact h.of_tables (State.setProcessor_tables s _)

/-- R71, R72, R84: every directive's action keeps the Table Store sound. -/
theorem TablesSound.act {d : Directive} (hd : d.request.Sized) {s : State} (h : TablesSound s) :
    TablesSound (act d s).1 := by
  unfold Machine.act
  split
  case h_3 => exact h.actCounters _ _
  case h_5 =>
    unfold actGet
    split <;> exact h
  case h_6 => exact h.actSet _ _
  case h_7 => exact h.of_tables (actMapSet_tables _ _ _ s)
  case h_8 => exact h.actSourceSet _ _ _ _ _
  case h_9 => exact h.actAuxSet _ _ _ _ _ _ _
  case h_10 => exact h.of_tables (actBankSet_tables _ _ _ _ s)
  case h_11 => exact h.actBankForce _ _
  case h_12 start n fill values hr => exact h.actTableWrite (hr ▸ hd)
  case h_13 => exact h.of_tables (actTableRead_tables _ _ _ s)
  case h_14 => exact h.actTableCopy
  case h_15 => exact h.actTableCommit _
  case h_16 => exact h.actMode _
  case h_17 => exact h.actBlock _
  case h_18 => exact h.actTripClear
  case h_19 => exact h.of_tables (actCaptureSet_tables _ _ s)
  case h_20 => exact h.of_tables (actCaptureTrigger_tables s)
  case h_21 => exact h.of_tables (actCaptureRead_tables _ s)
  case h_23 => exact h.of_tables (actNoticeSet_tables _ _ _ s)
  case h_24 => exact h.of_tables (actNoticeClear_tables _ s)
  case h_25 => exact h.actReset _
  case h_22 | h_26 | h_27 =>
    exact h.of_tables (by simp [actCaptureFlush, actUnknownKind, actMalformed])
  all_goals exact h

/-! ## A decoded TABLE_WRITE carries the values it needs (R172; log 20) -/

theorem halves_length : ∀ l : List Byte, (halves l).length = l.length / 2
  | [] => rfl
  | [_] => by simp [halves]
  | a :: b :: rest => by
    simp only [halves, List.length_cons, halves_length rest]
    omega

theorem tableWriteRequest_sized (start : Half) (n fill : Byte) {rest : Nat} {values : List Half}
    (h : values.length = rest / 2) : (tableWriteRequest start n fill rest values).Sized := by
  unfold tableWriteRequest
  split
  · next ok =>
    refine ⟨fun hf => ?_, fun hf => ?_⟩
    · rw [hf, tableWriteLengthOk_one, decide_eq_true_eq] at ok
      omega
    · rw [hf, tableWriteLengthOk_zero, decide_eq_true_eq] at ok
      omega
  · trivial

theorem decodeRequest_sized (kind : Byte) (ops : List Byte) : (decodeRequest kind ops).Sized := by
  unfold decodeRequest
  split
  case h_12 =>
    unfold tableWriteOperands
    split
    · exact tableWriteRequest_sized _ _ _ (halves_length _)
    · trivial
  case h_26 => trivial
  all_goals
    simp only [noOperands, oneOperand, twoOperands, threeOperands, fourOperands, fiveOperands, sevenOperands]
    split <;> trivial

/-! ## The invariant and the station's side of a step -/

theorem TablesInv.sound {s : State} (h : TablesInv s) : TablesSound s := ⟨h.active, h.staged, h.ordered, h.checked⟩

theorem TablesSound.inv {s : State} (h : TablesSound s) (waiting : ∀ d ∈ s.processor.queue, d.request.Sized) :
    TablesInv s := ⟨h.active, h.staged, h.ordered, h.checked, waiting⟩

/-- A sound Table Store beside the directives that waited before. -/
theorem TablesInv.kept {s t : State} (h : TablesInv s) (ht : TablesSound t)
    (hq : t.processor.queue = s.processor.queue) : TablesInv t := ht.inv (hq ▸ h.waiting)

theorem tablesInv_powerOn (straps : Straps) (rstn : Bool) (p : List Instr) (k : Nat) :
    TablesInv (State.powerOn straps rstn p k) := (tablesSound_powerOn straps rstn p k).inv fun _ hd => nomatch hd

theorem tablesSound_stationFree : StationFree TablesSound :=
  ⟨fun _ _ h => h, fun _ _ h => h, fun _ _ h => h, fun _ _ h => h⟩

theorem TablesInv.settled {u t : State} (h : TablesInv u) (ht : Settled u t) : TablesInv t :=
  h.kept (tablesSound_stationFree.settled ht h.sound) ht.queue

theorem TablesInv.replyTo {u : State} (h : TablesInv u) (d : Directive) (code : ResultCode) (data : ReplyData) :
    TablesInv (replyTo d code data u) := by
  have answered : TablesInv (u.answered d.tag d.kind code data) := h.kept h.sound rfl
  refine TablesInv.settled ?_ (replyTo_settled d code data u)
  split
  · exact answered
  · exact answered.kept answered.sound rfl

theorem TablesInv.takeHead {s : State} (h : TablesInv s) : TablesInv (takeHead s) := by
  unfold Machine.takeHead
  split
  · exact h
  · next d rest hq =>
    have sized : d.request.Sized := h.waiting d (hq ▸ List.mem_cons_self)
    have taken : ∀ c, TablesInv (s.setProcessor { s.processor with queue := rest, counters := c }) := fun _ =>
      TablesSound.inv h.sound fun e he => h.waiting e (hq ▸ List.mem_cons_of_mem d he)
    have acted : ∀ c, TablesInv (act d (s.setProcessor { s.processor with queue := rest, counters := c })).1 :=
      fun c => (taken c).kept ((taken c).sound.act sized) (act_queue d _)
    dsimp only
    split
    · exact acted _
    · exact (acted _).replyTo _ _ _

theorem TablesInv.takeLoop : ∀ (n : Nat) {s : State}, TablesInv s → TablesInv (takeLoop n s)
  | 0, _, h => h
  | n + 1, s, h => by
    unfold Machine.takeLoop
    split
    · exact TablesInv.takeLoop n h.takeHead
    · exact h

theorem TablesInv.settle {s : State} (h : TablesInv s) : TablesInv (settle s) :=
  TablesInv.takeLoop _ (h.settled (offer_candidates s))

/-- R170: a directive whose TABLE_WRITE carries what it needs may join the queue. -/
theorem TablesInv.admission {s : State} (h : TablesInv s) (unit : Byte) {d : Directive} (hd : d.request.Sized) :
    TablesInv (admission unit d s) := by
  unfold Machine.admission
  dsimp only
  split
  · exact h.kept h.sound rfl
  · split
    · refine TablesSound.inv h.sound fun e he => ?_
      rcases List.mem_append.mp he with he | he
      · exact h.waiting e he
      · rw [List.mem_singleton.mp he]
        exact hd
    · split <;> exact h.kept h.sound rfl

theorem TablesInv.receiveM {s : State} (h : TablesInv s) {f : State → State} (length : Nat)
    (hf : ∀ u, TablesInv u → TablesInv (f u)) : TablesInv (receiveM length f s) := by
  have counted : ∀ c, TablesInv (s.countM c) := fun _ => h.kept h.sound rfl
  unfold Machine.receiveM
  split
  · exact counted _
  · exact hf _ (counted _)

theorem TablesInv.directiveArrives {s : State} (h : TablesInv s) (unit tag kind : Byte) (length : Nat) {r : Request}
    (hr : r.Sized) : TablesInv (directiveArrives unit tag kind length r s) :=
  TablesInv.settle (h.receiveM length fun _ hu => hu.admission unit hr)

theorem TablesInv.completeM {s : State} (h : TablesInv s) : TablesInv (completeM s) := by
  have chosen : ∀ u, TablesInv u → TablesInv (chooseNext u) := fun u hu => by
    refine hu.kept ?_ (chooseNext_queue u)
    unfold chooseNext
    split
    · exact hu.sound
    · split
      · split <;> exact hu.sound
      · exact tablesSound_stationFree.beginReply hu.sound
  unfold Machine.completeM
  split
  · exact h
  · dsimp only
    split
    · exact tablesInv_powerOn _ _ _ _
    · exact TablesInv.takeLoop _ (chosen _ (h.kept h.sound rfl))

theorem TablesInv.takeSample {s : State} (h : TablesInv s) (f : SampleFrame) : TablesInv (takeSample f s) :=
  h.kept (h.sound.takeSample f) (takeSample_queue f s)

theorem TablesInv.receiveReport {s : State} (h : TablesInv s) (r : ReportFrame) : TablesInv (receiveReport r s) :=
  h.kept (h.sound.receiveReport r) (receiveReport_queue r s)

theorem TablesInv.receiveBankStatus {s : State} (h : TablesInv s) (bank status code : Byte) :
    TablesInv (receiveBankStatus bank status code s) :=
  h.kept (h.sound.of_tables (receiveBankStatus_tables bank status code s)) (receiveBankStatus_queue bank status code s)

theorem TablesInv.expireSilence {s : State} (h : TablesInv s) : TablesInv (expireSilence s) :=
  h.kept h.sound.expireSilence (expireSilence_queue s)

theorem TablesInv.receiveBytes {s : State} (h : TablesInv s) (port : Port) (bytes : List Byte) :
    TablesInv (receiveBytes port bytes s) := by
  have counted : ∀ v, TablesInv (s.countPort port fun c => c.count v) := fun v => by
    cases port <;> exact h.kept h.sound rfl
  unfold Machine.receiveBytes
  dsimp only
  split
  · unfold handOn
    split
    · exact (counted _).takeSample _
    · exact (counted _).admission _ (decodeRequest_sized _ _)
    · exact (counted _).receiveReport _
    · exact (counted _).receiveBankStatus _ _ _
    · exact counted _
  · exact counted _

/-! ## A command, a step -/

/-- Every command keeps the firing tables. -/
theorem TablesInv.exec {i : Instr} {s t : State} (h : TablesInv s) (ht : exec i s = .next t) : TablesInv t := by
  have directive : ∀ {unit tag kind : Byte} {length : Nat} {r : Request}, r.Sized →
      whileReleased s (Machine.directiveArrives unit tag kind length r) = .next t → TablesInv t :=
    fun hr => whileReleased_keeps (fun hs => TablesInv.directiveArrives hs _ _ _ _ hr) h
  have settled : ∀ {f : State → State}, TablesInv (f s) →
      whileReleased s (fun s => Machine.settle (f s)) = .next t → TablesInv t :=
    fun hf => whileReleased_keeps (fun _ => TablesInv.settle hf) h
  have receivedV : TablesInv s.receivedV := h.kept h.sound rfl
  cases i with
  | sampleFrame f => exact settled (h.receiveM _ fun _ hu => hu.takeSample f) ht
  | localSamplePeriod =>
    refine settled (f := endSamplePeriod) ?_ ht
    unfold endSamplePeriod
    split
    · exact h
    · split
      · exact h.expireSilence
      · exact h.kept h.sound rfl
  | silenceTimerExpiry =>
    refine settled (f := silenceExpires) ?_ ht
    unfold silenceExpires
    split
    · exact h
    · exact h.expireSilence
  | localTick => exact settled (h.kept h.sound.localTick (localTick_queue s)) ht
  | confirmationTimerExpiry =>
    exact settled (f := Index4.all.foldl confirmationExpiresAt)
      (h.kept (h.sound.of_tables (foldl_same State.tables _ confirmationExpiresAt_tables _ s))
        (foldl_same (fun u => u.processor.queue) _ confirmationExpiresAt_queue _ s)) ht
  | dischargeTimerExpiry n =>
    exact settled (h.kept (h.sound.of_tables (dischargeExpires_tables n s)) (dischargeExpires_queue n s)) ht
  | dwellTimerExpiry => exact settled (f := expireDwell) (h.kept h.sound rfl) ht
  | dipToleranceExpiry =>
    refine settled (f := dipToleranceExpires) ?_ ht
    unfold dipToleranceExpires
    split
    · exact h.kept (h.sound.of_tables (interrupt_tables _ s)) (queue_of_outer (outer_dipInterruption s))
    · exact h
  | blankingDelayExpiry =>
    refine settled (f := blankingDelayExpires) ?_ ht
    unfold blankingDelayExpires
    split
    · exact h.kept (h.sound.activateBlanking _) (queue_of_outer (outer_activateBlanking _ s))
    · exact h
  | blankingPulseEnd =>
    refine settled (f := blankingPulseEnds) ?_ ht
    unfold blankingPulseEnds
    split
    · exact h.kept h.sound.endBlanking (queue_of_outer (outer_endBlanking s))
    · exact h
  | valveReport r => exact settled (f := fun s => Machine.receiveReport r s.receivedV) (receivedV.receiveReport r) ht
  | bankStatusFrame bank status code =>
    exact settled (f := fun s => Machine.receiveBankStatus bank status code s.receivedV)
      (receivedV.receiveBankStatus bank status code) ht
  | vTransmitCompletion => exact settled (h.kept h.sound.completeV (completeV_queue s)) ht
  | directiveFrame unit tag kind ops => exact directive (decodeRequest_sized kind ops) ht
  | frameRejected port bytes => exact settled (h.receiveBytes port bytes) ht
  | mTransmitCompletion => exact whileReleased_keeps TablesInv.completeM h ht
  | tableWrite unit tag start n fill values =>
    exact directive (tableWriteRequest_sized start n fill (Nat.mul_div_cancel_left _ Nat.two_pos).symm) ht
  | powerOnReset =>
    cases ht
    exact tablesInv_powerOn _ _ _ _
  | rstnRelease fsel unit boot =>
    change execRstnRelease fsel unit boot s = .next t at ht
    unfold execRstnRelease at ht
    split at ht <;> cases ht
    · exact h
    · exact tablesInv_powerOn _ _ _ _
  | _ =>
    refine directive ?_ ht
    trivial

theorem TablesInv.step {s t : State} (h : TablesInv s) (ht : step s = .next t) : TablesInv t := by
  unfold Machine.step at ht
  split at ht
  · cases ht
    exact h
  · next c rest _ =>
    have waiting : TablesInv { s with pending := rest } := h.kept h.sound rfl
    exact waiting.exec ht

end Sys2Proof.Machine

/-- Settles O52: every command keeps the firing tables and the TABLE_WRITEs that wait, the directives it takes
included. -/
theorem stepKeepsTables : Obligations.StepKeepsTables := by
  unfold Obligations.StepKeepsTables
  intro s t hi ht
  exact hi.step ht
end

section
/-! The power-on state meets every invariant, whatever the straps (R71, R72, R171, R173, R188). -/

namespace Sys2Proof.Machine

section
variable (straps : Straps) (rstn : Bool) (p : List Instr) (k : Nat)

/-- R187, R193: nothing is held, nothing waits and no notice stands. -/
theorem stationInv_powerOn : StationInv (State.powerOn straps rstn p k) where
  places := Nat.zero_le Config.replyListLimit
  queue := Nat.zero_le Config.directiveQueueLimit
  sent n h := by cases n <;> cases h
  rest := .inr ⟨rfl, rfl⟩

theorem sendInv_powerOn : SendInv (State.powerOn straps rstn p k) where
  limit := Nat.zero_le Config.sendQueueLimit
  working _ := rfl

/-- R156: release is HELD, and neither boot mode is WAKING. -/
theorem modeInv_powerOn : ModeInv (State.powerOn straps rstn p k) where
  held h := absurd rfl h
  target := by
    have mode : straps.boot.mode ≠ .waking := by cases straps.boot <;> exact fun h => nomatch h
    exact ⟨fun h => absurd h mode, fun h => nomatch h⟩

/-- R129: every bank is ABSENT. -/
theorem oneTransitional_powerOn : OneTransitional (State.powerOn straps rstn p k) := by
  intro n _ h
  cases n <;> cases h

theorem captureInv_powerOn : CaptureInv (State.powerOn straps rstn p k) where
  limit := Nat.zero_le Config.captureLimit
  off := ⟨fun _ => rfl, fun _ => rfl⟩
  wanted h := nomatch h

/-- R176: every default lies in its range. -/
theorem paramsInv_powerOn : ParamsInv (State.powerOn straps rstn p k) where
  range q := by
    cases q with
    | loadGain b | load2Gain b | bias b | angleOffset b => cases b <;> rfl
    | _ => rfl
  dip := Nat.le_refl 0

/-- R109: every outstanding list is empty. -/
theorem agesInv_powerOn : AgesInv (State.powerOn straps rstn p k) := by
  intro b e h
  cases b <;> cases h

end

end Sys2Proof.Machine

open Sys2Proof Sys2Proof.Machine

/-- Settles O51: invariant by invariant, each from the power-on value of its block. -/
theorem resetMeetsInvariants : Obligations.ResetMeetsInvariants := by
  unfold Obligations.ResetMeetsInvariants
  intro straps rstn p k s
  obtain ⟨assembly, windows⟩ := powerOn_sound straps rstn p k
  exact ⟨tablesInv_powerOn straps rstn p k, stationInv_powerOn straps rstn p k, sendInv_powerOn straps rstn p k,
    modeInv_powerOn straps rstn p k, blockedInv_powerOn straps rstn p k, oneTransitional_powerOn straps rstn p k,
    captureInv_powerOn straps rstn p k, windows, assembly, paramsInv_powerOn straps rstn p k,
    agesInv_powerOn straps rstn p k⟩
end

section
/-! What the limit of the send queue and the ages of outstanding orders rest on, and which operations leave it (R88,
R93, R95). -/

namespace Sys2Proof.Machine

/-! ## The send path -/

/-- The send path: how many frames wait, whether the V transmitter is idle, the outstanding lists and the half-cycle
numbers their ages are counted from. -/
structure SendPath where
  waiting : Nat
  idle : Bool
  outstanding : Branch → List Outstanding
  number : Branch → HalfCycle

def State.sendPath (s : State) : SendPath :=
  ⟨s.exchange.queue.length, s.exchange.transmitter.isNone, fun b => (s.exchangeRec b).outstanding,
    fun b => (s.trackers.get b).h⟩

/-- R88, R93: the queue keeps its limit, and nothing waits while the transmitter is idle. -/
structure SendPath.Flows (p : SendPath) : Prop where
  limit : p.waiting ≤ Config.sendQueueLimit
  working : p.idle = true → p.waiting = 0

/-- R95: the entries of a branch are at most three half-cycles old. -/
def SendPath.Young (p : SendPath) (b : Branch) : Prop := ∀ e ∈ p.outstanding b, orderAge (p.number b) e.h ≤ 3

theorem sendInv_iff (s : State) : SendInv s ↔ s.sendPath.Flows :=
  ⟨fun h => ⟨h.limit, fun hi => List.length_eq_zero_iff.mpr (h.working (Option.isNone_iff_eq_none.mp hi))⟩,
    fun h => ⟨h.limit, fun hi => List.length_eq_zero_iff.mp (h.working (Option.isNone_iff_eq_none.mpr hi))⟩⟩

theorem agesInv_iff (s : State) : AgesInv s ↔ ∀ b, s.sendPath.Young b := Iff.rfl

theorem sendPath_congr {s t : State} (queue : t.exchange.queue.length = s.exchange.queue.length)
    (transmitter : t.exchange.transmitter = s.exchange.transmitter)
    (branches : t.exchange.branches = s.exchange.branches) (trackers : t.trackers = s.trackers) :
    t.sendPath = s.sendPath := by
  unfold State.sendPath State.exchangeRec
  rw [queue, transmitter, branches, trackers]

/-- R92, R150: an evaluation of the base conditions, and a departure from RELEASED, leave the send path. -/
theorem ReleaseOnly.sendPath {s t : State} (h : ReleaseOnly s t) : t.sendPath = s.sendPath :=
  sendPath_congr h.length h.transmitter h.branches h.outside.trackers

/-! ## Field writes -/

@[simp] theorem sendPath_free (s : State) (k : Nat) : ({ s with freeCount := k } : State).sendPath = s.sendPath := rfl
@[simp] theorem sendPath_setParams (s : State) (x : Params) : (s.setParams x).sendPath = s.sendPath := rfl
@[simp] theorem sendPath_setPorts (s : State) (x : Ports) : (s.setPorts x).sendPath = s.sendPath := rfl
@[simp] theorem sendPath_setAsm (s : State) (x : Assembler) : (s.setAsm x).sendPath = s.sendPath := rfl
@[simp] theorem sendPath_setDemand (s : State) (x : PerBranch DemandRec) : (s.setDemand x).sendPath = s.sendPath := rfl
@[simp] theorem sendPath_setTables (s : State) (x : TableStore) : (s.setTables x).sendPath = s.sendPath := rfl
@[simp] theorem sendPath_setBanks (s : State) (x : BankController) : (s.setBanks x).sendPath = s.sendPath := rfl
@[simp] theorem sendPath_setControl (s : State) (x : Controller) : (s.setControl x).sendPath = s.sendPath := rfl
@[simp] theorem sendPath_setCapture (s : State) (x : Capture) : (s.setCapture x).sendPath = s.sendPath := rfl
@[simp] theorem sendPath_setProcessor (s : State) (x : Processor) : (s.setProcessor x).sendPath = s.sendPath := rfl
@[simp] theorem sendPath_setNotices (s : State) (x : NoticeUnit) : (s.setNotices x).sendPath = s.sendPath := rfl
@[simp] theorem sendPath_setDemandRec (s : State) (b : Branch) (x : DemandRec) :
    (s.setDemandRec b x).sendPath = s.sendPath := rfl
@[simp] theorem sendPath_setSource (s : State) (n : Index4) (x : SourceRec) :
    (s.setSource n x).sendPath = s.sendPath := rfl
@[simp] theorem sendPath_setBankRec (s : State) (n : Index4) (x : BankRec) :
    (s.setBankRec n x).sendPath = s.sendPath := rfl
@[simp] theorem sendPath_setAux (s : State) (n : Index4) (x : AuxRec) : (s.setAux n x).sendPath = s.sendPath := rfl
@[simp] theorem sendPath_countControl (s : State) (f : ControlCounters → ControlCounters) :
    (s.countControl f).sendPath = s.sendPath := rfl
@[simp] theorem sendPath_raise (n : NoticeSource) (s : State) : (raise n s).sendPath = s.sendPath := rfl

@[simp] theorem sendPath_moment (s : State) : (moment s).sendPath = s.sendPath :=
  sendPath_congr (by simp) (by simp) (by simp) (by simp)

@[simp] theorem sendPath_momentAfter (l : List NoticeSource) (s : State) : (momentAfter l s).sendPath = s.sendPath :=
  sendPath_congr (by simp) (by simp) (by simp) (by simp)

@[simp] theorem sendPath_momentAfterRelease (s : State) : (momentAfterRelease s).sendPath = s.sendPath :=
  sendPath_congr (by simp) (by simp) (by simp) (by simp)

/-- Branch records written with the outstanding lists as they were. -/
theorem sendPath_setBranches {s : State} {x : PerBranch ExchangeRec} {c : QueueCounters}
    (h : ∀ b, (x.get b).outstanding = (s.exchangeRec b).outstanding) :
    (s.setExchange { s.exchange with branches := x, counters := c }).sendPath = s.sendPath := by
  have lists : (fun b => (x.get b).outstanding) = fun b => (s.exchangeRec b).outstanding := funext h
  change (⟨_, _, fun b => (x.get b).outstanding, _⟩ : SendPath) = _
  rw [lists]
  rfl

/-- A branch's record written with the outstanding list as it was. -/
theorem sendPath_setExchangeRec {s : State} {b : Branch} {r : ExchangeRec}
    (h : r.outstanding = (s.exchangeRec b).outstanding) : (s.setExchangeRec b r).sendPath = s.sendPath :=
  sendPath_setBranches fun c => by
    rw [PerBranch.get_set]
    split
    · next hc => rw [h, hc]
    · rfl

@[simp] theorem sendPath_countExchange (s : State) (b : Branch) (f : ExchangeCounters → ExchangeCounters) :
    (s.countExchange b f).sendPath = s.sendPath := sendPath_setExchangeRec rfl

/-- Trackers written with the half-cycle numbers as they were. -/
theorem sendPath_setTrackers {s : State} {x : PerBranch Tracker} (h : ∀ b, (x.get b).h = (s.trackers.get b).h) :
    (s.setTrackers x).sendPath = s.sendPath := by
  have numbers : (fun b => (x.get b).h) = fun b => (s.trackers.get b).h := funext h
  change (⟨_, _, _, fun b => (x.get b).h⟩ : SendPath) = _
  rw [numbers]
  rfl

theorem sendPath_setTracker {s : State} {b : Branch} {t : Tracker} (h : t.h = (s.trackers.get b).h) :
    (s.setTracker b t).sendPath = s.sendPath :=
  sendPath_setTrackers fun c => by
    rw [PerBranch.get_set]
    split
    · next hc => rw [h, hc]
    · rfl

/-! ## Release, modes, supply and trips -/

@[simp] theorem sendPath_evalBase (s : State) : (evalBase s).sendPath = s.sendPath := (evalBase_only s).sendPath

@[simp] theorem sendPath_gainRelease (s : State) : (gainRelease s).sendPath = s.sendPath := rfl

@[simp] theorem sendPath_handReady (v : Bool) (s : State) : (handReady v s).sendPath = s.sendPath := by
  unfold handReady
  dsimp only
  split
  · rfl
  · exact (releaseDrop_only _).sendPath
  · rfl

@[simp] theorem sendPath_checkReady (before : Bool) (s : State) : (checkReady before s).sendPath = s.sendPath := by
  unfold checkReady
  split
  · rfl
  · exact sendPath_handReady _ s

@[simp] theorem sendPath_changeMode (m : Mode) (t : Option Target) (s : State) :
    (changeMode m t s).sendPath = s.sendPath := by
  unfold changeMode
  split <;> rfl

@[simp] theorem sendPath_endWaking (s : State) : (endWaking s).sendPath = s.sendPath := by
  unfold endWaking
  split
  · rw [sendPath_evalBase, sendPath_changeMode]
  · rw [sendPath_evalBase, sendPath_changeMode]

@[simp] theorem sendPath_controlEvent (ev : CrossingEvent) (s : State) : (controlEvent ev s).sendPath = s.sendPath := by
  have waking : ∀ x, (countWaking x s).sendPath = s.sendPath := fun x => by
    unfold countWaking
    dsimp only
    split
    · rfl
    · split
      · exact sendPath_endWaking _
      · rfl
  have qualifying : (countQualifying s).sendPath = s.sendPath := by
    unfold countQualifying
    dsimp only
    split
    · split <;> rfl
    · rfl
  unfold controlEvent
  split
  · split
    · exact waking _
    · split
      · exact qualifying
      · rfl
  · rfl

@[simp] theorem sendPath_interrupt (f : ControlCounters → ControlCounters) (s : State) :
    (interrupt f s).sendPath = s.sendPath := rfl

@[simp] theorem sendPath_supplyReturns (s : State) : (supplyReturns s).sendPath = s.sendPath := by
  have recovered : ∀ t, (recover t).sendPath = t.sendPath := fun t => by
    unfold recover
    split
    · rfl
    · exact sendPath_changeMode _ _ _
  unfold supplyReturns
  rw [recovered]
  split <;> rfl

@[simp] theorem sendPath_dipBegins (s : State) : (dipBegins s).sendPath = s.sendPath := by
  unfold dipBegins
  split
  · split <;> rfl
  all_goals rfl

@[simp] theorem sendPath_dipEnds (s : State) : (dipEnds s).sendPath = s.sendPath := by
  unfold dipEnds
  split <;> rfl

@[simp] theorem sendPath_evalSupply (s : State) : (evalSupply s).sendPath = s.sendPath := by
  have returns : ∀ (c : Bool) (t : State), (if c then supplyReturns t else t).sendPath = t.sendPath := fun c t => by
    cases c
    · rfl
    · exact sendPath_supplyReturns t
  have evaluated : ∀ (c : Bool) (t : State),
      (evalBase (momentAfter [.mode] (if c then supplyReturns t else t))).sendPath = t.sendPath := fun c t => by
    rw [sendPath_evalBase, sendPath_momentAfter, returns]
  unfold evalSupply
  dsimp only
  split
  · rw [sendPath_dipBegins, sendPath_momentAfterRelease, evaluated, sendPath_setControl]
  · split
    · rw [sendPath_dipEnds, evaluated, sendPath_setControl]
    · rw [evaluated, sendPath_setControl]

@[simp] theorem sendPath_latchTrip (c : TripCause) (s : State) : (latchTrip c s).sendPath = s.sendPath :=
  sendPath_evalBase _

@[simp] theorem sendPath_reportLost (o : Order) (s : State) : (reportLost o s).sendPath = s.sendPath := by
  unfold reportLost
  split
  · rfl
  · split
    · exact sendPath_latchTrip _ _
    · rfl

@[simp] theorem sendPath_reportSent (o : Order) (s : State) : (reportSent o s).sendPath = s.sendPath := by
  unfold reportSent
  split <;> rfl

@[simp] theorem sendPath_withdrawn (o : Order) (s : State) : (withdrawn o s).sendPath = s.sendPath :=
  (sendPath_reportLost o _).trans (sendPath_countExchange s _ _)

@[simp] theorem sendPath_countTimeout (b : Branch) (s : State) : (countTimeout b s).sendPath = s.sendPath := by
  have timedOut : (s.setExchangeRec b (s.exchangeRec b).timedOut).sendPath = s.sendPath := sendPath_setExchangeRec rfl
  rw [countTimeout_eq]
  split
  · exact (sendPath_latchTrip _ _).trans timedOut
  · exact timedOut

@[simp] theorem sendPath_countTimeouts (b : Branch) : ∀ (n : Nat) (s : State),
    (countTimeouts b n s).sendPath = s.sendPath
  | 0, _ => rfl
  | n + 1, s => (sendPath_countTimeouts b n _).trans (sendPath_countTimeout b s)

/-! ## Capture, demand and tables at an event -/

@[simp] theorem sendPath_trigger (x : TriggerSource) (s : State) : (trigger x s).sendPath = s.sendPath := by
  unfold trigger
  dsimp only
  split
  · split <;> rfl
  all_goals rfl

@[simp] theorem sendPath_offerRecord (r : CaptureRecord) (s : State) : (offerRecord r s).sendPath = s.sendPath := by
  have post : ∀ c, (countPost c s).sendPath = s.sendPath := fun c => by
    unfold countPost
    split <;> rfl
  unfold offerRecord
  dsimp only
  split
  · rfl
  · rfl
  · split
    · rfl
    · split
      · exact post _
      · rfl
  · split
    · rfl
    · exact post _

@[simp] theorem sendPath_updateTrim (ev : CrossingEvent) (s : State) : (updateTrim ev s).sendPath = s.sendPath := by
  unfold updateTrim
  split <;> rfl

@[simp] theorem sendPath_tableEvent (ev : CrossingEvent) (s : State) : (tableEvent ev s).sendPath = s.sendPath := by
  unfold tableEvent completeCommit
  split
  · split <;> rfl
  · rfl

@[simp] theorem sendPath_trackerChanged (b : Branch) (s : State) : (trackerChanged b s).sendPath = s.sendPath := by
  unfold trackerChanged
  dsimp only
  split <;> rfl

/-- R39: a tracker sent to UNLOCKED keeps its half-cycle number. -/
@[simp] theorem sendPath_unlockTracker (b : Branch) (s : State) : (unlockTracker b s).sendPath = s.sendPath := by
  have written : (s.setTracker b (s.trackers.get b).unlock).sendPath = s.sendPath := sendPath_setTracker rfl
  unfold unlockTracker
  dsimp only
  split
  · exact written
  · exact (sendPath_trackerChanged b _).trans written

@[simp] theorem sendPath_unlockTrackers (s : State) : (unlockTrackers s).sendPath = s.sendPath := by
  simp [unlockTrackers]

/-! ## Aux inputs, the blanking pulse and the dip monitor -/

@[simp] theorem sendPath_activateBlanking (width : Nat) (s : State) :
    (activateBlanking width s).sendPath = s.sendPath :=
  sendPath_evalBase _

@[simp] theorem sendPath_endBlanking (s : State) : (endBlanking s).sendPath = s.sendPath := sendPath_evalBase _

@[simp] theorem sendPath_startBlanking (delay width : Nat) (s : State) :
    (startBlanking delay width s).sendPath = s.sendPath := by
  unfold startBlanking
  dsimp only
  split
  · split
    · exact sendPath_activateBlanking _ _
    · rfl
  all_goals rfl

@[simp] theorem sendPath_tickBlanking (s : State) : (tickBlanking s).sendPath = s.sendPath := by
  unfold tickBlanking
  dsimp only
  split
  · rfl
  · split
    · exact sendPath_activateBlanking _ s
    · rfl
  · split
    · exact sendPath_endBlanking s
    · rfl

@[simp] theorem sendPath_tickDip (s : State) : (tickDip s).sendPath = s.sendPath := by
  unfold tickDip
  split
  · split <;> rfl
  all_goals rfl

@[simp] theorem sendPath_actIf (has : Bool) {f : State → State} (s : State) (hf : (f s).sendPath = s.sendPath) :
    (actIf has f s).sendPath = s.sendPath := by
  unfold actIf
  split
  · exact hf
  · rfl

@[simp] theorem sendPath_wakeAction (s : State) : (wakeAction s).sendPath = s.sendPath := by
  unfold wakeAction
  split
  · exact sendPath_changeMode _ _ s
  · rfl

@[simp] theorem sendPath_blockAction (n : Index4) (s : State) : (blockAction n s).sendPath = s.sendPath := by
  unfold blockAction
  dsimp only
  rw [sendPath_evalBase]
  split <;> rfl

theorem sendPath_activeEdge (n : Index4) (s : State) : (activeEdge n s).sendPath = s.sendPath := by
  rw [activeEdge_eq rfl]
  unfold edgeActions
  have counted : (edgeCounted n s).sendPath = s.sendPath := rfl
  simp [counted]

theorem sendPath_inactiveEdge (n : Index4) (s : State) : (inactiveEdge n s).sendPath = s.sendPath := by
  simp [inactiveEdge]

@[simp] theorem sendPath_handAux (flags : Four Bool) (s : State) : (handAux flags s).sendPath = s.sendPath := by
  refine inTurn_same State.sendPath s _ _ (sendPath_free s) (fun f hf t => ?_) sendPath_moment
  obtain ⟨n, _, rfl⟩ := List.mem_map.mp hf
  dsimp only
  rw [debounceAux_reads rfl rfl]
  split
  · rfl
  · split
    · split
      · exact (sendPath_activeEdge n _).trans (sendPath_setAux t n _)
      · exact (sendPath_inactiveEdge n _).trans (sendPath_setAux t n _)
    · rfl

/-! ## Filter banks -/

@[simp] theorem sendPath_writeBank (n : Index4) (r : BankRec) (s : State) :
    (writeBank n r s).sendPath = s.sendPath := by
  unfold writeBank
  dsimp only
  split
  · rfl
  · split <;> rfl

@[simp] theorem sendPath_faultBank (n : Index4) (code : Option Byte) (f : BankCounters → BankCounters) (s : State) :
    (faultBank n code f s).sendPath = s.sendPath := sendPath_writeBank n _ s

@[simp] theorem sendPath_receiveBankStatus (bank status code : Byte) (s : State) :
    (receiveBankStatus bank status code s).sendPath = s.sendPath := by
  have taken : ∀ n st, (takeBankStatus n st code s).sendPath = s.sendPath := fun n st => by
    unfold takeBankStatus
    dsimp only
    split
    case h_1 | h_9 | h_10 | h_11 | h_12 | h_13 | h_14 => rfl
    case h_15 | h_16 | h_17 | h_18 | h_19 => exact sendPath_faultBank _ _ _ s
    all_goals exact sendPath_writeBank _ _ s
  unfold receiveBankStatus
  split
  · exact taken _ _
  · rfl

@[simp] theorem sendPath_tickConfirmation (s : State) (n : Index4) : (tickConfirmation s n).sendPath = s.sendPath := by
  unfold tickConfirmation
  dsimp only
  split
  · split
    · exact sendPath_faultBank _ _ _ s
    · rfl
  · rfl

@[simp] theorem sendPath_tickDischarge (s : State) (n : Index4) : (tickDischarge s n).sendPath = s.sendPath := by
  unfold tickDischarge
  dsimp only
  split
  · split
    · exact sendPath_writeBank _ _ s
    · rfl
  · rfl

@[simp] theorem sendPath_tickDwell (s : State) : (tickDwell s).sendPath = s.sendPath := by
  unfold tickDwell
  split
  · rfl
  · split <;> rfl

@[simp] theorem sendPath_confirmationExpiresAt (s : State) (n : Index4) :
    (confirmationExpiresAt s n).sendPath = s.sendPath := by
  unfold confirmationExpiresAt
  split
  · exact sendPath_faultBank _ _ _ s
  · rfl

@[simp] theorem sendPath_dischargeExpires (n : Index4) (s : State) : (dischargeExpires n s).sendPath = s.sendPath := by
  unfold dischargeExpires
  split
  · exact sendPath_writeBank _ _ s
  · rfl

end Sys2Proof.Machine
end

section
/-! How orders, completions, reports and crossing events keep the send queue's limit and the ages of outstanding orders
(R88 to R96). -/

namespace Sys2Proof.Machine

/-! ## What is kept -/

/-- The limit of the send queue is kept, and so are the ages of all outstanding orders. -/
structure SendKept (s t : State) : Prop where
  flows : s.sendPath.Flows → t.sendPath.Flows
  young : (∀ b, s.sendPath.Young b) → ∀ b, t.sendPath.Young b

theorem SendKept.refl (s : State) : SendKept s s := ⟨id, id⟩

theorem SendKept.trans {s t u : State} (h : SendKept s t) (k : SendKept t u) : SendKept s u :=
  ⟨k.flows ∘ h.flows, k.young ∘ h.young⟩

theorem SendKept.of_eq {s t : State} (e : t.sendPath = s.sendPath) : SendKept s t := by
  constructor <;> rw [e] <;> exact id

/-- The limit of the send queue is kept, no order joins an outstanding list, and no half-cycle number changes. -/
structure Forwards (s t : State) : Prop where
  flows : s.sendPath.Flows → t.sendPath.Flows
  number : t.sendPath.number = s.sendPath.number
  fewer : ∀ b, ∀ e ∈ t.sendPath.outstanding b, e ∈ s.sendPath.outstanding b

theorem Forwards.of_eq {s t : State} (e : t.sendPath = s.sendPath) : Forwards s t := by
  constructor <;> rw [e]
  · exact id
  · exact fun _ _ he => he

theorem Forwards.trans {s t u : State} (h : Forwards s t) (k : Forwards t u) : Forwards s u :=
  ⟨k.flows ∘ h.flows, k.number.trans h.number, fun b e he => h.fewer b e (k.fewer b e he)⟩

theorem Forwards.young {s t : State} (h : Forwards s t) {b : Branch} (hb : s.sendPath.Young b) : t.sendPath.Young b :=
  fun e he => by
    rw [h.number]
    exact hb e (h.fewer b e he)

theorem Forwards.kept {s t : State} (h : Forwards s t) : SendKept s t := ⟨h.flows, fun hb b => h.young (hb b)⟩

/-- What every one of the actions keeps, they keep in turn. -/
theorem sendKept_inTurn (s : State) (contended : Bool) {fs : List (State → State)}
    (hf : ∀ f ∈ fs, ∀ t, SendKept t (f t)) : SendKept s (s.inTurn contended fs) :=
  inTurn_keeps s contended fs (fun k => .of_eq (sendPath_free s k)) (fun f hm t h => h.trans (hf f hm t)) fun t h =>
    h.trans (.of_eq (sendPath_moment t))

/-! ## Frames that wait (R88 to R91, R93) -/

/-- R93: the transmitter begins the head of a queue within its limit, so that nothing waits while it is idle. -/
theorem beginV_flows {s : State} (h : s.sendPath.waiting ≤ Config.sendQueueLimit) : (beginV s).sendPath.Flows := by
  have hl : s.exchange.queue.length ≤ Config.sendQueueLimit := h
  rcases ht : s.exchange.transmitter with _ | x
  · rw [beginV_eq, Exchange.begun_idle ht]
    rcases hq : s.exchange.queue with _ | ⟨f, rest⟩
    · exact ⟨Nat.zero_le _, fun _ => rfl⟩
    · rw [hq] at hl
      exact ⟨(Nat.le_succ _).trans hl, nofun⟩
  · rw [beginV_eq, Exchange.begun_busy (by rw [ht]; rfl)]
    refine ⟨hl, fun hi => ?_⟩
    have hi : s.exchange.transmitter.isNone = true := hi
    rw [ht] at hi
    cases hi

theorem beginV_outstanding (s : State) : (beginV s).sendPath.outstanding = s.sendPath.outstanding :=
  funext fun b => congrArg (fun x => (PerBranch.get x b).outstanding) (beginV_branches s)

theorem beginV_number (s : State) : (beginV s).sendPath.number = s.sendPath.number :=
  funext fun b => congrArg (fun x => (PerBranch.get x b).h) (beginV_trackers s)

/-- R93: a state whose queue keeps its limit once the transmitter has begun. -/
theorem Forwards.beginV {s t : State} (limit : s.sendPath.Flows → t.sendPath.waiting ≤ Config.sendQueueLimit)
    (outstanding : t.sendPath.outstanding = s.sendPath.outstanding)
    (number : t.sendPath.number = s.sendPath.number) : Forwards s (beginV t) :=
  ⟨fun h => beginV_flows (limit h), (beginV_number t).trans number, fun b e he => by
    rwa [beginV_outstanding, outstanding] at he⟩

/-- R89, R90, R93: a frame joins a queue that has room. -/
theorem Forwards.pushFrame {s t : State} (h : Forwards s t) (f : VFrame)
    (room : s.sendPath.Flows → t.sendPath.waiting < Config.sendQueueLimit) : Forwards s (pushFrame f t) := by
  refine ⟨fun hs => beginV_flows ?_, (beginV_number _).trans h.number, fun b e he => ?_⟩
  · change (t.exchange.queue ++ [f]).length ≤ _
    rw [List.length_append]
    exact room hs
  · refine h.fewer b e ?_
    unfold Machine.pushFrame at he
    rw [beginV_outstanding] at he
    exact he

theorem forwards_handOrder (o : Order) (s : State) : Forwards s (handOrder o s) := by
  unfold handOrder
  split
  · next room => exact (Forwards.of_eq (sendPath_countExchange s _ _)).pushFrame _ fun _ => room
  · exact .of_eq ((sendPath_reportLost o _).trans (sendPath_countExchange s _ _))

/-- R90: a queue is one frame longer than without its newest order. -/
theorem newestOrder_length : ∀ {l : List VFrame} {o : Order} {rest : List VFrame}, newestOrder l = some (o, rest) →
    l.length = rest.length + 1
  | [], _, _, h => by cases h
  | g :: l, o, rest, h => by
    unfold newestOrder at h
    split at h
    · next p rest' hl =>
      cases h
      exact congrArg (· + 1) (newestOrder_length hl)
    · split at h
      · cases h
        rfl
      · cases h

/-- Frames that leave the queue. -/
theorem forwards_queue {s : State} {q : List VFrame} (h : q.length ≤ s.exchange.queue.length) :
    Forwards s (s.setExchange { s.exchange with queue := q }) :=
  ⟨fun ⟨limit, working⟩ => ⟨h.trans limit, fun hi => Nat.le_zero.mp (h.trans (working hi).le)⟩, rfl, fun _ _ he => he⟩

/-- R90: a bank order joins a queue with room, or one that an order has left. -/
theorem forwards_handBankOrder (n : Index4) (a : BankAction) (s : State) : Forwards s (handBankOrder n a s) := by
  have counted : ∀ {t : State}, Forwards s t → ∀ c : QueueCounters,
      Forwards s (t.setExchange { t.exchange with counters := c }) := fun ht _ => ht.trans (.of_eq rfl)
  unfold handBankOrder
  dsimp only
  split
  · next room => exact (counted (.of_eq rfl) _).pushFrame _ fun _ => room
  · split
    · exact .of_eq rfl
    · next o rest hn =>
      have length : s.exchange.queue.length = rest.length + 1 := newestOrder_length hn
      have lost : (reportLost o ((s.setExchange { s.exchange with queue := rest }).countExchange o.branch fun c =>
          { c with missed := bump c.missed })).sendPath = (s.setExchange { s.exchange with queue := rest }).sendPath :=
        (sendPath_reportLost o _).trans (sendPath_countExchange _ _ _)
      have displaced := (forwards_queue (s := s) (q := rest) (by omega)).trans (.of_eq lost)
      refine (counted displaced _).pushFrame _ fun hs => ?_
      have waiting : (reportLost o ((s.setExchange { s.exchange with queue := rest }).countExchange o.branch fun c =>
          { c with missed := bump c.missed })).sendPath.waiting = rest.length := congrArg SendPath.waiting lost
      have limit : s.exchange.queue.length ≤ Config.sendQueueLimit := hs.limit
      rw [length] at limit
      exact Nat.lt_of_le_of_lt waiting.le limit

theorem forwards_deadlineCheck (tag : Tag) (s : State) : Forwards s (deadlineCheck tag s) :=
  (forwards_queue (List.length_filter_le _ _)).trans
    (.of_eq (foldl_same State.sendPath _ (fun t o => sendPath_withdrawn o t) _ _))

theorem forwards_discardOrders (s : State) : Forwards s (discardOrders s) := forwards_queue (List.length_filter_le _ _)

/-! ## Outstanding lists (R94 to R96, R101, R107) -/

/-- A branch's outstanding list with entries taken out. -/
theorem forwards_setExchangeRec {s : State} {b : Branch} {r : ExchangeRec}
    (h : ∀ e ∈ r.outstanding, e ∈ (s.exchangeRec b).outstanding) : Forwards s (s.setExchangeRec b r) := by
  refine ⟨fun ⟨limit, working⟩ => ⟨limit, working⟩, rfl, fun c e he => ?_⟩
  have he : e ∈ ((s.exchange.branches.set b r).get c).outstanding := he
  rw [PerBranch.get_set] at he
  split at he
  · next hc => exact hc ▸ h e he
  · exact he

theorem forwards_ageOrders (ev : CrossingEvent) (s : State) : Forwards s (ageOrders ev s) := by
  rw [ageOrders_eq]
  have aged : Forwards s (s.withoutAged ev) := forwards_setExchangeRec fun e he => List.mem_of_mem_filter he
  exact aged.trans (.of_eq (sendPath_countTimeouts _ _ _))

/-- R96: what an event leaves in its branch's list is at most three half-cycles old at the event's number. -/
theorem ageOrders_young {ev : CrossingEvent} {s : State} (h : s.sendPath.number ev.branch = ev.h) :
    (ageOrders ev s).sendPath.Young ev.branch := by
  intro e he
  rw [(forwards_ageOrders ev s).number, h]
  rw [ageOrders_eq, sendPath_countTimeouts] at he
  have he : e ∈ ((s.withoutAged ev).exchangeRec ev.branch).outstanding := he
  rw [withoutAged_rec] at he
  simpa [orderAge] using List.of_mem_filter he

theorem forwards_matchReport (r : ValveReport) (s : State) : Forwards s (matchReport r s) := by
  have result : ∀ t x, (applyResult r t x).sendPath = t.sendPath := fun t x => by
    unfold applyResult
    dsimp only
    split
    · exact sendPath_setExchangeRec rfl
    · split
      · exact (sendPath_latchTrip _ _).trans (sendPath_setExchangeRec rfl)
      · exact sendPath_setExchangeRec rfl
    · exact (sendPath_latchTrip _ _).trans (sendPath_countExchange _ _ _)
  unfold matchReport
  dsimp only
  split
  · exact .of_eq (sendPath_countExchange s _ _)
  · exact (forwards_setExchangeRec fun e he => List.mem_of_mem_eraseP he).trans (.of_eq (result _ _))

theorem forwards_receiveReport (r : ReportFrame) (s : State) : Forwards s (receiveReport r s) := by
  unfold receiveReport
  split
  · exact .of_eq rfl
  · next v _ =>
    have ready : (setReadiness v.branch v.ready s).sendPath = s.sendPath :=
      (sendPath_checkReady _ _).trans (sendPath_setExchangeRec rfl)
    unfold takeReport
    split
    · exact .of_eq rfl
    · exact (Forwards.of_eq ((sendPath_moment _).trans ready)).trans (forwards_matchReport v _)

/-- R107: the exchange of a unit that enters QUIESCENT has no order queued or outstanding. -/
theorem forwards_exchangeQuiescent (s : State) : Forwards s (exchangeQuiescent s) := by
  refine Forwards.trans ?_ (.of_eq (sendPath_checkReady _ _))
  have fewer : (s.exchange.queue.filter VFrame.isBank).length ≤ s.exchange.queue.length := List.length_filter_le _ _
  refine ⟨fun ⟨limit, working⟩ => ⟨fewer.trans limit, fun hi => ?_⟩, rfl, fun b e he => ?_⟩
  · have idle : s.exchange.transmitter.isNone = true := by simpa [State.sendPath] using hi
    exact Nat.le_zero.mp (fewer.trans (working idle).le)
  · simp [State.sendPath, State.exchangeRec] at he

theorem sendKept_enterQuiescent (s : State) : SendKept s (enterQuiescent s) := by
  have quieted : ∀ c k, ({ (changeMode .quiescent none s).setControl c with freeCount := k } : State).sendPath =
      s.sendPath := fun _ _ => sendPath_changeMode _ _ s
  unfold enterQuiescent
  dsimp only
  refine SendKept.trans (ordered_keeps (P := SendKept s) _ _ _ (fun k => .of_eq (quieted _ k)) fun f hf t ht =>
    ht.trans ?_) (forwards_exchangeQuiescent _).kept
  simp only [List.mem_cons, List.not_mem_nil, or_false] at hf
  rcases hf with rfl | rfl
  · exact .of_eq (sendPath_evalBase t)
  · exact (forwards_discardOrders t).kept

/-! ## Transmit completion (R93, R94) -/

theorem sendPath_orderSent (o : Order) (s : State) : (orderSent o s).sendPath = s.sendPath :=
  (sendPath_reportSent o _).trans (sendPath_countExchange s _ _)

/-- R94: an order joins its branch's list at an age of at most three half-cycles. -/
theorem appendOutstanding_young {o : Order} {s : State} (h : orderAge (s.trackers.get o.branch).h o.h ≤ 3)
    {b : Branch} (hb : s.sendPath.Young b) : (appendOutstanding o s).sendPath.Young b := by
  intro e joined
  have he : e ∈ ((s.exchange.branches.set o.branch { s.exchangeRec o.branch with
    outstanding := (s.exchangeRec o.branch).outstanding ++ [⟨o.h, o.polarity, o.angle⟩] }).get b).outstanding := joined
  clear joined
  rw [PerBranch.get_set] at he
  split at he
  · next hc =>
    subst hc
    rcases List.mem_append.mp he with he | he
    · exact hb e he
    · rw [List.mem_singleton.mp he]
      exact h
  · exact hb e he

/-- R93: an idle transmitter begins. -/
theorem sendKept_begins {s t : State} (e : t.sendPath = { s.sendPath with idle := true }) : SendKept s (beginV t) :=
  (Forwards.beginV (fun hs => by rw [e]; exact hs.limit) (by rw [e]) (by rw [e])).kept

/-- R94: a completed order joins its branch's list before the next frame begins. -/
theorem sendKept_joins {s t : State} {o : Order} (e : t.sendPath = { s.sendPath with idle := true })
    (h : orderAge (s.trackers.get o.branch).h o.h ≤ 3) : SendKept s (beginV (appendOutstanding o t)) := by
  have age : orderAge (t.trackers.get o.branch).h o.h ≤ 3 := by
    have number : t.sendPath.number o.branch = s.sendPath.number o.branch := by rw [e]
    exact (congrArg (orderAge · o.h) number).le.trans h
  have waiting : t.sendPath.waiting = s.sendPath.waiting := by rw [e]
  have begun : Forwards (appendOutstanding o t) (beginV (appendOutstanding o t)) :=
    Forwards.beginV SendPath.Flows.limit rfl rfl
  refine ⟨fun hs => beginV_flows (waiting.le.trans hs.limit), fun hb b => begun.young (appendOutstanding_young age ?_)⟩
  rw [e]
  exact hb b

theorem sendKept_completeV (s : State) : SendKept s (completeV s) := by
  rcases ht : s.exchange.transmitter with _ | ⟨o | ⟨n, a⟩, x⟩
  · rw [completeV_idle ht]
    exact .refl s
  · have sent : (orderSent o s.vIdle).sendPath = { s.sendPath with idle := true } := sendPath_orderSent o s.vIdle
    rw [completeV_order ht]
    split
    · exact sendKept_begins sent
    · split
      · next young => exact sendKept_joins sent young
      · have counted : ∀ k, ({ orderSent o s.vIdle with freeCount := k } : State).sendPath =
          { s.sendPath with idle := true } := fun _ => sent
        unfold lateCompletion
        dsimp only
        obtain ⟨k, hl | hl⟩ := ordered_pair (orderSent o s.vIdle)
          (decide ((orderSent o s.vIdle).params.timeoutLimit ≤
            ((orderSent o s.vIdle).exchangeRec o.branch).timeoutRun + 1) &&
            !(orderSent o s.vIdle).exchange.queue.isEmpty) beginV (countTimeout o.branch) <;> rw [hl]
        · exact (sendKept_begins (counted k)).trans (.of_eq (sendPath_countTimeout _ _))
        · exact sendKept_begins ((sendPath_countTimeout _ _).trans (counted k))
  · unfold completeV
    rw [ht]
    exact sendKept_begins rfl

/-! ## Crossing events (R41, R66, R96) -/

theorem forwards_demandEvent (ev : CrossingEvent) (s : State) : Forwards s (demandEvent ev s) := by
  have acted : ∀ t, Forwards t (actOnEvent ev t) := fun t => by
    have counted : ∀ (x : Bool) (r : DemandRec), (if x then countGap ev.branch (t.setDemandRec ev.branch r)
        else t.setDemandRec ev.branch r).sendPath = t.sendPath := fun x _ => by cases x <;> rfl
    have handed : ∀ (o : Order) (r : CaptureRecord) (u : State), u.sendPath = t.sendPath →
        Forwards t (handOrder o (offerRecord r u)) := fun o r u e =>
      (Forwards.of_eq ((sendPath_offerRecord r u).trans e)).trans (forwards_handOrder o _)
    unfold actOnEvent
    dsimp only
    split
    · exact (handed _ _ _ (counted _ _)).trans (.of_eq (sendPath_latchTrip _ _))
    · exact handed _ _ _ (counted _ _)
  unfold demandEvent
  split
  · exact .of_eq rfl
  · exact (Forwards.of_eq (sendPath_updateTrim ev s)).trans (acted _)

theorem forwards_receivers (ev : CrossingEvent) :
    ∀ f ∈ [demandEvent ev, ageOrders ev, tableEvent ev, controlEvent ev], ∀ t, Forwards t (f t) := by
  intro f hf t
  simp only [List.mem_cons, List.not_mem_nil, or_false] at hf
  rcases hf with rfl | rfl | rfl | rfl
  · exact forwards_demandEvent ev t
  · exact forwards_ageOrders ev t
  · exact .of_eq (sendPath_tableEvent ev t)
  · exact .of_eq (sendPath_controlEvent ev t)

/-- What every one of the actions keeps, and one of them brings about for good, holds when all have acted in turn. -/
theorem inTurn_reaches {P Q : State → Prop} {s : State} {contended : Bool} {fs : List (State → State)}
    {f : State → State} (hf : f ∈ fs) (count : ∀ k, P s → P { s with freeCount := k })
    (keepP : ∀ g ∈ fs, ∀ t, P t → P (g t)) (keepQ : ∀ g ∈ fs, ∀ t, Q t → Q (g t)) (reach : ∀ t, P t → Q (f t))
    (momentP : ∀ t, P t → P (moment t)) (momentQ : ∀ t, Q t → Q (moment t)) (h : P s) :
    Q (s.inTurn contended fs) := by
  have key : ∀ (after : State → State), (∀ t, P t → P (after t)) → (∀ t, Q t → Q (after t)) →
      ∀ l : List (State → State), l.Perm fs → ∀ t, P t → Q (l.foldl (fun t g => after (g t)) t) := by
    intro after hp hq l hl t ht
    obtain ⟨before, rest, rfl⟩ := List.append_of_mem (hl.mem_iff.mpr hf)
    have runs : ∀ {R : State → Prop}, (∀ g ∈ fs, ∀ t, R t → R (g t)) → (∀ t, R t → R (after t)) →
        ∀ m : List (State → State), (∀ g ∈ m, g ∈ fs) → ∀ t, R t → R (m.foldl (fun t g => after (g t)) t) := by
      intro R keep ha m
      induction m with
      | nil => exact fun _ _ ht => ht
      | cons g m ih =>
        exact fun hm t ht => ih (fun x hx => hm x (by simp [hx])) _ (ha _ (keep g (hm g (by simp)) t ht))
    rw [List.foldl_append, List.foldl_cons]
    refine runs keepQ hq rest (fun g hg => hl.mem_iff.mp (by simp [hg])) _ (hq _ (reach _ ?_))
    exact runs keepP hp before (fun g hg => hl.mem_iff.mp (by simp [hg])) t ht
  obtain ⟨l, k, hl, e | e⟩ := inTurn_eq s contended fs
  · rw [e]
    exact key id (fun _ => id) (fun _ => id) l hl s h
  · rw [e]
    exact key moment momentP momentQ l hl _ (count k h)

/-- R96: an event offered with its branch at the event's number leaves every order young, those of its own branch
too. -/
theorem offerEvent_young {ev : CrossingEvent} {s : State} (hn : s.sendPath.number ev.branch = ev.h)
    (h : ∀ b, b ≠ ev.branch → s.sendPath.Young b) (b : Branch) : (offerEvent ev s).sendPath.Young b := by
  have others : ∀ b, b ≠ ev.branch → (offerEvent ev s).sendPath.Young b := fun b hb =>
    inTurn_keeps (P := fun t => t.sendPath.Young b) s _ _ (fun _ => h b hb)
      (fun f hf t ht => (forwards_receivers ev f hf t).young ht) fun t ht => by rwa [sendPath_moment]
  have own : (offerEvent ev s).sendPath.Young ev.branch :=
    inTurn_reaches (P := fun t => t.sendPath.number ev.branch = ev.h) (Q := fun t => t.sendPath.Young ev.branch)
      (f := ageOrders ev) (by simp) (fun _ => id)
      (fun f hf t ht => (congrFun (forwards_receivers ev f hf t).number _).trans ht)
      (fun f hf t ht => (forwards_receivers ev f hf t).young ht) (fun t ht => ageOrders_young ht)
      (fun t ht => by rwa [sendPath_moment]) (fun t ht => by rwa [sendPath_moment]) hn
  by_cases hb : b = ev.branch
  · exact hb ▸ own
  · exact others b hb

theorem offerEvent_flows {ev : CrossingEvent} {s : State} (h : s.sendPath.Flows) : (offerEvent ev s).sendPath.Flows :=
  inTurn_keeps (P := fun t => t.sendPath.Flows) s _ _ (fun _ => h)
    (fun f hf t ht => (forwards_receivers ev f hf t).flows ht) fun t ht => by rwa [sendPath_moment]

/-- R27, R40, R96: a tracker's step leaves its number, or advances it with an event that ages the branch's orders. -/
theorem sendKept_runTracker (tag : Tag) (b : Branch) (s : State) : SendKept s (runTracker tag b s) := by
  have evaluated : ∀ (x y : Bool) (t : Tracker),
      (if y then evalSupply (if x then trackerChanged b (s.setTracker b t) else s.setTracker b t)
        else if x then trackerChanged b (s.setTracker b t) else s.setTracker b t).sendPath =
      (s.setTracker b t).sendPath := fun x y t => by
    cases x <;> cases y <;> simp
  obtain ⟨emits, quiet⟩ : StageOutcome (KeepsNumber (s.trackers.get b)) b (s.entries b.voltage) (s.trackers.get b)
    (s.trackerResult tag b) := trackerStep_outcome
  unfold runTracker
  dsimp only
  split
  · next hr =>
    obtain ⟨number, -⟩ := quiet hr
    exact .of_eq ((evaluated _ _ _).trans (sendPath_setTracker number))
  · next ev hr =>
    have emitted := emits ev hr
    have before : (s.setTracker b (s.trackerResult tag b).1).sendPath.number b = ev.h := by
      have written : ((s.trackers.set b (s.trackerResult tag b).1).get b).h = (s.trackerResult tag b).1.h :=
        congrArg Tracker.h (PerBranch.get_set_self _ _ _)
      exact written.trans (emitted.takesNumber.trans emitted.number.symm)
    have offered := (sendPath_moment _).trans (evaluated (decide ((s.trackerResult tag b).1.state ≠
      (s.trackers.get b).state)) (decide ((s.trackerResult tag b).1.state ≠ (s.trackers.get b).state) ||
        magnitudeUpdated (s.trackerResult tag b).2) (s.trackerResult tag b).1)
    generalize moment _ = u at offered ⊢
    refine ⟨fun hs => offerEvent_flows (offered ▸ ⟨hs.limit, hs.working⟩),
      fun hy c => offerEvent_young ?_ (fun c hc => ?_) c⟩
    · rw [offered, emitted.branch, before]
    · rw [emitted.branch] at hc
      rw [offered]
      intro e he
      have same : ((s.trackers.set b (s.trackerResult tag b).1).get c).h = (s.trackers.get c).h :=
        congrArg Tracker.h (PerBranch.get_set_ne _ _ hc)
      exact (congrArg (orderAge · e.h) same).le.trans (hy c e he)

theorem sendKept_releasedSet (tag : Tag) (s : State) : SendKept s (releasedSet tag s) := by
  refine sendKept_inTurn s _ fun f hf t => ?_
  simp only [List.mem_cons, List.not_mem_nil, or_false] at hf
  rcases hf with rfl | rfl | rfl | rfl
  · exact sendKept_runTracker tag _ t
  · exact sendKept_runTracker tag _ t
  · exact sendKept_runTracker tag _ t
  · exact (forwards_deadlineCheck tag t).kept

end Sys2Proof.Machine
end

section
/-! Every step keeps the send queue's limit and the ages of outstanding orders (R88, R93, R95). -/

namespace Sys2Proof.Machine

/-! ## Releases of slots and sample frames -/

theorem sendPath_slotClosed (e : Tag) (forced : Bool) (s : State) :
    (slotClosed e forced s).sendPath = s.sendPath := by
  obtain ⟨_, _, -, hs⟩ := slotClosed_eq e forced s
  rw [hs, sendPath_setNotices, sendPath_setAsm]

theorem sendKept_releaseSlot (forced : Bool) (s : State) : SendKept s (releaseSlot forced s) := by
  rcases he : s.asm.expected with _ | e
  · rw [releaseSlot_none he]
    exact .refl s
  · rw [releaseSlot_eq he]
    have closed : SendKept s (slotClosed e forced s) := .of_eq (sendPath_slotClosed e forced s)
    have completed : (completeSets (releasedSet e (slotClosed e forced s))).sendPath =
      (releasedSet e (slotClosed e forced s)).sendPath := sendPath_setAsm _ _
    exact (closed.trans (sendKept_releasedSet e _)).trans (.of_eq ((sendPath_moment _).trans completed))

theorem sendKept_releaseChain : ∀ (n : Nat) (s : State), SendKept s (releaseChain n s)
  | 0, s => .refl s
  | n + 1, s => by
    unfold releaseChain
    split
    · exact (sendKept_releaseSlot false s).trans (sendKept_releaseChain n _)
    · exact .refl s

theorem sendKept_releaseCheck (s : State) : SendKept s (releaseCheck s) := by
  unfold releaseCheck
  split
  · exact .refl s
  · split
    · exact .refl s
    · exact sendKept_releaseChain _ s

theorem sendKept_forceReleases : ∀ (n : Nat) (s : State), SendKept s (forceReleases n s)
  | 0, s => .refl s
  | n + 1, s => (sendKept_releaseSlot true s).trans (sendKept_forceReleases n _)

theorem sendKept_acceptFrame (e tag : Tag) (n : Index4) (f : SampleFrame) (s : State) :
    SendKept s (acceptFrame e tag n f s) := by
  have placed : SendKept s (completeSets (closeSets e tag (placeFrame e tag n f.channels s))) := .of_eq rfl
  unfold acceptFrame
  dsimp only
  split
  · exact .of_eq rfl
  · split
    · refine placed.trans (sendKept_inTurn _ _ fun g hg t => ?_)
      simp only [List.mem_cons, List.not_mem_nil, or_false] at hg
      rcases hg with rfl | rfl
      · exact sendKept_releaseCheck t
      · exact .of_eq (sendPath_handAux _ t)
    · exact placed.trans (sendKept_releaseCheck _)

theorem sendPath_discontinuity (tag : Tag) (n : Index4) (s : State) :
    (discontinuity tag n s).sendPath = s.sendPath := by
  have placed : (discontinuityPlaced tag n s).sendPath = s.sendPath := rfl
  rw [discontinuity_eq]
  simp [State.countAsm, placed]

theorem sendKept_handleFrame (e tag : Tag) (n : Index4) (f : SampleFrame) (s : State) :
    SendKept s (handleFrame e tag n f s) := by
  unfold handleFrame
  dsimp only
  split
  · exact sendKept_acceptFrame _ _ _ _ s
  · split
    · exact (sendKept_forceReleases _ s).trans (sendKept_acceptFrame _ _ _ _ _)
    · split
      · exact (SendKept.of_eq (sendPath_discontinuity _ _ s)).trans (sendKept_acceptFrame _ _ _ _ _)
      · exact .of_eq rfl

theorem sendKept_takeSample (f : SampleFrame) (s : State) : SendKept s (takeSample f s) := by
  unfold takeSample
  split
  · exact .of_eq rfl
  · split
    · exact .of_eq rfl
    · split
      · exact .of_eq rfl
      · split
        · exact .of_eq rfl
        · dsimp only
          split
          · exact (SendKept.of_eq (sendPath_setAsm s _)).trans (sendKept_handleFrame _ _ _ _ _)
          · exact sendKept_handleFrame _ _ _ _ s

theorem sendPath_expireSilence (s : State) : (expireSilence s).sendPath = s.sendPath := by
  have cleared : (silenceCleared s).sendPath = s.sendPath := rfl
  rw [expireSilence_eq]
  simp [State.countAsm, streamInterruption, cleared]

/-! ## Bank orders and the local tick -/

theorem forwards_placeBankOrder (n : Index4) (a : BankAction) (s : State) : Forwards s (placeBankOrder n a s) :=
  (Forwards.of_eq ((sendPath_momentAfter _ _).trans (sendPath_writeBank n _ s))).trans (forwards_handBankOrder n a _)

theorem forwards_autoSwitch (s : State) : Forwards s (autoSwitch s) := by
  have placed : ∀ n a f, Forwards s (placeBankOrder n a (s.countBanks f)) := fun n a f =>
    (Forwards.of_eq (sendPath_setBanks s _)).trans (forwards_placeBankOrder n a _)
  unfold autoSwitch
  split
  · split
    · split
      · exact placed _ _ _
      · exact .of_eq rfl
    · split
      · split
        · exact placed _ _ _
        · exact .of_eq rfl
      · exact .of_eq rfl
  · exact .of_eq rfl

theorem forwards_tickBanks (s : State) : Forwards s (tickBanks s) := by
  have dwell : ∀ t : State, (if s.confirmationExpires then t else tickDwell t).sendPath = t.sendPath := fun t => by
    split <;> simp
  refine Forwards.trans (.of_eq ?_) (forwards_autoSwitch _)
  rw [dwell, sendPath_momentAfter, foldl_same State.sendPath _ sendPath_tickDischarge, sendPath_momentAfter,
    foldl_same State.sendPath _ sendPath_tickConfirmation]

theorem sendKept_localTick (s : State) : SendKept s (localTick s) := by
  have counted : (countTick s).sendPath = s.sendPath := rfl
  refine (SendKept.of_eq ((sendPath_tickDip _).trans counted)).trans (sendKept_inTurn _ _ fun f hf t => ?_)
  simp only [List.mem_cons, List.not_mem_nil, or_false] at hf
  rcases hf with rfl | rfl
  · exact .of_eq (sendPath_tickBlanking t)
  · exact (forwards_tickBanks t).kept

/-! ## Directives -/

theorem sendPath_clearCounters (s : State) (g : CounterGroup) : (clearCounters s g).sendPath = s.sendPath := by
  cases g with
  | tracking => exact sendPath_setTrackers fun b => by simp
  | exchange => exact sendPath_setBranches fun b => by simp [State.exchangeRec]
  | _ => rfl

theorem sendPath_actSet (ident : Byte) (value : Word) (s : State) : (actSet ident value s).1.sendPath = s.sendPath := by
  have after : ∀ p t, (afterWrite p t).sendPath = t.sendPath := fun p t => by
    unfold afterWrite
    split
    · split <;> rfl
    · rfl
    · rfl
    · exact sendPath_evalSupply t
    · exact sendPath_evalSupply t
    · exact sendPath_evalBase t
    · rfl
  unfold actSet
  split
  · rfl
  · split
    · rfl
    · split
      · exact after _ _
      · rfl

theorem sendKept_actSourceSet (source enabled policy hold miss : Byte) (s : State) :
    SendKept s (actSourceSet source enabled policy hold miss s).1 := by
  have written : ∀ n r, SendKept s (completeSets (s.setSource n r)) := fun n r => .of_eq (sendPath_setSource s n r)
  unfold actSourceSet
  split
  · exact .refl s
  · split
    · exact (written _ _).trans (sendKept_releaseCheck _)
    · exact .refl s

theorem sendPath_actAuxSet (aux polarity kind debounce actions delay width : Byte) (s : State) :
    (actAuxSet aux polarity kind debounce actions delay width s).1.sendPath = s.sendPath := by
  unfold actAuxSet
  split
  · rfl
  · split
    · exact sendPath_evalBase _
    · rfl

theorem sendPath_actBankSet (bank present : Byte) (susceptance : Half) (state : Byte) (s : State) :
    (actBankSet bank present susceptance state s).1.sendPath = s.sendPath := by
  have record : ∀ n st x, (setBankRecord n st x s).1.sendPath = s.sendPath := fun n _ _ => sendPath_writeBank n _ s
  unfold actBankSet
  split
  · rfl
  · split
    · split
      · rfl
      · exact record _ _ _
    · split
      · split
        · rfl
        · split
          · rfl
          · exact record _ _ _
      · rfl
    · rfl

theorem forwards_actBankForce (bank action : Byte) (s : State) : Forwards s (actBankForce bank action s).1 := by
  unfold actBankForce
  split
  · next n a _ _ =>
    split
    · exact .of_eq rfl
    · split
      · exact .of_eq rfl
      · exact (forwards_placeBankOrder n a s).trans (.of_eq (sendPath_setBanks _ _))
  · exact .of_eq rfl

theorem sendPath_actTable (s : State) : (∀ start n fill values, (actTableWrite start n fill values s).1.sendPath =
      s.sendPath) ∧ (∀ bank start n, (actTableRead bank start n s).1.sendPath = s.sendPath) ∧
    (actTableCopy s).1.sendPath = s.sendPath ∧ ∀ tag, (actTableCommit tag s).1.sendPath = s.sendPath := by
  refine ⟨fun start n fill values => ?_, fun bank start n => ?_, ?_, fun tag => ?_⟩
  · unfold actTableWrite
    split
    · rfl
    · split
      · split
        · rfl
        · split <;> rfl
      · rfl
  · unfold actTableRead
    split
    · split <;> rfl
    · rfl
  · unfold actTableCopy
    split <;> rfl
  · unfold actTableCommit
    split
    · rfl
    · split
      · rfl
      · split <;> rfl

theorem sendKept_actMode (operand : Byte) (s : State) : SendKept s (actMode operand s).1 := by
  have cancelled : (cancelResume s).sendPath = s.sendPath := rfl
  have requested : ∀ t, (requestMode t (cancelResume s)).sendPath = s.sendPath := fun t => by
    unfold requestMode
    split
    · exact (sendPath_evalBase _).trans ((sendPath_changeMode _ _ _).trans cancelled)
    · exact (sendPath_evalBase _).trans ((sendPath_changeMode _ _ _).trans cancelled)
    · exact (sendPath_changeMode _ _ _).trans cancelled
    · rfl
  have taken : ∀ m, SendKept s (takeMode m s) := fun m => by
    unfold takeMode
    split
    · exact .of_eq (requested _)
    · exact .of_eq (requested _)
    all_goals
      split
      · exact .of_eq cancelled
      · exact sendKept_enterQuiescent s
  unfold actMode
  split
  · exact .refl s
  · split
    · exact .refl s
    · exact taken _

theorem sendPath_actBlock (operand : Byte) (s : State) : (actBlock operand s).1.sendPath = s.sendPath := by
  unfold actBlock
  split
  · rfl
  · exact sendPath_evalBase _

theorem sendPath_actTripClear (s : State) : (actTripClear s).1.sendPath = s.sendPath := by
  have zeroed : ∀ t, (zeroRuns t).sendPath = t.sendPath := fun t =>
    sendPath_setBranches fun b => by simp [State.exchangeRec]
  exact (sendPath_evalBase _).trans (zeroed _)

theorem sendPath_actCapture (s : State) : (∀ mode post, (actCaptureSet mode post s).1.sendPath = s.sendPath) ∧
    (actCaptureTrigger s).1.sendPath = s.sendPath ∧ ∀ n, (actCaptureRead n s).1.sendPath = s.sendPath := by
  refine ⟨fun mode post => ?_, ?_, fun n => ?_⟩
  · unfold actCaptureSet
    split
    · split <;> rfl
    · rfl
  · unfold actCaptureTrigger
    split
    · exact sendPath_trigger _ s
    · rfl
  · unfold actCaptureRead
    split <;> rfl

/-- R108: an ENGINE reset leaves no order queued or outstanding, and a transmitter that idled idle. -/
theorem sendKept_engineReset (s : State) : SendKept s (engineReset s) := by
  obtain ⟨tables, processor, records, valid, dip, ready, hs, -⟩ := engineReset_eq s
  have fewer : (s.exchange.queue.filter VFrame.isBank).length ≤ s.exchange.queue.length := List.length_filter_le _ _
  rw [hs]
  refine ⟨fun ⟨limit, working⟩ => ⟨fewer.trans limit, fun hi => ?_⟩, fun _ b e he => ?_⟩
  · have idle : s.exchange.transmitter.isNone = true := by simpa [State.sendPath, Exchange.engineReset] using hi
    exact Nat.le_zero.mp (fewer.trans (working idle).le)
  · simp [State.sendPath, State.exchangeRec, Exchange.engineReset] at he

theorem sendKept_act (d : Directive) (s : State) : SendKept s (act d s).1 := by
  obtain ⟨tableWrite, tableRead, tableCopy, tableCommit⟩ := sendPath_actTable s
  obtain ⟨captureSet, captureTrigger, captureRead⟩ := sendPath_actCapture s
  unfold act
  split
  case h_3 =>
    unfold actCounters
    split
    · split
      · exact .of_eq (sendPath_clearCounters s _)
      · exact .refl s
    · exact .refl s
  case h_5 =>
    unfold actGet
    split <;> exact .refl s
  case h_6 => exact .of_eq (sendPath_actSet _ _ s)
  case h_7 =>
    unfold actMapSet
    split
    · exact .refl s
    · split <;> exact .of_eq rfl
  case h_8 => exact sendKept_actSourceSet _ _ _ _ _ s
  case h_9 => exact .of_eq (sendPath_actAuxSet _ _ _ _ _ _ _ s)
  case h_10 => exact .of_eq (sendPath_actBankSet _ _ _ _ s)
  case h_11 => exact (forwards_actBankForce _ _ s).kept
  case h_12 => exact .of_eq (tableWrite _ _ _ _)
  case h_13 => exact .of_eq (tableRead _ _ _)
  case h_14 => exact .of_eq tableCopy
  case h_15 => exact .of_eq (tableCommit _)
  case h_16 => exact sendKept_actMode _ s
  case h_17 => exact .of_eq (sendPath_actBlock _ s)
  case h_18 => exact .of_eq (sendPath_actTripClear s)
  case h_19 => exact .of_eq (captureSet _ _)
  case h_20 => exact .of_eq captureTrigger
  case h_21 => exact .of_eq (captureRead _)
  case h_23 =>
    unfold actNoticeSet
    split <;> exact .of_eq rfl
  case h_24 =>
    unfold actNoticeClear
    split <;> exact .of_eq rfl
  case h_25 =>
    unfold actReset
    split
    · exact .refl s
    · exact (sendKept_engineReset s).trans (.of_eq (sendPath_moment _))
    · exact .of_eq rfl
  all_goals exact .of_eq rfl

/-! ## A command, a step -/

theorem sendKept_stationFree (s₀ : State) : StationFree (SendKept s₀) :=
  ⟨fun _ _ h => h.trans (.of_eq rfl), fun _ _ h => h.trans (.of_eq rfl), fun _ _ h => h.trans (.of_eq rfl),
    fun _ _ h => h.trans (.of_eq rfl)⟩

theorem sendKept_powerOn (s : State) (straps : Straps) (rstn : Bool) (p : List Instr) (k : Nat) :
    SendKept s (State.powerOn straps rstn p k) :=
  ⟨fun _ => ⟨Nat.zero_le _, fun _ => rfl⟩, fun _ b e he => by cases b <;> cases he⟩

theorem sendKept_receiveBytes (port : Port) (bytes : List Byte) (s : State) :
    SendKept s (receiveBytes port bytes s) := by
  have counted : ∀ v, SendKept s (s.countPort port fun c => c.count v) := fun v => by
    cases port <;> exact .of_eq rfl
  unfold receiveBytes
  dsimp only
  split
  · refine (counted (portVerdict port bytes)).trans ?_
    unfold handOn
    split
    · exact sendKept_takeSample _ _
    · exact (sendKept_stationFree _).admission _ _ (.refl _)
    · exact (forwards_receiveReport _ _).kept
    · exact .of_eq (sendPath_receiveBankStatus _ _ _ _)
    · exact .refl _
  · exact counted _

/-- Every command keeps the send queue's limit and the ages of outstanding orders. -/
theorem sendKept_exec {i : Instr} {s t : State} (ht : exec i s = .next t) : SendKept s t := by
  have act : ∀ d u, SendKept s u → SendKept s (Machine.act d u).1 := fun d u h => h.trans (sendKept_act d u)
  have directive : ∀ {unit tag kind : Byte} {length : Nat} {r : Request},
      whileReleased s (directiveArrives unit tag kind length r) = .next t → SendKept s t :=
    whileReleased_keeps ((sendKept_stationFree s).directiveArrives act _ _ _ _ _) (.refl s)
  have settled : ∀ {f : State → State}, SendKept s (f s) →
      whileReleased s (fun s => settle (f s)) = .next t → SendKept s t :=
    fun hf => whileReleased_keeps (fun _ => (sendKept_stationFree s).settle act hf) (.refl s)
  have receivedV : SendKept s s.receivedV := .of_eq rfl
  cases i with
  | sampleFrame f =>
    exact settled ((sendKept_stationFree s).receiveM (fun u h => h.trans (sendKept_takeSample f u)) _ (.refl s)) ht
  | localSamplePeriod =>
    refine settled (f := endSamplePeriod) ?_ ht
    unfold endSamplePeriod
    split
    · exact .refl s
    · split
      · exact .of_eq (sendPath_expireSilence s)
      · exact .of_eq rfl
  | silenceTimerExpiry =>
    refine settled (f := silenceExpires) ?_ ht
    unfold silenceExpires
    split
    · exact .refl s
    · exact .of_eq (sendPath_expireSilence s)
  | localTick => exact settled (sendKept_localTick s) ht
  | confirmationTimerExpiry =>
    exact settled (f := Index4.all.foldl confirmationExpiresAt)
      (.of_eq (foldl_same State.sendPath _ sendPath_confirmationExpiresAt _ s)) ht
  | dischargeTimerExpiry n => exact settled (f := dischargeExpires n) (.of_eq (sendPath_dischargeExpires n s)) ht
  | dwellTimerExpiry => exact settled (f := expireDwell) (.of_eq rfl) ht
  | dipToleranceExpiry =>
    refine settled (f := dipToleranceExpires) ?_ ht
    unfold dipToleranceExpires
    split <;> exact .of_eq rfl
  | blankingDelayExpiry =>
    refine settled (f := blankingDelayExpires) ?_ ht
    unfold blankingDelayExpires
    split
    · exact .of_eq (sendPath_activateBlanking _ s)
    · exact .refl s
  | blankingPulseEnd =>
    refine settled (f := blankingPulseEnds) ?_ ht
    unfold blankingPulseEnds
    split
    · exact .of_eq (sendPath_endBlanking s)
    · exact .refl s
  | valveReport r =>
    exact settled (f := fun s => receiveReport r s.receivedV) (receivedV.trans (forwards_receiveReport r _).kept) ht
  | bankStatusFrame bank status code =>
    exact settled (f := fun s => receiveBankStatus bank status code s.receivedV)
      (receivedV.trans (.of_eq (sendPath_receiveBankStatus bank status code _))) ht
  | vTransmitCompletion => exact settled (sendKept_completeV s) ht
  | frameRejected port bytes => exact settled (sendKept_receiveBytes port bytes s) ht
  | mTransmitCompletion =>
    exact whileReleased_keeps
      ((sendKept_stationFree s).completeM act fun u h => h.trans (sendKept_powerOn u _ _ _ _)) (.refl s) ht
  | powerOnReset =>
    cases ht
    exact sendKept_powerOn s _ _ _ _
  | rstnRelease fsel unit boot =>
    change execRstnRelease fsel unit boot s = .next t at ht
    unfold execRstnRelease at ht
    split at ht <;> cases ht
    · exact .refl s
    · exact sendKept_powerOn s _ _ _ _
  | _ => exact directive ht

theorem sendKept_step {s t : State} (ht : step s = .next t) : SendKept s t := by
  unfold step at ht
  split at ht
  · cases ht
    exact .refl s
  · next c rest _ =>
    have waiting : SendKept s { s with pending := rest } := .of_eq rfl
    exact waiting.trans (sendKept_exec ht)

end Sys2Proof.Machine

open Sys2Proof Sys2Proof.Machine

/-- Settles O54: every command keeps the limit of the send queue and the ages of outstanding orders, each on its own. -/
theorem stepKeepsSendQueue : Obligations.StepKeepsSendQueue := by
  unfold Obligations.StepKeepsSendQueue
  exact ⟨fun s t hi ht => (sendInv_iff t).mpr ((sendKept_step ht).flows ((sendInv_iff s).mp hi)),
    fun s t hi ht => (agesInv_iff t).mpr ((sendKept_step ht).young ((agesInv_iff s).mp hi))⟩
end

section
/-! Valve reports: their fields, readiness, the entry a report matches and the judgement of its outcome (R98 to
R104). -/

namespace Sys2Proof.Machine

/-! ## What the arbiter leaves (R192) -/

theorem Settled.control {u t : State} (h : Settled u t) : t.control = u.control :=
  StationFree.settled (P := fun t => t.control = u.control)
    ⟨fun _ _ h => h, fun _ _ h => h, fun _ _ h => h, fun _ _ h => h⟩ h rfl

/-- A frame begun clears no notice's status. -/
theorem Settled.status {u t : State} (h : Settled u t) (n : NoticeSource) :
    (t.notices.records.get n).status = (u.notices.records.get n).status := by
  cases h with
  | busy _ => rfl
  | nothing _ _ => rfl
  | reply k _ _ =>
    unfold beginReply
    split <;> rfl
  | notice k m _ _ =>
    change ((u.notices.records.set m { u.notices.records.get m with sent := true }).get n).status = _
    rw [PerNotice.get_set]
    split
    · next hn => rw [hn]
    · rfl

theorem moment_busy {s : State} (h : s.notices.transmitter.isSome = true) : moment s = s :=
  if_neg (by simp [Option.isSome_iff_ne_none.mp h])

theorem moment_unavailable {s : State} (h : s.available.isEmpty = true) : moment s = s := if_neg (by simp [h])

/-- A moment just before the end of a step leaves the choice of the arbiter as it is. -/
theorem Settled.of_moment {u t : State} (h : Settled (moment u) t) : Settled u t := by
  obtain ⟨x, hx⟩ := moment_eq u
  have hc := moment_candidates u
  cases h with
  | busy hb =>
    rw [moment_transmitter] at hb
    rw [moment_busy hb]
    exact .busy hb
  | nothing hr he =>
    rw [moment_processor] at hr
    rw [moment_eligible] at he
    rw [moment_unavailable ((available_empty u).mpr ⟨hr, he⟩)]
    exact .nothing hr he
  | reply k hb hr =>
    rw [moment_transmitter] at hb
    rw [hc] at hr
    have begun : beginReply (moment u) = beginReply u := by
      rw [hx]
      unfold beginReply
      rcases hq : u.processor.replies with _ | ⟨r, rest⟩
      · exact absurd hq ((candidates_available u).1 hr)
      · simp [hq]
        rfl
    exact begun ▸ .reply k hb hr
  | notice k n hb hn =>
    rw [moment_transmitter] at hb
    rw [hc] at hn
    have begun : beginNotice n (moment u) = beginNotice n u := by
      rw [hx]
      cases n <;> rfl
    exact begun ▸ .notice k n hb hn

/-- What is available to the arbiter does not rest on the Order Exchange. -/
theorem moment_setExchange (s : State) (x : Exchange) : moment (s.setExchange x) = (moment s).setExchange x := by
  change (if s.notices.transmitter.isNone && s.notices.front.isNone && !s.available.isEmpty then _ else _) =
    (if s.notices.transmitter.isNone && s.notices.front.isNone && !s.available.isEmpty then
      s.setNotices { s.notices with front := some s.available } else s).setExchange x
  split <;> rfl

theorem setExchangeRec_moment (s : State) (b : Branch) (r : ExchangeRec) :
    (moment s).setExchangeRec b r = moment (s.setExchangeRec b r) := by
  unfold State.setExchangeRec
  rw [moment_setExchange, moment_exchange]

/-! ## The fields of a report (R98, R196) -/

theorem branch?_eq (b : Byte) : branch? b =
    if b = 0 then some .ab else if b = 1 then some .bc else if b = 2 then some .ca else none := by
  simp only [← BitVec.toNat_inj]
  unfold branch?
  split <;> simp_all

theorem polarity?_eq (b : Byte) : polarity? b = if b = 0 then some .pos else if b = 1 then some .neg else none := by
  simp only [← BitVec.toNat_inj]
  unfold polarity?
  split <;> simp_all

theorem valveOutcome?_eq (b : Byte) : valveOutcome? b = if b = 0 then some .fired else if b = 1 then some .withheld
    else if b = 2 then some .notFired else if b = 3 then some .fault else none := by
  simp only [← BitVec.toNat_inj]
  unfold valveOutcome?
  split <;> simp_all

/-- R98: a report is one whose coded fields lie in their lists, and whose angle, where the valve fired, in its range. -/
theorem valveReport?_iff (r : ReportFrame) (v : ValveReport) : valveReport? r = some v ↔
    branch? r.branch = some v.branch ∧ polarity? r.polarity = some v.polarity ∧ v.h = r.h ∧
    valveOutcome? r.outcome = some v.outcome ∧ v.firedAngle = r.firedAngle.toNat ∧ v.ready = r.ready.getLsbD 0 ∧
    v.faultCode = r.faultCode ∧ (v.outcome = .fired → 4096 ≤ v.firedAngle ∧ v.firedAngle ≤ 8191) := by
  unfold valveReport?
  split
  · next b p o hb hp ho =>
    rw [hb, hp, ho]
    split
    · next bad =>
      refine ⟨nofun, fun ⟨_, _, _, ho', ha, _, _, fired⟩ => ?_⟩
      cases ho'
      exact absurd (ha ▸ fired bad.1) bad.2
    · next good =>
      refine ⟨fun hv => ?_, fun ⟨hb', hp', hh, ho', ha, hr, hc, _⟩ => ?_⟩
      · cases hv
        exact ⟨rfl, rfl, rfl, rfl, rfl, rfl, rfl, fun hf => by_contra fun hn => good ⟨hf, hn⟩⟩
      · obtain ⟨vb, vp, vh, vo, va, vr, vc⟩ := v
        cases hb'
        cases hp'
        cases ho'
        cases hh
        cases ha
        cases hr
        cases hc
        rfl
  · next unlisted => exact ⟨nofun, fun ⟨hb, hp, _, ho, _⟩ => (unlisted _ _ _ hb hp ho).elim⟩

/-! ## Readiness (R100) -/

theorem allReady_iff (s : State) : s.allReady = true ↔ ∀ b, (s.exchangeRec b).ready = true := by
  have all : (∀ b, (s.exchangeRec b).ready = true) ↔ s.exchange.branches.ab.ready = true ∧
      s.exchange.branches.bc.ready = true ∧ s.exchange.branches.ca.ready = true :=
    ⟨fun h => ⟨h .ab, h .bc, h .ca⟩, fun ⟨ab, bc, ca⟩ b => by cases b <;> assumption⟩
  rw [all]
  simp [State.allReady, and_assoc]

/-- R100: a readiness that a branch already has changes nothing. -/
theorem setReadiness_same {b : Branch} {v : Bool} {s : State} (h : v = (s.exchangeRec b).ready) :
    setReadiness b v s = s := by
  have written : s.setExchangeRec b { s.exchangeRec b with ready := v } = s := by
    subst h
    have same : s.exchange.branches.set b (s.exchangeRec b) = s.exchange.branches := PerBranch.set_get_self _ _
    change s.setExchange { s.exchange with branches := s.exchange.branches.set b (s.exchangeRec b) } = s
    rw [same]
    rfl
  unfold setReadiness checkReady
  rw [written, if_pos rfl]

theorem handReady_branches (v : Bool) (s : State) : (handReady v s).exchange.branches = s.exchange.branches := by
  unfold handReady
  dsimp only
  split
  · rfl
  · exact (releaseDrop_only _).branches
  · rfl

theorem setReadiness_rec (b : Branch) (v : Bool) (s : State) :
    (setReadiness b v s).exchangeRec b = { s.exchangeRec b with ready := v } := by
  have kept : (setReadiness b v s).exchange.branches =
      s.exchange.branches.set b { s.exchangeRec b with ready := v } := by
    unfold setReadiness checkReady
    split
    · rfl
    · exact handReady_branches _ _
  exact (congrArg (PerBranch.get · b) kept).trans (PerBranch.get_set_self _ _ _)

/-! ## Matching (R101) -/

theorem Outstanding.matches_iff (r : ValveReport) (e : Outstanding) :
    e.matches r = true ↔ e.h = r.h ∧ e.polarity = r.polarity := by
  simp [Outstanding.matches]

theorem matchReport_stray {r : ValveReport} {s : State}
    (h : ∀ e ∈ (s.exchangeRec r.branch).outstanding, ¬(e.h = r.h ∧ e.polarity = r.polarity)) :
    matchReport r s = s.countExchange r.branch fun c => { c with stray := bump c.stray } := by
  have none : (s.exchangeRec r.branch).outstanding.find? (Outstanding.matches r) = none :=
    List.find?_eq_none.mpr fun e he hm => h e he ((e.matches_iff r).mp hm)
  unfold matchReport
  dsimp only
  rw [none]

/-- R101: a branch's record once a report has matched an entry between two parts of its list. -/
def ExchangeRec.matched (r : ExchangeRec) (rest : List Outstanding) : ExchangeRec :=
  { r with
    outstanding := rest
    timeoutRun := 0
    counters := { r.counters with matched := bump r.counters.matched } }

theorem ExchangeRec.matched_misfireRun (r : ExchangeRec) (rest : List Outstanding) :
    (r.matched rest).misfireRun = r.misfireRun := rfl

/-- R101, R102: the first entry that a report matches leaves the list, and the outcome is judged against its angle. -/
theorem matchReport_matched {r : ValveReport} {s : State} {e : Outstanding} {before after : List Outstanding}
    (hl : (s.exchangeRec r.branch).outstanding = before ++ e :: after)
    (hb : ∀ x ∈ before, ¬(x.h = r.h ∧ x.polarity = r.polarity)) (hh : e.h = r.h) (hp : e.polarity = r.polarity) :
    matchReport r s = applyResult r
      (s.setExchangeRec r.branch ((s.exchangeRec r.branch).matched (before ++ after)))
      (evaluate r e.angle s.params.angleTolerance) := by
  have matches_e : e.matches r = true := (e.matches_iff r).mpr ⟨hh, hp⟩
  have earlier : ∀ x ∈ before, ¬x.matches r = true := fun x hx hm => hb x hx ((x.matches_iff r).mp hm)
  have found : (s.exchangeRec r.branch).outstanding.find? (Outstanding.matches r) = some e := by
    rw [hl, List.find?_append, List.find?_eq_none.mpr earlier, Option.none_or, List.find?_cons_of_pos matches_e]
  have erased : (s.exchangeRec r.branch).outstanding.eraseP (Outstanding.matches r) = before ++ after := by
    rw [hl, List.eraseP_append_right _ earlier, List.eraseP_cons_of_pos matches_e]
  unfold matchReport
  dsimp only
  rw [found, erased]
  rfl

/-! ## The judgement of an outcome (Table 5-2) -/

theorem evaluate_valve {r : ValveReport} {a tolerance : Nat}
    (h : r.outcome = .fault ∨ (r.outcome = .fired ∧ a = 8192)) :
    evaluate r a tolerance = .valve (if r.outcome = .fault then some r.faultCode else none) := by
  rcases h with ho | ⟨ho, rfl⟩ <;> simp [evaluate, ho, Config.blockAngle]

theorem evaluate_correct {r : ValveReport} {a tolerance : Nat}
    (h : ((r.outcome = .withheld ∨ r.outcome = .notFired) ∧ a = 8192) ∨
      (r.outcome = .fired ∧ a ≠ 8192 ∧ ((r.firedAngle : Int) - a).natAbs ≤ tolerance)) :
    evaluate r a tolerance = .correct := by
  rcases h with ⟨ho | ho, rfl⟩ | ⟨ho, ha, near⟩
  · simp [evaluate, ho, Config.blockAngle]
  · simp [evaluate, ho, Config.blockAngle]
  · simp [evaluate, ho, Config.blockAngle, ha, near]

theorem evaluate_misfire {r : ValveReport} {a tolerance : Nat}
    (h : ((r.outcome = .withheld ∨ r.outcome = .notFired) ∧ a ≠ 8192) ∨
      (r.outcome = .fired ∧ a ≠ 8192 ∧ tolerance < ((r.firedAngle : Int) - a).natAbs)) :
    evaluate r a tolerance = .misfire := by
  rcases h with ⟨ho | ho, ha⟩ | ⟨ho, ha, far⟩
  · simp [evaluate, ho, Config.blockAngle, ha]
  · simp [evaluate, ho, Config.blockAngle, ha]
  · simp [evaluate, ho, Config.blockAngle, ha, Nat.not_le.mpr far]

/-! ## What a result does (R102, R103, R104) -/

section
variable {r : ValveReport} {s : State} {e : ExchangeRec}

/-- R102: the record of a branch with a correct outcome. -/
def ExchangeRec.judgedCorrect (e : ExchangeRec) : ExchangeRec :=
  { e with misfireRun := 0, counters := { e.counters with correct := bump e.counters.correct } }

/-- R103: the record of a branch with a misfire. -/
def ExchangeRec.misfired (e : ExchangeRec) : ExchangeRec :=
  { e with misfireRun := bump255 e.misfireRun, counters := { e.counters with misfire := bump e.counters.misfire } }

/-- R104: the record of a branch with a VALVE cause. -/
def ExchangeRec.valveCaused (e : ExchangeRec) : ExchangeRec :=
  { e with counters := { e.counters with valve := bump e.counters.valve } }

theorem setExchangeRec_get (s : State) (b : Branch) (e : ExchangeRec) : (s.setExchangeRec b e).exchangeRec b = e :=
  PerBranch.get_set_self _ _ _

theorem setExchangeRec_twice (s : State) (b : Branch) (e x : ExchangeRec) :
    (s.setExchangeRec b e).setExchangeRec b x = s.setExchangeRec b x := by
  simp [State.setExchangeRec, State.setExchange]

theorem applyResult_correct :
    applyResult r (s.setExchangeRec r.branch e) .correct = s.setExchangeRec r.branch e.judgedCorrect := by
  unfold applyResult
  dsimp only
  rw [setExchangeRec_get, setExchangeRec_twice]
  rfl

theorem applyResult_misfire : applyResult r (s.setExchangeRec r.branch e) .misfire =
    if s.params.misfireLimit ≤ bump255 e.misfireRun then
      latchTrip (.misfire r.branch) (s.setExchangeRec r.branch e.misfired)
    else s.setExchangeRec r.branch e.misfired := by
  unfold applyResult
  dsimp only
  rw [setExchangeRec_get, setExchangeRec_twice]
  rfl

theorem applyResult_valve (fault : Option Byte) : applyResult r (s.setExchangeRec r.branch e) (.valve fault) =
    latchTrip (.valve ⟨r.branch, r.h, r.polarity, fault⟩) (s.setExchangeRec r.branch e.valveCaused) := by
  unfold applyResult State.countExchange
  dsimp only
  rw [setExchangeRec_get, setExchangeRec_twice]
  rfl

theorem latchTrip_rec (c : TripCause) (b : Branch) : (latchTrip c s).exchangeRec b = s.exchangeRec b :=
  congrArg (PerBranch.get · b) (latchTrip_branches c s)

end

/-- No result of a report writes a branch's readiness. -/
theorem matchReport_ready (r : ValveReport) (s : State) :
    ((matchReport r s).exchangeRec r.branch).ready = (s.exchangeRec r.branch).ready := by
  unfold matchReport
  dsimp only
  split
  · unfold State.countExchange
    rw [setExchangeRec_get]
  · cases evaluate r _ s.params.angleTolerance with
    | correct =>
      rw [applyResult_correct, setExchangeRec_get]
      rfl
    | misfire =>
      rw [applyResult_misfire]
      split
      · rw [latchTrip_rec, setExchangeRec_get]
        rfl
      · rw [setExchangeRec_get]
        rfl
    | valve fault =>
      rw [applyResult_valve, latchTrip_rec, setExchangeRec_get]
      rfl

/-! ## The step of a report -/

theorem valveReport_settled {s : State} (h : Free s) (r : ReportFrame) :
    ∃ t, exec (.valveReport r) s = .next t ∧ Settled (receiveReport r s.receivedV) t :=
  exec_settled (f := fun s => receiveReport r s.receivedV) h.high rfl ((receiveReport_queue r _).trans h.queue)

/-- R99, R100, R101: a report outside QUIESCENT writes its readiness and is matched. -/
theorem valveReport_handled {s : State} (h : Free s) {r : ReportFrame} {v : ValveReport} (hv : valveReport? r = some v)
    (hm : s.control.mode ≠ .quiescent) : ∃ t, exec (.valveReport r) s = .next t ∧
      Settled (matchReport v (moment (setReadiness v.branch v.ready s.receivedV))) t := by
  have handled : receiveReport r s.receivedV =
      matchReport v (moment (setReadiness v.branch v.ready s.receivedV)) := by
    unfold receiveReport
    rw [hv]
    exact if_neg hm
  exact handled ▸ valveReport_settled h r

/-- A report whose readiness its branch already has is matched at once, after a moment. -/
theorem valveReport_same {s : State} (h : Free s) {r : ReportFrame} {v : ValveReport} (hv : valveReport? r = some v)
    (hm : s.control.mode ≠ .quiescent) (hr : v.ready = (s.exchangeRec v.branch).ready) :
    ∃ t, exec (.valveReport r) s = .next t ∧ Settled (matchReport v (moment s.receivedV)) t := by
  have same : setReadiness v.branch v.ready s.receivedV = s.receivedV := setReadiness_same hr
  have handled := valveReport_handled h hv hm
  rwa [same] at handled

section
variable {v : ValveReport} {s t : State} {e : Outstanding} {before after : List Outstanding}
  (hs : Settled (matchReport v (moment s)) t)
include hs

theorem Settled.report_stray (h : ∀ e ∈ (s.exchangeRec v.branch).outstanding, ¬(e.h = v.h ∧ e.polarity = v.polarity)) :
    Settled (s.countExchange v.branch fun c => { c with stray := bump c.stray }) t := by
  have rec_eq : (moment s).exchangeRec v.branch = s.exchangeRec v.branch := by simp [State.exchangeRec]
  rw [matchReport_stray (rec_eq ▸ h)] at hs
  refine Settled.of_moment ?_
  unfold State.countExchange State.setExchangeRec at hs ⊢
  rw [moment_setExchange]
  rwa [rec_eq, moment_exchange] at hs

variable (hl : (s.exchangeRec v.branch).outstanding = before ++ e :: after)
  (hb : ∀ x ∈ before, ¬(x.h = v.h ∧ x.polarity = v.polarity)) (hh : e.h = v.h) (hp : e.polarity = v.polarity)
include hl hb hh hp

/-- R101, R102: the result of a matched report acts on the branch's record without the entry. -/
theorem Settled.report_judged : Settled (applyResult v
    ((moment s).setExchangeRec v.branch ((s.exchangeRec v.branch).matched (before ++ after)))
    (evaluate v e.angle s.params.angleTolerance)) t := by
  have rec_eq : (moment s).exchangeRec v.branch = s.exchangeRec v.branch := by simp [State.exchangeRec]
  rwa [matchReport_matched (rec_eq ▸ hl) hb hh hp, rec_eq, moment_params] at hs

theorem Settled.report_correct (h : evaluate v e.angle s.params.angleTolerance = .correct) :
    Settled (s.setExchangeRec v.branch ((s.exchangeRec v.branch).matched (before ++ after)).judgedCorrect) t := by
  have judged := hs.report_judged hl hb hh hp
  rw [h, applyResult_correct] at judged
  exact Settled.of_moment (setExchangeRec_moment s _ _ ▸ judged)

theorem Settled.report_misfire (h : evaluate v e.angle s.params.angleTolerance = .misfire) :
    t.exchangeRec v.branch = ((s.exchangeRec v.branch).matched (before ++ after)).misfired ∧
    (bump255 (s.exchangeRec v.branch).misfireRun < s.params.misfireLimit →
      Settled (s.setExchangeRec v.branch ((s.exchangeRec v.branch).matched (before ++ after)).misfired) t) ∧
    (s.params.misfireLimit ≤ bump255 (s.exchangeRec v.branch).misfireRun →
      t.control.trips = { s.control.trips with misfire := s.control.trips.misfire.set v.branch true } ∧
      t.control.counters.misfireCauses = bump s.control.counters.misfireCauses ∧
      t.control.release = .held ∧ (t.notices.records.get .trip).status = true) := by
  have judged := hs.report_judged hl hb hh hp
  rw [h, applyResult_misfire, moment_params, ExchangeRec.matched_misfireRun] at judged
  have control : ((moment s).setExchangeRec v.branch
    ((s.exchangeRec v.branch).matched (before ++ after)).misfired).control = s.control := moment_control s
  have rec_eq := congrArg (fun x : Exchange => x.branches.get v.branch) judged.exchange
  refine ⟨rec_eq.trans ?_, fun below => ?_, fun atLimit => ?_⟩
  · split
    · exact (latchTrip_rec _ _).trans (setExchangeRec_get _ _ _)
    · exact setExchangeRec_get _ _ _
  · rw [if_neg (Nat.not_le.mpr below)] at judged
    exact Settled.of_moment (setExchangeRec_moment s _ _ ▸ judged)
  · rw [if_pos atLimit] at judged
    obtain ⟨lost, restarts, hcounters⟩ := latchTrip_counters (.misfire v.branch) ((moment s).setExchangeRec v.branch
      ((s.exchangeRec v.branch).matched (before ++ after)).misfired)
    rw [judged.control, judged.status, latchTrip_trips, hcounters, control]
    exact ⟨rfl, rfl, latchTrip_held _ _, latchTrip_notice _ _⟩

theorem Settled.report_valve {fault : Option Byte}
    (h : evaluate v e.angle s.params.angleTolerance = .valve fault) :
    t.exchangeRec v.branch = ((s.exchangeRec v.branch).matched (before ++ after)).valveCaused ∧
      t.control.release = .held ∧
      t.control.trips = s.control.trips.latch (.valve ⟨v.branch, v.h, v.polarity, fault⟩) := by
  have judged := hs.report_judged hl hb hh hp
  rw [h, applyResult_valve] at judged
  have rec_eq := congrArg (fun x : Exchange => x.branches.get v.branch) judged.exchange
  have control : ((moment s).setExchangeRec v.branch
    ((s.exchangeRec v.branch).matched (before ++ after)).valveCaused).control = s.control := moment_control s
  rw [judged.control, latchTrip_trips, control]
  exact ⟨rec_eq.trans ((latchTrip_rec _ _).trans (setExchangeRec_get _ _ _)), latchTrip_held _ _, rfl⟩

end

end Sys2Proof.Machine

open Sys2Proof Sys2Proof.Machine

/-- Settles O45: the fields of a report, then a report by its readiness, the entry it matches and the result. -/
theorem valveReportIsMatchedAndJudged : Obligations.ValveReportIsMatchedAndJudged := by
  unfold Obligations.ValveReportIsMatchedAndJudged
  refine ⟨fun b => ⟨branch?_eq b, polarity?_eq b, valveOutcome?_eq b⟩, valveReport?_iff,
    fun s r h => ⟨fun hv => ?_, fun v hv => ⟨fun hm => ?_, fun hm hr => ⟨fun hstray => ?_,
      fun e before after hl hb hh hp => ⟨fun hj => ?_, fun hj => ?_, fun hj => ?_⟩⟩⟩⟩,
    fun s r v h hv hm => ?_, fun s b v u hu => ⟨allReady_iff u, fun hsame => ?_, fun hchanged => ?_⟩⟩
  · have refused : receiveReport r s.receivedV = s.receivedV.countV PortCounters.badFormat := by
      unfold receiveReport
      rw [hv]
    exact refused ▸ valveReport_settled h r
  · have discarded : receiveReport r s.receivedV = s.receivedV := by
      unfold receiveReport
      rw [hv]
      exact if_pos hm
    exact discarded ▸ valveReport_settled h r
  · obtain ⟨t, ht, hs⟩ := valveReport_same h hv hm hr
    exact ⟨t, ht, hs.report_stray hstray⟩
  · obtain ⟨t, ht, hs⟩ := valveReport_same h hv hm hr
    obtain ⟨hrec, held, trips⟩ := hs.report_valve hl hb hh hp (evaluate_valve hj)
    refine ⟨t, ht, ?_⟩
    rw [hrec]
    exact ⟨rfl, rfl, rfl, held, trips⟩
  · obtain ⟨t, ht, hs⟩ := valveReport_same h hv hm hr
    exact ⟨t, ht, hs.report_correct hl hb hh hp (evaluate_correct hj)⟩
  · obtain ⟨t, ht, hs⟩ := valveReport_same h hv hm hr
    refine ⟨t, ht, ?_⟩
    rintro k w rfl rfl
    exact hs.report_misfire hl hb hh hp (evaluate_misfire hj)
  · obtain ⟨t, ht, hs⟩ := valveReport_handled h hv hm
    refine ⟨t, ht, ?_, hs⟩
    have rec_eq := congrArg (fun x : Exchange => (x.branches.get v.branch).ready) hs.exchange
    refine rec_eq.trans ((matchReport_ready v _).trans ?_)
    have kept : (moment (setReadiness v.branch v.ready s.receivedV)).exchangeRec v.branch =
      (setReadiness v.branch v.ready s.receivedV).exchangeRec v.branch := by simp [State.exchangeRec]
    rw [kept, setReadiness_rec]
  · subst hu
    exact if_pos hsame
  · subst hu
    exact if_neg hchanged
end

section
/-! MODE QUIESCENT: the Order Exchange quieted, and the rest of the state as the base conditions leave it (R107, R132,
R133). -/

namespace Sys2Proof.Machine

/-! ## The base conditions apart from the Order Exchange (R146, R149, R150) -/

/-- R92: the exchange with the orders of its queue turned to BLOCK. -/
def Exchange.rewritten (x : Exchange) : Exchange :=
  { x with
    queue := x.queue.map VFrame.blocked
    counters := { x.counters with rewritten := bumpBy (x.queue.countP VFrame.carriesAngle) x.counters.rewritten } }

/-- R92, R149: what an evaluation of the base conditions makes of an exchange: a departure from RELEASED rewrites it. -/
def State.basedExchange (s : State) (x : Exchange) : Exchange :=
  if s.baseConditions = false ∧ s.control.release = .released then x.rewritten else x

theorem completeCommit_apart (c : Completion) (f : TableCounters → TableCounters) (s : State) (x : Exchange)
    (k : Nat) : completeCommit c f { s with exchange := x, freeCount := k } =
      { completeCommit c f s with exchange := x, freeCount := k } := by
  unfold completeCommit
  dsimp only
  cases s.tables.commit <;> rfl

theorem releaseDrop_apart (s : State) (x : Exchange) (k : Nat) :
    releaseDrop { s with exchange := x, freeCount := k } =
      { releaseDrop s with exchange := x.rewritten, freeCount := k } :=
  congrArg (raise .release) (completeCommit_apart _ _ (rewriteQueue (zeroClamps (zeroCarries
    (s.countControl fun c => { c with releaseLost := bump c.releaseLost })))) x.rewritten k)

/-- What an evaluation of the base conditions leaves outside the Order Exchange does not rest on it. -/
theorem evalBase_apart (s : State) (x : Exchange) (k : Nat) :
    evalBase { s with exchange := x, freeCount := k } =
      { evalBase s with exchange := s.basedExchange x, freeCount := k } := by
  have base : ({ s with exchange := x, freeCount := k } : State).baseConditions = s.baseConditions := rfl
  unfold evalBase State.basedExchange
  rw [base]
  cases hb : s.baseConditions with
  | true =>
    rw [if_pos rfl, if_pos rfl, if_neg (by simp)]
    unfold startQualifying
    dsimp only
    cases s.control.release <;> rfl
  | false =>
    rw [if_neg Bool.false_ne_true, if_neg Bool.false_ne_true]
    unfold holdRelease
    dsimp only
    cases s.control.release with
    | released =>
      rw [if_pos ⟨rfl, rfl⟩]
      exact releaseDrop_apart (s.setControl { s.control with release := .held, qualifyCount := 0 }) x k
    | held | qualifying | awaitingReady => rfl

theorem evalBase_exchange (s : State) : (evalBase s).exchange = s.basedExchange s.exchange :=
  congrArg State.exchange (evalBase_apart s s.exchange s.freeCount)

/-! ## The discard of the orders (R107) -/

theorem basedExchange_branches (s : State) (x : Exchange) : (s.basedExchange x).branches = x.branches := by
  unfold State.basedExchange
  split <;> rfl

theorem basedExchange_transmitter (s : State) (x : Exchange) : (s.basedExchange x).transmitter = x.transmitter := by
  unfold State.basedExchange
  split <;> rfl

/-- R92: bank orders are not rewritten. -/
theorem basedExchange_banks (s : State) (x : Exchange) :
    (s.basedExchange x).queue.filter VFrame.isBank = x.queue.filter VFrame.isBank := by
  unfold State.basedExchange
  split
  · exact filter_isBank_blocked x.queue
  · rfl

/-- R92: where no order waits, a rewrite counts nothing. -/
theorem basedExchange_counters (s : State) {x : Exchange} (h : ∀ f ∈ x.queue, f.isBank = true) :
    (s.basedExchange x).counters = x.counters := by
  have none : x.queue.countP VFrame.carriesAngle = 0 := List.countP_eq_zero.mpr fun f hf => by
    cases f with
    | order o => exact absurd (h _ hf) (by simp [VFrame.isBank])
    | bank n a => simp [VFrame.carriesAngle]
  unfold State.basedExchange Exchange.rewritten
  rw [none]
  split <;> rfl

/-- R107: `x` is what the evaluation of the base conditions and the discard of the orders, in either order, make of a
state: outside the Order Exchange what the evaluation makes of it. -/
structure Discarded (w x : State) : Prop where
  apart : x = { evalBase w with exchange := x.exchange, freeCount := x.freeCount }
  branches : x.exchange.branches = w.exchange.branches
  transmitter : x.exchange.transmitter = w.exchange.transmitter
  banks : x.exchange.queue.filter VFrame.isBank = w.exchange.queue.filter VFrame.isBank
  counters : x.exchange.counters = w.exchange.counters ∨ x.exchange.counters = (evalBase w).exchange.counters

/-- R149, R107: the drop of release before the discard. -/
theorem discarded_after (w : State) (k : Nat) : Discarded w (discardOrders (evalBase { w with freeCount := k })) := by
  have hx : evalBase { w with freeCount := k } =
      { evalBase w with exchange := w.basedExchange w.exchange, freeCount := k } := evalBase_apart w w.exchange k
  rw [hx]
  refine ⟨rfl, basedExchange_branches _ _, basedExchange_transmitter _ _, ?_, .inr ?_⟩
  · simpa [discardOrders] using basedExchange_banks w w.exchange
  · rw [evalBase_exchange]
    rfl

/-- R107, R149: the discard before the drop of release. -/
theorem discarded_before (w : State) (k : Nat) : Discarded w (evalBase (discardOrders { w with freeCount := k })) := by
  have hx : evalBase (discardOrders { w with freeCount := k }) = { evalBase w with
      exchange := w.basedExchange { w.exchange with queue := w.exchange.queue.filter VFrame.isBank }
      freeCount := k } := evalBase_apart w _ k
  rw [hx]
  refine ⟨rfl, basedExchange_branches _ _, basedExchange_transmitter _ _, ?_, .inl ?_⟩
  · simpa using basedExchange_banks w { w.exchange with queue := w.exchange.queue.filter VFrame.isBank }
  · exact basedExchange_counters w fun f hf => List.of_mem_filter hf

/-! ## The Order Exchange in QUIESCENT (R107) -/

/-- R107: the exchange without its orders: queue and outstanding lists empty of them, readiness cleared. -/
def Exchange.quieted (x : Exchange) : Exchange :=
  { x with
    queue := x.queue.filter VFrame.isBank
    transmitter := x.transmitter.map VTransmission.disown
    branches := .ofFn fun b => { x.branches.get b with outstanding := [], ready := false } }

/-- R100, R107: with release HELD the loss of valve ready is written, and nothing else is handed over. -/
theorem exchangeQuiescent_held {x : State} (h : x.control.release = .held) : ∃ ready,
    exchangeQuiescent x = (x.setExchange x.exchange.quieted).setControl { x.control with valveReady := ready } ∧
      (x.control.valveReady = x.allReady → ready = false) := by
  have lost : (x.setExchange x.exchange.quieted).allReady = false := rfl
  have quieted : exchangeQuiescent x = checkReady x.allReady (x.setExchange x.exchange.quieted) := rfl
  rw [quieted, checkReady_held x.allReady (x.setExchange x.exchange.quieted) h, lost]
  split
  · next unready => exact ⟨x.control.valveReady, rfl, fun hv => hv.trans unready.symm⟩
  · exact ⟨false, rfl, fun _ => rfl⟩

/-- R131, R133: the mode written and MODE raised. -/
def State.quiescentMode (s : State) : State :=
  (s.setControl { s.control with mode := .quiescent, wakingTarget := none, wakingCount := 0, resume := none }).raised
    .mode

/-- R107, R133: entry into QUIESCENT writes the mode, drops release and discards the orders, and quiets the exchange. -/
theorem enterQuiescent_discarded {s : State} (h : s.control.mode ≠ .quiescent) :
    ∃ x, Discarded s.quiescentMode x ∧ enterQuiescent s = exchangeQuiescent x := by
  have hw : (changeMode .quiescent none s).setControl { (changeMode .quiescent none s).control with resume := none } =
      s.quiescentMode := by
    rw [changeMode_eq, if_neg h]
    rfl
  unfold enterQuiescent
  dsimp only
  rw [hw]
  obtain ⟨k, e | e⟩ := ordered_pair s.quiescentMode s.quiescentMode.discardContended evalBase discardOrders <;> rw [e]
  · exact ⟨_, discarded_after _ k, rfl⟩
  · exact ⟨_, discarded_before _ k, rfl⟩

/-- R107, R133: the state in QUIESCENT: the exchange quieted, and the rest as the base conditions leave it. -/
structure Quieted (s u : State) : Prop where
  apart : u = { evalBase s.quiescentMode with exchange := u.exchange, control := u.control, freeCount := u.freeCount }
  queue : u.exchange.queue = s.exchange.queue.filter VFrame.isBank
  transmitter : u.exchange.transmitter = s.exchange.transmitter.map VTransmission.disown
  records : ∀ b, u.exchangeRec b = { s.exchangeRec b with outstanding := [], ready := false }
  counters : u.exchange.counters = s.exchange.counters ∨
    u.exchange.counters = (evalBase s.quiescentMode).exchange.counters
  control : u.control = { (evalBase s.quiescentMode).control with valveReady := u.control.valveReady }
  ready : s.control.valveReady = s.allReady → u.control.valveReady = false

theorem evalBase_quiescentMode (s : State) : (evalBase s.quiescentMode).control.release = .held :=
  evalBase_not_run (by simp [State.quiescentMode, State.raised])

theorem enterQuiescent_quieted {s : State} (h : s.control.mode ≠ .quiescent) : Quieted s (enterQuiescent s) := by
  obtain ⟨x, ⟨apart, branches, transmitter, banks, counters⟩, hx⟩ := enterQuiescent_discarded h
  have control : x.control = (evalBase s.quiescentMode).control := by rw [apart]
  obtain ⟨ready, he, hready⟩ := exchangeQuiescent_held (control ▸ evalBase_quiescentMode s)
  rw [hx, he]
  refine ⟨?_, banks, congrArg (Option.map VTransmission.disown) transmitter, fun b => ?_, counters, ?_, fun hv =>
    hready ?_⟩
  · rw [apart]
    rfl
  · exact (PerBranch.get_ofFn _ b).trans (congrArg (fun p : PerBranch ExchangeRec =>
      ({ p.get b with outstanding := [], ready := false } : ExchangeRec)) branches)
  · rw [control]
    rfl
  · have valveReady : x.control.valveReady = s.control.valveReady := by
      rw [control, (evalBase_only s.quiescentMode).control]
      rfl
    have allReady : x.allReady = s.allReady := by
      unfold State.allReady
      rw [branches]
      rfl
    rw [valveReady, allReady, hv]

/-- R133, R149: what is written in the controller: the mode, the cancelled resume, and release HELD. -/
theorem Quieted.controller {s u : State} (h : Quieted s u) : u.control = { s.control with
    mode := .quiescent, wakingTarget := none, wakingCount := 0, resume := none
    release := .held
    qualifyCount := u.control.qualifyCount, counters := u.control.counters, valveReady := u.control.valveReady } := by
  rw [h.control, (evalBase_only s.quiescentMode).control, evalBase_quiescentMode]
  rfl

/-- What may block release stands. -/
theorem Quieted.blocks {s u : State} (h : Quieted s u) : u.control.trips = s.control.trips ∧
    u.control.directedBlock = s.control.directedBlock ∧ u.control.aux = s.control.aux ∧
    u.control.blanking = s.control.blanking := by
  rw [h.controller]
  exact ⟨rfl, rfl, rfl, rfl⟩

/-- Demand, tables, replies and notices are as the base conditions leave them. -/
theorem Quieted.rest {s u : State} (h : Quieted s u) : u.demand = (evalBase s.quiescentMode).demand ∧
    u.tables = (evalBase s.quiescentMode).tables ∧ u.processor = (evalBase s.quiescentMode).processor ∧
    u.notices = (evalBase s.quiescentMode).notices := by
  rw [h.apart]
  exact ⟨rfl, rfl, rfl, rfl⟩

theorem Quieted.outside {s u : State} (h : Quieted s u) : u.params = s.params ∧ u.asm = s.asm ∧
    u.trackers = s.trackers ∧ u.banks = s.banks ∧ u.capture = s.capture := by
  have out := (evalBase_only s.quiescentMode).outside
  rw [h.apart]
  exact ⟨out.params, out.asm, out.trackers, out.banks, out.capture⟩

/-- R131: MODE is raised. -/
theorem Quieted.notice {s u : State} (h : Quieted s u) : (u.notices.records.get .mode).status = true := by
  obtain ⟨-, -, -, notices⟩ := h.rest
  rw [notices, evalBase_notice (by decide)]
  exact (raise_status _ _ _).trans (by simp)

/-! ## The directive (R132) -/

theorem actMode_quiescent {s : State} (h : s.control.mode ≠ .quiescent) : actMode 2 s =
    (enterQuiescent s).done (.mode (enterQuiescent s).control.mode (enterQuiescent s).control.wakingTarget) := by
  simp [actMode, modeOperand?, takeMode, h]

theorem actMode_stays {s : State} (h : s.control.mode = .quiescent) : actMode 2 s =
    (cancelResume s).done (.mode .quiescent s.control.wakingTarget) := by
  simp [actMode, modeOperand?, takeMode, h, cancelResume]

theorem modeOperand?_none {b : Byte} (h : 2 < b.toNat) : modeOperand? b = none := by
  unfold modeOperand?
  split
  case h_4 => rfl
  all_goals omega

theorem actMode_range {operand : Byte} (h : 2 < operand.toNat) (s : State) : actMode operand s = s.refuse .range := by
  unfold actMode
  rw [modeOperand?_none h]

end Sys2Proof.Machine

open Sys2Proof Sys2Proof.Machine

/-- Settles O23: entry into QUIESCENT in either order of the drop and the discard, and the cases that only answer. -/
theorem modeQuiescentQuiets : Obligations.ModeQuiescentQuiets := by
  unfold Obligations.ModeQuiescentQuiets
  refine ⟨⟨fun _ _ => rfl, fun _ => rfl, fun _ _ => rfl, fun _ _ _ => rfl⟩, fun s tag h hm => ?_,
    fun s tag operand h ho => ?_, fun s tag h hm => ?_⟩
  · obtain ⟨t, ht, hs⟩ := exec_answered (i := .mode s.unitByte tag 2) h rfl (by decide) rfl
      (actMode_quiescent (s := s.taken) hm)
    have quieted : Quieted s.taken (enterQuiescent s.taken) := enterQuiescent_quieted hm
    generalize enterQuiescent s.taken = u at hs quieted
    have control := quieted.controller
    obtain ⟨params, asm, trackers, banks, capture⟩ := quieted.outside
    obtain ⟨demand, tables, processor, notices⟩ := quieted.rest
    obtain ⟨trips, directed, aux, blanking⟩ := quieted.blocks
    refine ⟨t, u, ht, ?_, ?_⟩
    · rw [control] at hs
      exact hs
    · refine ⟨by rw [control], by rw [control], by rw [control], by rw [control], by rw [control], quieted.ready,
        quieted.queue, quieted.transmitter, quieted.records, ?_, quieted.notice, trips, directed, aux,
        blanking, params, asm, trackers, banks, capture⟩
      rintro w rfl
      exact ⟨quieted.control, demand, tables, processor, notices, quieted.counters⟩
  · exact exec_answered h rfl (by decide) rfl (actMode_range ho s.taken)
  · exact exec_answered h rfl (by decide) rfl (actMode_stays (s := s.taken) hm)
end

section
/-! BANK_FORCE and the hand-over of a bank order to the send queue (R90, R115, R126). -/

namespace Sys2Proof.Machine

/-! ## What a lost order leaves and counts (R64, R65) -/

theorem reportLost_outside (o : Order) (s : State) : Outside s (reportLost o s) := by
  have counted : Outside s (countGap o.branch s) := ⟨rfl, rfl, rfl, rfl, rfl, rfl, rfl, rfl, rfl, rfl⟩
  unfold reportLost
  split
  · exact .refl s
  · split
    · exact counted.trans (latchTrip_outside _ _)
    · exact counted

/-- A status once set stays set at a trip; RELEASE is left out, which the trip itself may raise. -/
theorem latchTrip_status (c : TripCause) {n : NoticeSource} (hn : n ≠ .release) {s : State}
    (h : (s.notices.records.get n).status = true) : ((latchTrip c s).notices.records.get n).status = true := by
  unfold latchTrip
  rw [evalBase_notice hn]
  exact (raise_status _ _ _).trans (Bool.or_eq_true_iff.mpr (.inr h))

theorem reportLost_status (o : Order) {n : NoticeSource} (hn : n ≠ .release) {s : State}
    (h : (s.notices.records.get n).status = true) : ((reportLost o s).notices.records.get n).status = true := by
  unfold reportLost
  split
  · exact h
  · split
    · exact latchTrip_status _ hn h
    · exact h

/-- R64: the loss of a formed order is a gap of its branch. -/
theorem reportLost_gapCount (o : Order) (s : State) : ((reportLost o s).demand.get o.branch).gapCount =
    if o.flags.notFormed then (s.demand.get o.branch).gapCount else bump255 (s.demand.get o.branch).gapCount := by
  have counted : ((countGap o.branch s).demand.get o.branch).gapCount = bump255 (s.demand.get o.branch).gapCount :=
    (countGap_get _ _ _).trans (if_pos rfl)
  unfold reportLost
  split
  · rfl
  · split
    · exact (latchTrip_gapCount _ _ _).trans counted
    · exact counted

/-- A loss that brings no gap count to its limit writes the demand alone. -/
theorem reportLost_quiet {o : Order} {s : State}
    (h : o.flags.notFormed = true ∨ (s.demand.get o.branch).gapCount + 1 < s.params.gapLimit) :
    ∃ d, reportLost o s = s.setDemand d := by
  unfold reportLost
  split
  · exact ⟨s.demand, rfl⟩
  · next hf =>
    have below := h.resolve_left hf
    rw [if_neg fun due => absurd ((gapTripDue_iff s o.branch).mp due).2 (Nat.not_le.mpr below)]
    exact ⟨_, rfl⟩

/-- R65: a loss that brings the gap count to GAP_LIMIT trips GAP. -/
theorem reportLost_trips {o : Order} {s : State} (hf : o.flags.notFormed = false)
    (hlt : (s.demand.get o.branch).gapCount < 255) (hl : s.params.gapLimit ≤ (s.demand.get o.branch).gapCount + 1) :
    (reportLost o s).control.trips.gap.get o.branch = true ∧ (reportLost o s).control.release = .held := by
  rw [reportLost_formed hf, if_pos ((gapTripDue_iff s o.branch).mpr ⟨hlt, hl⟩), latchTrip_trips]
  exact ⟨PerBranch.get_set_self _ _ _, latchTrip_held _ _⟩

/-- A loss may rewrite the send queue, which only the rewritten counter shows. -/
theorem reportLost_exchange (o : Order) (s : State) :
    (reportLost o s).exchange.branches = s.exchange.branches ∧
      (reportLost o s).exchange.transmitter = s.exchange.transmitter ∧
      (reportLost o s).exchange.counters.bankQueued = s.exchange.counters.bankQueued := by
  have based : ∀ t : State, (evalBase t).exchange.counters.bankQueued = t.exchange.counters.bankQueued := fun t => by
    rw [evalBase_exchange]
    unfold State.basedExchange
    split <;> rfl
  unfold reportLost
  split
  · exact ⟨rfl, rfl, rfl⟩
  · split
    · exact ⟨latchTrip_branches _ _, latchTrip_transmitter _ _, based _⟩
    · exact ⟨rfl, rfl, rfl⟩

/-! ## The hand-over of a bank order (R90) -/

/-- A queue of bank orders holds no order to displace. -/
theorem newestOrder_none {l : List VFrame} (h : ∀ f ∈ l, f.isBank = true) : newestOrder l = none := by
  induction l with
  | nil => rfl
  | cons f rest ih =>
    unfold newestOrder
    rw [ih fun g hg => h g (List.mem_cons_of_mem f hg)]
    cases f with
    | order o => exact absurd (h _ List.mem_cons_self) (by simp [VFrame.isBank])
    | bank n a => rfl

/-- The newest order is the last that only bank orders follow. -/
theorem newestOrder_some {before after : List VFrame} {o : Order} (h : ∀ f ∈ after, f.isBank = true) :
    newestOrder (before ++ .order o :: after) = some (o, before ++ after) := by
  induction before with
  | nil =>
    rw [List.nil_append]
    unfold newestOrder
    rw [newestOrder_none h]
    rfl
  | cons f rest ih =>
    rw [List.cons_append]
    unfold newestOrder
    rw [ih]
    rfl

/-- R90: the exchange with a bank order as the newest of the queue. -/
def Exchange.withBank (n : Index4) (a : BankAction) (x : Exchange) : Exchange :=
  { x with
    queue := x.queue ++ [.bank n a]
    counters := { x.counters with bankQueued := bump x.counters.bankQueued } }

/-- R93: with the transmitter busy no frame begins. -/
theorem Exchange.withBank_begun_busy {n : Index4} {a : BankAction} {x : Exchange} (h : x.transmitter.isSome = true) :
    (x.withBank n a).begun = x.withBank n a := Exchange.begun_busy h

/-- R93: with nothing on the line or in the queue the bank order begins at once. -/
theorem Exchange.withBank_begun_idle {n : Index4} {a : BankAction} {x : Exchange} (h : x.transmitter = none)
    (hq : x.queue = []) : (x.withBank n a).begun = { x with
      transmitter := some ⟨.bank n a, false⟩
      counters := { x.counters with bankQueued := bump x.counters.bankQueued } } := by
  have idle : (x.withBank n a).transmitter = none := h
  rw [Exchange.begun_idle idle]
  simp [Exchange.withBank, hq]

theorem handBankOrder_refused {n : Index4} {a : BankAction} {s : State} (h : 8 ≤ s.exchange.queue.length)
    (hq : newestOrder s.exchange.queue = none) : handBankOrder n a s = s.setExchange { s.exchange with
      counters := { s.exchange.counters with bankRefused := bump s.exchange.counters.bankRefused } } := by
  unfold handBankOrder
  dsimp only
  have full : ¬ s.exchange.queue.length < Config.sendQueueLimit := Nat.not_lt.mpr h
  rw [if_neg full, hq]

/-- R90: what the hand-over does once the queue has room. -/
theorem pushBank_eq (n : Index4) (a : BankAction) (s : State) : pushFrame (.bank n a) (s.setExchange { s.exchange with
    counters := { s.exchange.counters with bankQueued := bump s.exchange.counters.bankQueued } }) =
    s.setExchange (s.exchange.withBank n a).begun := by
  unfold pushFrame
  rw [beginV_eq]
  rfl

theorem handBankOrder_room {n : Index4} {a : BankAction} {s : State} (h : s.exchange.queue.length < 8) :
    handBankOrder n a s = s.setExchange (s.exchange.withBank n a).begun := by
  have room : s.exchange.queue.length < Config.sendQueueLimit := h
  unfold handBankOrder
  dsimp only
  rw [if_pos room, pushBank_eq]

/-- R90: the state in which an order has left the queue for a bank order and is counted. -/
def State.displacing (s : State) (o : Order) (rest : List VFrame) : State :=
  (s.setExchange { s.exchange with queue := rest }).countExchange o.branch fun c => { c with missed := bump c.missed }

theorem handBankOrder_full {n : Index4} {a : BankAction} {s : State} {o : Order} {rest : List VFrame}
    (h : 8 ≤ s.exchange.queue.length) (hq : newestOrder s.exchange.queue = some (o, rest)) :
    handBankOrder n a s = (reportLost o (s.displacing o rest)).setExchange
      ((reportLost o (s.displacing o rest)).exchange.withBank n a).begun := by
  have full : ¬ s.exchange.queue.length < Config.sendQueueLimit := Nat.not_lt.mpr h
  unfold handBankOrder
  dsimp only
  rw [if_neg full, hq]
  dsimp only
  rw [pushBank_eq]
  rfl

/-- R90, R93: with the transmitter busy the bank order takes the displaced order's place in the queue. -/
theorem handBankOrder_displaces {n : Index4} {a : BankAction} {s : State} {o : Order} {rest : List VFrame}
    (h : 8 ≤ s.exchange.queue.length) (hb : s.exchange.transmitter.isSome = true)
    (hq : newestOrder s.exchange.queue = some (o, rest)) :
    handBankOrder n a s = (reportLost o (s.displacing o rest)).setExchange
      ((reportLost o (s.displacing o rest)).exchange.withBank n a) := by
  obtain ⟨-, transmitter, -⟩ := reportLost_exchange o (s.displacing o rest)
  have busy : (reportLost o (s.displacing o rest)).exchange.transmitter.isSome = true :=
    (congrArg Option.isSome transmitter).trans hb
  rw [handBankOrder_full h hq, Exchange.withBank_begun_busy busy]

/-- A hand-over writes the exchange, and otherwise what the loss of a displaced order brings about. -/
theorem handBankOrder_cases (n : Index4) (a : BankAction) (s : State) :
    ∃ x, handBankOrder n a s = s.setExchange x ∨
      ∃ o rest, handBankOrder n a s = (reportLost o (s.displacing o rest)).setExchange x := by
  by_cases h : s.exchange.queue.length < 8
  · exact ⟨_, .inl (handBankOrder_room h)⟩
  · rcases hq : newestOrder s.exchange.queue with _ | ⟨o, rest⟩
    · exact ⟨_, .inl (handBankOrder_refused (Nat.not_lt.mp h) hq)⟩
    · exact ⟨_, .inr ⟨o, rest, handBankOrder_full (Nat.not_lt.mp h) hq⟩⟩

theorem handBankOrder_outside (n : Index4) (a : BankAction) (s : State) : Outside s (handBankOrder n a s) := by
  obtain ⟨x, e | ⟨o, rest, e⟩⟩ := handBankOrder_cases n a s <;> rw [e]
  · exact ⟨rfl, rfl, rfl, rfl, rfl, rfl, rfl, rfl, rfl, rfl⟩
  · have lost := reportLost_outside o (s.displacing o rest)
    exact ⟨lost.pending, lost.freeCount, lost.rstn, lost.straps, lost.params, lost.ports, lost.asm, lost.trackers,
      lost.banks, lost.capture⟩

theorem handBankOrder_status (n : Index4) (a : BankAction) {m : NoticeSource} (hm : m ≠ .release) {s : State}
    (h : (s.notices.records.get m).status = true) : ((handBankOrder n a s).notices.records.get m).status = true := by
  obtain ⟨x, e | ⟨o, rest, e⟩⟩ := handBankOrder_cases n a s <;> rw [e]
  · exact h
  · exact reportLost_status o hm (s := s.displacing o rest) h

/-! ## A bank order placed (R115) -/

/-- R115: the state of a bank for which an order is placed. -/
def BankAction.places : BankAction → BankState
  | .close => .closing
  | .opening => .opening

theorem BankAction.places_eq (a : BankAction) : a.places = if a = .close then .closing else .opening := by
  cases a <;> rfl

theorem BankAction.needs_eq (a : BankAction) : a.needs = if a = .close then .out else .inService := by
  cases a <;> rfl

/-- R115: the bank's record in transition, its confirmation timer loaded. -/
def State.placed (s : State) (n : Index4) (a : BankAction) : State :=
  s.setBankRec n { s.bankRec n with state := a.places, confirmTimer := some s.params.bankConfirmTimeout }

theorem placeBankOrder_eq (n : Index4) (a : BankAction) (s : State) : placeBankOrder n a s =
    handBankOrder n a (momentAfter [.bankChange]
      (if (s.bankRec n).state = a.places then s.placed n a else raise .bankChange (s.placed n a))) := by
  have written : writeBank n { s.bankRec n with
      state := a.places, confirmTimer := some s.params.bankConfirmTimeout } s =
      if (s.bankRec n).state = a.places then s.placed n a else raise .bankChange (s.placed n a) := by
    have sound : a.places ≠ .faulted := by cases a <;> decide
    unfold writeBank
    dsimp only
    rw [if_neg sound]
    by_cases h : a.places = (s.bankRec n).state
    · rw [if_pos h, if_pos h.symm]
      rfl
    · rw [if_neg h, if_neg fun e => h e.symm]
      rfl
  rw [← written]
  cases a <;> rfl

/-- R113: B_BANK does not change with a record that contributes as before. -/
theorem bBank_setBankRec {s : State} {n : Index4} {r : BankRec} (h : r.contribution = (s.bankRec n).contribution) :
    (s.setBankRec n r).bBank = s.bBank := by
  cases n with
  | i0 => exact congrArg (· + _ + _ + _) h
  | i1 => exact congrArg (_ + · + _ + _) h
  | i2 => exact congrArg (_ + _ + · + _) h
  | i3 => exact congrArg (_ + _ + _ + ·) h

/-- R113: an order placed for a bank in the state it needs leaves B_BANK as it was. -/
theorem bBank_placed {s : State} {n : Index4} {a : BankAction} (h : (s.bankRec n).state = a.needs) :
    (s.placed n a).bBank = s.bBank := by
  refine bBank_setBankRec ?_
  unfold BankRec.contribution
  rw [h]
  cases a <;> rfl

/-- R115: the state in which the bank order is handed over. -/
def State.ordering (s : State) (n : Index4) (a : BankAction) : State :=
  momentAfter [.bankChange] (raise .bankChange (s.placed n a))

/-- R115: a bank in the state that the action needs changes its state, which BANK_CHANGE tells. -/
theorem placeBankOrder_needs {s : State} {n : Index4} {a : BankAction} (h : (s.bankRec n).state = a.needs) :
    placeBankOrder n a s = handBankOrder n a (s.ordering n a) := by
  have changes : (s.bankRec n).state ≠ a.places := by
    rw [h]
    cases a <;> decide
  rw [placeBankOrder_eq, if_neg changes]
  rfl

theorem placeBankOrder_outside {s : State} {n : Index4} {a : BankAction} (h : (s.bankRec n).state = a.needs) :
    Outside (s.placed n a) (placeBankOrder n a s) := by
  have raised : Outside (s.placed n a) (raise .bankChange (s.placed n a)) :=
    ⟨rfl, rfl, rfl, rfl, rfl, rfl, rfl, rfl, rfl, rfl⟩
  rw [placeBankOrder_needs h]
  exact (raised.trans (momentAfter_outside _ _)).trans (handBankOrder_outside n a _)

theorem placeBankOrder_status {s : State} {n : Index4} {a : BankAction} (h : (s.bankRec n).state = a.needs) :
    ((placeBankOrder n a s).notices.records.get .bankChange).status = true := by
  rw [placeBankOrder_needs h]
  refine handBankOrder_status n a (by decide) ?_
  unfold State.ordering
  rw [momentAfter_records, raise_status]
  rfl

/-! ## BANK_FORCE (R126) -/

theorem bankAction?_none {b : Byte} (h : 1 < b.toNat) : bankAction? b = none := by
  unfold bankAction?
  split
  case h_3 => rfl
  all_goals omega

theorem actBankForce_outside_range {bank action : Byte} (h : 3 < bank.toNat ∨ 1 < action.toNat) (s : State) :
    actBankForce bank action s = s.refuse .range := by
  unfold actBankForce
  rcases h with h | h
  · rw [index4?_none h]
  · rw [bankAction?_none h]
    cases index4? bank <;> rfl

section
variable {bank action : Byte} {n : Index4} {a : BankAction} {s : State}

theorem actBankForce_busy (hn : index4? bank = some n) (ha : bankAction? action = some a)
    (ht : s.anyTransitional = true) : actBankForce bank action s = s.refuse .busy := by
  unfold actBankForce
  rw [hn, ha]
  exact if_pos ht

theorem actBankForce_wrong_state (hn : index4? bank = some n) (ha : bankAction? action = some a)
    (ht : s.anyTransitional = false) (hs : (s.bankRec n).state ≠ a.needs) :
    actBankForce bank action s = s.refuse .range := by
  unfold actBankForce
  rw [hn, ha]
  exact (if_neg (Bool.eq_false_iff.mp ht)).trans (if_pos hs)

/-- R126: the state a BANK_FORCE leaves that places its order. -/
def State.forced (s : State) (n : Index4) (a : BankAction) : State :=
  (placeBankOrder n a s).countBanks fun c => { c with forced := bump c.forced }

theorem forced_banks (hs : (s.bankRec n).state = a.needs) : (s.forced n a).banks =
    { (s.placed n a).banks with counters := { s.banks.counters with forced := bump s.banks.counters.forced } } :=
  congrArg (fun x : BankController => { x with counters := { x.counters with forced := bump x.counters.forced } })
    (placeBankOrder_outside hs).banks

theorem forced_bankRec (hs : (s.bankRec n).state = a.needs) : (s.forced n a).bankRec n =
    { s.bankRec n with state := a.places, confirmTimer := some s.params.bankConfirmTimeout } := by
  unfold State.bankRec
  rw [forced_banks hs]
  exact Four.get_set_self _ _ _

theorem forced_bankRec_other (hs : (s.bankRec n).state = a.needs) {m : Index4} (hm : m ≠ n) :
    (s.forced n a).bankRec m = s.bankRec m := by
  unfold State.bankRec
  rw [forced_banks hs]
  exact Four.get_set_ne _ _ hm

theorem forced_bBank (hs : (s.bankRec n).state = a.needs) : (s.forced n a).bBank = s.bBank := by
  rw [← bBank_placed hs]
  unfold State.bBank
  rw [forced_banks hs]

theorem actBankForce_places (hn : index4? bank = some n) (ha : bankAction? action = some a)
    (ht : s.anyTransitional = false) (hs : (s.bankRec n).state = a.needs) :
    actBankForce bank action s = (s.forced n a).done (.bankForce n a.places) := by
  have told : ((s.forced n a).bankRec n).state = a.places := congrArg BankRec.state (forced_bankRec hs)
  rw [← told]
  unfold actBankForce
  rw [hn, ha]
  exact (if_neg (Bool.eq_false_iff.mp ht)).trans (if_neg fun ne => ne hs)

theorem forced_apart (hs : (s.bankRec n).state = a.needs) : (s.forced n a).params = s.params ∧
    (s.forced n a).asm = s.asm ∧ (s.forced n a).trackers = s.trackers ∧ (s.forced n a).capture = s.capture := by
  have outside := placeBankOrder_outside hs
  unfold State.forced State.countBanks
  rw [State.setBanks_params, State.setBanks_asm, State.setBanks_trackers, State.setBanks_capture, outside.params,
    outside.asm, outside.trackers, outside.capture]
  exact ⟨rfl, rfl, rfl, rfl⟩

theorem forced_status (hs : (s.bankRec n).state = a.needs) :
    ((s.forced n a).notices.records.get .bankChange).status = true := by
  unfold State.forced State.countBanks
  rw [State.setBanks_notices]
  exact placeBankOrder_status hs

theorem forced_dwell (hs : (s.bankRec n).state = a.needs) : (s.forced n a).banks.dwell = s.banks.dwell :=
  (congrArg BankController.dwell (forced_banks hs) :)

theorem forced_counters (hs : (s.bankRec n).state = a.needs) :
    (s.forced n a).banks.counters = { s.banks.counters with forced := bump s.banks.counters.forced } :=
  (congrArg BankController.counters (forced_banks hs) :)

/-- R90, R126: with room in the queue and a busy transmitter the order joins the queue, and nothing more happens. -/
theorem forced_queued (hs : (s.bankRec n).state = a.needs) (room : s.exchange.queue.length < 8)
    (busy : s.exchange.transmitter.isSome = true) :
    (s.forced n a).exchange.queue = s.exchange.queue ++ [.bank n a] ∧ (s.forced n a).control = s.control ∧
      (s.forced n a).demand = s.demand ∧ (s.forced n a).tables = s.tables := by
  have exchange : (s.ordering n a).exchange = s.exchange := momentAfter_exchange _ _
  have handed : placeBankOrder n a s = (s.ordering n a).setExchange (s.exchange.withBank n a) := by
    rw [placeBankOrder_needs hs, handBankOrder_room (by rwa [exchange]), exchange, Exchange.withBank_begun_busy busy]
  simp [State.forced, State.countBanks, handed, State.ordering, State.placed, State.setBankRec, Exchange.withBank]

end

/-! ## A bank order that displaces an order (R90) -/

section
variable {n : Index4} {a : BankAction} {s : State} {o : Order} {rest : List VFrame}

/-- R90: the displaced order is counted at its branch, the bank order at the queue. -/
theorem displaced_counters (full : 8 ≤ s.exchange.queue.length) (busy : s.exchange.transmitter.isSome = true)
    (newest : newestOrder s.exchange.queue = some (o, rest)) :
    ((handBankOrder n a s).exchangeRec o.branch).counters = { (s.exchangeRec o.branch).counters with
        missed := bump (s.exchangeRec o.branch).counters.missed } ∧
      (handBankOrder n a s).exchange.counters.bankQueued = bump s.exchange.counters.bankQueued := by
  obtain ⟨branches, -, bankQueued⟩ := reportLost_exchange o (s.displacing o rest)
  rw [handBankOrder_displaces full busy newest]
  constructor
  · have kept : (reportLost o (s.displacing o rest)).exchangeRec o.branch =
        (s.displacing o rest).exchangeRec o.branch := congrArg (PerBranch.get · o.branch) branches
    exact (congrArg ExchangeRec.counters kept).trans (congrArg ExchangeRec.counters (setExchangeRec_get _ _ _))
  · exact congrArg bump bankQueued

theorem displaced_gapCount (full : 8 ≤ s.exchange.queue.length) (busy : s.exchange.transmitter.isSome = true)
    (newest : newestOrder s.exchange.queue = some (o, rest)) :
    ((handBankOrder n a s).demand.get o.branch).gapCount =
      if o.flags.notFormed then (s.demand.get o.branch).gapCount else bump255 (s.demand.get o.branch).gapCount := by
  rw [handBankOrder_displaces full busy newest]
  exact reportLost_gapCount o (s.displacing o rest)

/-- R64, R90: a displaced order that brings no gap count to its limit leaves its place to the bank order. -/
theorem displaced_quiet (full : 8 ≤ s.exchange.queue.length) (busy : s.exchange.transmitter.isSome = true)
    (newest : newestOrder s.exchange.queue = some (o, rest))
    (quiet : o.flags.notFormed = true ∨ (s.demand.get o.branch).gapCount + 1 < s.params.gapLimit) :
    (handBankOrder n a s).control = s.control ∧ (handBankOrder n a s).exchange.queue = rest ++ [.bank n a] := by
  obtain ⟨d, lost⟩ := reportLost_quiet (s := s.displacing o rest) quiet
  rw [handBankOrder_displaces full busy newest, lost]
  exact ⟨rfl, rfl⟩

/-- R65, R90: a displaced order that brings the gap count to its limit trips GAP. -/
theorem displaced_trips (full : 8 ≤ s.exchange.queue.length) (busy : s.exchange.transmitter.isSome = true)
    (newest : newestOrder s.exchange.queue = some (o, rest)) (formed : o.flags.notFormed = false)
    (below : (s.demand.get o.branch).gapCount < 255)
    (limit : s.params.gapLimit ≤ (s.demand.get o.branch).gapCount + 1) :
    (handBankOrder n a s).control.trips.gap.get o.branch = true ∧ (handBankOrder n a s).control.release = .held := by
  rw [handBankOrder_displaces full busy newest]
  exact reportLost_trips (s := s.displacing o rest) formed below limit

end

/-! ## The three parts of the statement -/

/-- R126: what BANK_FORCE answers, and what it leaves when it places the order. -/
theorem exec_bankForce {s : State} {tag bank action : Byte} (h : Ready s) {u : State} {code : ResultCode}
    {data : ReplyData} (ha : actBankForce bank action s.taken = (u, some (code, data))) :
    ∃ t, exec (.bankForce s.unitByte tag bank action) s = .next t ∧ Settled (u.replied tag 11 code data) t :=
  exec_answered h rfl (by decide) rfl ha

end Sys2Proof.Machine

open Sys2Proof.Machine in
/-- Settles O47: the record is written before the order is handed over, whose loss of a queued order can move what lies
outside the banks alone; BANK_FORCE is the case split of its checks. -/
theorem bankForcePlacesOrder : Obligations.BankForcePlacesOrder := by
  unfold Obligations.BankForcePlacesOrder
  refine ⟨?placed, ?forced, ?handed⟩
  case placed =>
    rintro s n a _ _ rfl rfl
    rw [← a.places_eq]
    exact placeBankOrder_eq n a s
  case forced =>
    intro s tag bank action h
    refine ⟨fun outside => exec_bankForce h (actBankForce_outside_range outside _), fun n a hn ha => ?_⟩
    rw [← a.needs_eq]
    refine ⟨fun busy => exec_bankForce h (actBankForce_busy hn ha busy),
      fun free wrong => exec_bankForce h (actBankForce_wrong_state hn ha free wrong), fun free right => ?_⟩
    have places : (s.taken.bankRec n).state = a.needs := right
    obtain ⟨t, ht, settled⟩ := exec_bankForce (tag := tag) h (actBankForce_places hn ha free places)
    obtain ⟨params, asm, trackers, capture⟩ := forced_apart places
    have queued := forced_queued places
    exact ⟨t, s.taken.forced n a, a.places, a.places_eq, ht, settled, forced_bankRec places,
      fun m hm => forced_bankRec_other places hm, forced_dwell places, forced_counters places, forced_bBank places,
      forced_status places, params, asm, trackers, capture, queued⟩
  case handed =>
    intro s n a
    refine ⟨fun room busy => ?_, fun room idle empty => ?_, fun full banks => ?_,
      fun before o after full busy split banks => ?_⟩
    · rw [handBankOrder_room room, Exchange.withBank_begun_busy busy]
      rfl
    · rw [handBankOrder_room room, Exchange.withBank_begun_idle idle empty]
    · exact handBankOrder_refused full (newestOrder_none banks)
    · have newest : newestOrder s.exchange.queue = some (o, before ++ after) := by
        rw [split]
        exact newestOrder_some banks
      obtain ⟨missed, bankQueued⟩ := displaced_counters full busy newest
      exact ⟨missed, bankQueued, displaced_gapCount full busy newest, displaced_quiet full busy newest,
        displaced_trips full busy newest⟩
end

section
/-! The Bank Controller's records: what writes them, and what a write leaves of the rest of the state (R112 to R124). -/

namespace Sys2Proof.Machine

/-! ## What the Bank Controller's operations touch -/

/-- Nothing but the Bank Controller and the Notice Unit has changed, and no notice's status has been cleared. -/
structure BanksOnly (s t : State) : Prop where
  state : t = { s with banks := t.banks, notices := t.notices }
  status : ∀ m, (s.notices.records.get m).status = true → (t.notices.records.get m).status = true

namespace BanksOnly
variable {s t u : State}

theorem refl (s : State) : BanksOnly s s := ⟨rfl, fun _ h => h⟩

theorem trans (h : BanksOnly s t) (k : BanksOnly t u) : BanksOnly s u :=
  ⟨k.state.trans (by rw [h.state]), fun m hm => k.status m (h.status m hm)⟩

theorem params (h : BanksOnly s t) : t.params = s.params := by rw [h.state]
theorem ports (h : BanksOnly s t) : t.ports = s.ports := by rw [h.state]
theorem asm (h : BanksOnly s t) : t.asm = s.asm := by rw [h.state]
theorem trackers (h : BanksOnly s t) : t.trackers = s.trackers := by rw [h.state]
theorem demand (h : BanksOnly s t) : t.demand = s.demand := by rw [h.state]
theorem tables (h : BanksOnly s t) : t.tables = s.tables := by rw [h.state]
theorem exchange (h : BanksOnly s t) : t.exchange = s.exchange := by rw [h.state]
theorem control (h : BanksOnly s t) : t.control = s.control := by rw [h.state]
theorem capture (h : BanksOnly s t) : t.capture = s.capture := by rw [h.state]
theorem processor (h : BanksOnly s t) : t.processor = s.processor := by rw [h.state]

theorem foldl {f : State → Index4 → State} (h : ∀ t n, BanksOnly t (f t n)) :
    ∀ (l : List Index4) (s : State), BanksOnly s (l.foldl f s)
  | [], s => refl s
  | n :: rest, s => (h s n).trans (foldl h rest (f s n))

end BanksOnly

theorem banksOnly_setBanks (s : State) (x : BankController) : BanksOnly s (s.setBanks x) := ⟨rfl, fun _ h => h⟩

theorem banksOnly_setBankRec (s : State) (n : Index4) (r : BankRec) : BanksOnly s (s.setBankRec n r) :=
  banksOnly_setBanks s _

theorem banksOnly_raise (n : NoticeSource) (s : State) : BanksOnly s (raise n s) :=
  ⟨rfl, fun m h => by rw [raise_status, h, Bool.or_true]⟩

theorem banksOnly_momentAfter (l : List NoticeSource) (s : State) : BanksOnly s (momentAfter l s) := by
  obtain ⟨x, e⟩ := momentAfter_eq l s
  rw [e]
  exact ⟨rfl, fun _ h => h⟩

theorem banks_of_outer {s t : State} (h : t.outer = s.outer) : t.banks = s.banks := congrArg Outer.banks h

theorem OnlyAssembler.banks {s t : State} (h : OnlyAssembler s t) : t.banks = s.banks := congrArg Outer.banks h

theorem bankRec_of_banks {s t : State} (h : t.banks = s.banks) (n : Index4) : t.bankRec n = s.bankRec n :=
  congrArg (fun x : BankController => x.banks.get n) h

theorem bankRec_setBankRec (s : State) (n m : Index4) (r : BankRec) :
    (s.setBankRec n r).bankRec m = if m = n then r else s.bankRec m := Four.get_set _ n m r

/-! ## A record written (R112) -/

section
variable {n : Index4} {r : BankRec} {s : State}

theorem writeBank_kept (h : r.state = (s.bankRec n).state) : writeBank n r s = s.setBankRec n r := if_pos h

theorem writeBank_changed (h : r.state ≠ (s.bankRec n).state) (hf : r.state ≠ .faulted) :
    writeBank n r s = raise .bankChange (s.setBankRec n r) := (if_neg h).trans (if_neg hf)

theorem writeBank_faults (h : (s.bankRec n).state ≠ .faulted) (hf : r.state = .faulted) :
    writeBank n r s = raise .bankFault (raise .bankChange (s.setBankRec n r)) :=
  (if_neg fun e => h (e.symm.trans hf)).trans (if_pos hf)

/-- R112: a change of state raises BANK_CHANGE. -/
theorem writeBank_bankChange (h : r.state ≠ (s.bankRec n).state) :
    ((writeBank n r s).notices.records.get .bankChange).status = true := by
  by_cases hf : r.state = .faulted
  · rw [writeBank_faults (fun e => h (hf.trans e.symm)) hf, raise_status, raise_status]
    rfl
  · rw [writeBank_changed h hf, raise_status]
    rfl

end

theorem banksOnly_writeBank (n : Index4) (r : BankRec) (s : State) : BanksOnly s (writeBank n r s) := by
  have written := banksOnly_setBankRec s n r
  unfold writeBank
  dsimp only
  split
  · exact written
  · split
    · exact written.trans ((banksOnly_raise _ _).trans (banksOnly_raise _ _))
    · exact written.trans (banksOnly_raise _ _)

theorem writeBank_banks (n : Index4) (r : BankRec) (s : State) :
    (writeBank n r s).banks = { s.banks with banks := s.banks.banks.set n r } := by
  unfold writeBank
  dsimp only
  split
  · rfl
  · split <;> rfl

theorem writeBank_bankRec (n m : Index4) (r : BankRec) (s : State) :
    (writeBank n r s).bankRec m = if m = n then r else s.bankRec m :=
  (bankRec_of_banks (s := s.setBankRec n r) (writeBank_banks n r s) m).trans (bankRec_setBankRec s n m r)

/-! ## The dwell timer loaded, and an entry into FAULTED (R119, R124) -/

theorem banksOnly_loadDwell (s : State) : BanksOnly s (loadDwell s) := banksOnly_setBanks s _

theorem loadDwell_dwell {s t : State} (h : BanksOnly s t) : (loadDwell t).banks.dwell = some s.params.bankDwell :=
  congrArg (fun p : Params => some p.bankDwell) h.params

/-- R119: the record of a bank that enters FAULTED. -/
def BankRec.fault (r : BankRec) (code : Option Byte) (count : BankCounters → BankCounters) : BankRec :=
  { r.count count with
    state := .faulted
    counted := r.state.countsWhenFaulted
    confirmTimer := none
    dischargeTimer := none
    faultCode := code.or r.faultCode }

section
variable (n : Index4) (code : Option Byte) (count : BankCounters → BankCounters) (s : State)

theorem faultBank_eq : faultBank n code count s = loadDwell (writeBank n ((s.bankRec n).fault code count) s) := rfl

theorem banksOnly_faultBank : BanksOnly s (faultBank n code count s) :=
  (banksOnly_writeBank n _ s).trans (banksOnly_loadDwell _)

theorem faultBank_bankRec (m : Index4) : (faultBank n code count s).bankRec m =
    if m = n then (s.bankRec n).fault code count else s.bankRec m := writeBank_bankRec n m _ s

theorem faultBank_dwell : (faultBank n code count s).banks.dwell = some s.params.bankDwell :=
  loadDwell_dwell (banksOnly_writeBank n _ s)

variable {n code count s} in
/-- R112, R119: an entry into FAULTED raises BANK_CHANGE and BANK_FAULT. -/
theorem faultBank_status (h : (s.bankRec n).state ≠ .faulted) :
    ((faultBank n code count s).notices.records.get .bankChange).status = true ∧
      ((faultBank n code count s).notices.records.get .bankFault).status = true := by
  rw [faultBank_eq, writeBank_faults h rfl]
  change ((raise _ (raise _ (s.setBankRec n _))).notices.records.get _).status = true ∧
    ((raise _ (raise _ (s.setBankRec n _))).notices.records.get _).status = true
  simp only [raise_status]
  exact ⟨rfl, rfl⟩

end

/-! ## Which banks are transitional (R114) -/

theorem transitional_iff (x : BankState) : x.transitional = true ↔ x = .closing ∨ x = .opening := by
  cases x <;> simp [BankState.transitional]

theorem anyTransitional_iff (s : State) : s.anyTransitional = true ↔ ∃ n, (s.bankRec n).state.transitional = true := by
  simp [State.anyTransitional, Index4.mem_all]

theorem anyTransitional_eq_false (s : State) :
    s.anyTransitional = false ↔ ∀ n, (s.bankRec n).state.transitional = false := by
  rw [← Bool.not_eq_true, anyTransitional_iff]
  simp

end Sys2Proof.Machine
end

section
/-! Every step keeps at most one filter bank in CLOSING or OPENING (R114): no operation but the placing of a bank order
lets a bank enter them, and an order is placed only while no bank is there. -/

namespace Sys2Proof.Machine

/-! ## No bank enters CLOSING or OPENING -/

/-- Every bank in CLOSING or OPENING was there before. -/
def NoneEnters (s t : State) : Prop :=
  ∀ n, (t.bankRec n).state.transitional = true → (s.bankRec n).state.transitional = true

theorem OneTransitional.of_noneEnters {s t : State} (h : OneTransitional s) (k : NoneEnters s t) : OneTransitional t :=
  fun n m hn hm => h n m (k n hn) (k m hm)

namespace NoneEnters

theorem refl (s : State) : NoneEnters s s := fun _ h => h

theorem trans {s t u : State} (h : NoneEnters s t) (k : NoneEnters t u) : NoneEnters s u := fun n hn => h n (k n hn)

theorem of_banks {s t : State} (h : t.banks = s.banks) : NoneEnters s t := fun n hn => by
  rwa [bankRec_of_banks h] at hn

theorem of_outer {s t : State} (h : t.outer = s.outer) : NoneEnters s t := of_banks (banks_of_outer h)

theorem foldl {f : State → Index4 → State} (h : ∀ t n, NoneEnters t (f t n)) :
    ∀ (l : List Index4) (s : State), NoneEnters s (l.foldl f s)
  | [], s => refl s
  | n :: rest, s => (h s n).trans (foldl h rest (f s n))

end NoneEnters

/-- A write enters CLOSING or OPENING only by the state it writes. -/
theorem noneEnters_writeBank {n : Index4} {r : BankRec} {s : State}
    (h : r.state.transitional = true → (s.bankRec n).state.transitional = true) : NoneEnters s (writeBank n r s) := by
  intro m hm
  rw [writeBank_bankRec] at hm
  split at hm
  · next e => exact e ▸ h hm
  · exact hm

theorem noneEnters_setBankRec {n : Index4} {r : BankRec} {s : State}
    (h : r.state.transitional = true → (s.bankRec n).state.transitional = true) : NoneEnters s (s.setBankRec n r) := by
  intro m hm
  rw [bankRec_setBankRec] at hm
  split at hm
  · next e => exact e ▸ h hm
  · exact hm

/-! ## Status frames, timers and BANK_SET -/

theorem noneEnters_faultBank (n : Index4) (code : Option Byte) (count : BankCounters → BankCounters) (s : State) :
    NoneEnters s (faultBank n code count s) :=
  noneEnters_writeBank (s := s) fun h => absurd h Bool.false_ne_true

/-- R114: a bank status frame never moves a bank into CLOSING or OPENING. -/
theorem noneEnters_takeBankStatus (n : Index4) (st : BankStatus) (code : Byte) (s : State) :
    NoneEnters s (takeBankStatus n st code s) := by
  have confirmed : ∀ r : BankRec, r.state.transitional = false → NoneEnters s (confirmBank n r s) := fun r hr =>
    noneEnters_writeBank (r := r) (s := s) fun h => absurd (hr.symm.trans h) Bool.false_ne_true
  have moved : ∀ r : BankRec, r.state.transitional = false → NoneEnters s (moveBank n r s) := fun r hr =>
    noneEnters_writeBank (s := s) fun h => absurd (hr.symm.trans h) Bool.false_ne_true
  have contrary : NoneEnters s (contraryStatus n s) := noneEnters_setBankRec id
  have agreeing : ∀ c, NoneEnters s (agreeingStatus n c s) := fun c => noneEnters_setBankRec id
  unfold takeBankStatus
  dsimp only
  split
  case h_1 => exact .refl s
  case h_2 | h_3 => exact confirmed _ rfl
  case h_4 | h_5 | h_6 | h_7 | h_8 => exact moved _ rfl
  case h_9 | h_10 => exact contrary
  case h_11 | h_12 | h_13 | h_14 => exact agreeing _
  all_goals exact noneEnters_faultBank _ _ _ _

theorem noneEnters_receiveBankStatus (bank status code : Byte) (s : State) :
    NoneEnters s (receiveBankStatus bank status code s) := by
  unfold receiveBankStatus
  split
  · exact noneEnters_takeBankStatus _ _ _ s
  · exact .refl s

theorem noneEnters_tickConfirmation (s : State) (n : Index4) : NoneEnters s (tickConfirmation s n) := by
  unfold tickConfirmation
  dsimp only
  split
  · split
    · exact noneEnters_faultBank _ _ _ s
    · exact noneEnters_setBankRec id
  · exact .refl s

theorem noneEnters_expireDischarge (n : Index4) (s : State) : NoneEnters s (expireDischarge n s) :=
  noneEnters_writeBank fun h => nomatch h

theorem noneEnters_tickDischarge (s : State) (n : Index4) : NoneEnters s (tickDischarge s n) := by
  unfold tickDischarge
  dsimp only
  split
  · split
    · exact noneEnters_expireDischarge n s
    · exact noneEnters_setBankRec id
  · exact .refl s

theorem noneEnters_tickDwell (s : State) : NoneEnters s (tickDwell s) := by
  unfold tickDwell
  split
  · exact .refl s
  · split <;> exact .refl s

theorem noneEnters_confirmationExpiresAt (s : State) (n : Index4) : NoneEnters s (confirmationExpiresAt s n) := by
  unfold confirmationExpiresAt
  split
  · exact noneEnters_faultBank _ _ _ s
  · exact .refl s

theorem noneEnters_dischargeExpires (n : Index4) (s : State) : NoneEnters s (dischargeExpires n s) := by
  unfold dischargeExpires
  split
  · exact noneEnters_expireDischarge n s
  · exact .refl s

/-- R127: BANK_SET writes only IN, OUT or ABSENT. -/
theorem bankSetState?_settled {b : Byte} {x : BankState} (h : bankSetState? b = some x) : x.transitional = false := by
  unfold bankSetState? at h
  split at h <;> cases h <;> rfl

theorem noneEnters_actBankSet (bank present : Byte) (susceptance : Half) (state : Byte) (s : State) :
    NoneEnters s (actBankSet bank present susceptance state s).1 := by
  have record : ∀ (n : Index4) (x : BankState) (w : Nat), x.transitional = false →
      NoneEnters s (setBankRecord n x w s).1 := fun n x w hx =>
    noneEnters_writeBank (s := s) fun h => absurd (hx.symm.trans h) Bool.false_ne_true
  unfold actBankSet
  split
  · exact .refl s
  · split
    · split
      · exact .refl s
      · exact record _ _ _ rfl
    · split
      · next hx =>
        split
        · exact .refl s
        · split
          · exact .refl s
          · exact record _ _ _ (bankSetState?_settled hx)
      · exact .refl s
    · exact .refl s

/-! ## Bank orders -/

/-- R114, R115: an order placed while no bank is transitional makes its own bank the only one. -/
theorem oneTransitional_placeBankOrder {n : Index4} {a : BankAction} {s : State} (free : s.anyTransitional = false)
    (hs : (s.bankRec n).state = a.needs) : OneTransitional (placeBankOrder n a s) := by
  have only : ∀ m, ((placeBankOrder n a s).bankRec m).state.transitional = true → m = n := fun m hm => by
    have written : (placeBankOrder n a s).bankRec m = (s.placed n a).bankRec m :=
      bankRec_of_banks (placeBankOrder_outside hs).banks m
    by_contra other
    rw [written, State.placed, bankRec_setBankRec, if_neg other, (anyTransitional_eq_false s).mp free m] at hm
    exact Bool.false_ne_true hm
  exact fun m k hm hk => (only m hm).trans (only k hk).symm

theorem OneTransitional.actBankForce {s : State} (h : OneTransitional s) (bank action : Byte) :
    OneTransitional (actBankForce bank action s).1 := by
  unfold Machine.actBankForce
  split
  · split
    · exact h
    · next free =>
      split
      · exact h
      · next needs =>
        exact (oneTransitional_placeBankOrder (Bool.eq_false_iff.mpr free) (not_not.mp needs)).of_noneEnters (.refl _)
  · exact h

/-- R125: what automatic switching finds when it is evaluated. -/
theorem switchingEvaluated_iff (s : State) : s.switchingEvaluated = true ↔
    s.params.autoBanks = true ∧ s.control.release = .released ∧ s.anyTransitional = false ∧ s.banks.dwell = none := by
  simp [State.switchingEvaluated, and_assoc]

theorem lowestBank_state {s : State} {x : BankState} {n : Index4} (h : s.lowestBank x = some n) :
    (s.bankRec n).state = x := by
  simpa using List.find?_some h

theorem highestBank_state {s : State} {x : BankState} {n : Index4} (h : s.highestBank x = some n) :
    (s.bankRec n).state = x := by
  simpa using List.find?_some h

/-- R125: automatic switching leaves the state, raises CLAMP, or, where no bank is transitional, places an order for a
bank in the state that the action needs. -/
theorem autoSwitch_cases (s : State) : autoSwitch s = s ∨ autoSwitch s = raise .clamp s ∨
    ∃ n a f, s.switchingEvaluated = true ∧ (s.bankRec n).state = BankAction.needs a ∧
      autoSwitch s = placeBankOrder n a (s.countBanks f) := by
  unfold autoSwitch
  split
  · next evaluated =>
    split
    · split
      · next n hn => exact .inr (.inr ⟨n, .close, _, evaluated, lowestBank_state hn, rfl⟩)
      · exact .inr (.inl rfl)
    · split
      · split
        · next n hn => exact .inr (.inr ⟨n, .opening, _, evaluated, highestBank_state hn, rfl⟩)
        · exact .inr (.inl rfl)
      · exact .inl rfl
  · exact .inl rfl

theorem OneTransitional.autoSwitch {s : State} (h : OneTransitional s) : OneTransitional (autoSwitch s) := by
  rcases autoSwitch_cases s with e | e | ⟨n, a, f, evaluated, needs, e⟩ <;> rw [e]
  · exact h
  · exact h.of_noneEnters (.refl s)
  · obtain ⟨-, -, free, -⟩ := (switchingEvaluated_iff s).mp evaluated
    exact oneTransitional_placeBankOrder (s := s.countBanks f) free needs

theorem OneTransitional.tickBanks {s : State} (h : OneTransitional s) : OneTransitional (tickBanks s) := by
  have dwell : ∀ t : State, NoneEnters t (if s.confirmationExpires then t else tickDwell t) := fun t => by
    split
    · exact .refl t
    · exact noneEnters_tickDwell t
  have moments : ∀ l t, NoneEnters t (momentAfter l t) := fun l t => .of_banks (momentAfter_banks l t)
  refine OneTransitional.autoSwitch (h.of_noneEnters ?_)
  exact ((NoneEnters.foldl noneEnters_tickConfirmation _ s).trans (moments _ _)).trans
    (((NoneEnters.foldl noneEnters_tickDischarge _ _).trans (moments _ _)).trans (dwell _))

theorem OneTransitional.localTick {s : State} (h : OneTransitional s) : OneTransitional (localTick s) := by
  have monitored : OneTransitional (tickDip (countTick s)) :=
    h.of_noneEnters (.of_banks ((banks_of_outer (outer_tickDip _)).trans rfl))
  refine inTurn_keeps _ _ _ (fun _ => monitored.of_noneEnters (.refl _)) (fun f hf t ht => ?_)
    fun t ht => ht.of_noneEnters (.of_outer (outer_moment t))
  simp only [List.mem_cons, List.not_mem_nil, or_false] at hf
  rcases hf with rfl | rfl
  · exact ht.of_noneEnters (.of_outer (outer_tickBlanking t))
  · exact ht.tickBanks

/-! ## Directives that leave the banks -/

theorem actSet_banks (ident : Byte) (value : Word) (s : State) : (actSet ident value s).1.banks = s.banks := by
  have after : ∀ p t, (afterWrite p t).banks = t.banks := fun p t => by
    unfold afterWrite
    split
    · split <;> rfl
    · rfl
    · rfl
    · exact banks_of_outer (outer_evalSupply t)
    · exact banks_of_outer (outer_evalSupply t)
    · exact banks_of_outer (outer_evalBase t)
    · rfl
  unfold actSet
  split
  · rfl
  · split
    · rfl
    · split
      · exact after _ _
      · rfl

theorem actSourceSet_banks (source enabled policy hold miss : Byte) (s : State) :
    (actSourceSet source enabled policy hold miss s).1.banks = s.banks := by
  unfold actSourceSet
  split
  · rfl
  · split
    · exact (acceptsNone_releaseCheck _).only.banks
    · rfl

theorem actAuxSet_banks (aux polarity kind debounce actions delay width : Byte) (s : State) :
    (actAuxSet aux polarity kind debounce actions delay width s).1.banks = s.banks := by
  unfold actAuxSet
  split
  · rfl
  · split
    · exact banks_of_outer ((outer_evalBase _).trans (outer_setAux _ _ _))
    · rfl

theorem actTableWrite_banks (start : Half) (n fill : Byte) (values : List Half) (s : State) :
    (actTableWrite start n fill values s).1.banks = s.banks := by
  unfold actTableWrite
  split
  · rfl
  · split
    · split
      · rfl
      · split <;> rfl
    · rfl

theorem actTableCommit_banks (tag : Byte) (s : State) : (actTableCommit tag s).1.banks = s.banks := by
  unfold actTableCommit
  split
  · rfl
  · split
    · rfl
    · split <;> rfl

theorem actBlock_banks (operand : Byte) (s : State) : (actBlock operand s).1.banks = s.banks := by
  unfold actBlock
  split
  · rfl
  · exact banks_of_outer (outer_evalBase _)

theorem actCaptureTrigger_banks (s : State) : (actCaptureTrigger s).1.banks = s.banks := by
  unfold actCaptureTrigger
  split
  · exact banks_of_outer (outer_trigger _ s)
  · rfl

theorem actMode_banks (operand : Byte) (s : State) : (actMode operand s).1.banks = s.banks := by
  have requested : ∀ t u, (requestMode t u).banks = u.banks := fun t u => by
    unfold requestMode
    split
    · exact banks_of_outer ((outer_evalBase _).trans (outer_changeMode _ _ _))
    · exact banks_of_outer ((outer_evalBase _).trans (outer_changeMode _ _ _))
    · exact banks_of_outer (outer_changeMode _ _ _)
    · rfl
  have taken : ∀ m, (takeMode m s).banks = s.banks := fun m => by
    unfold takeMode
    split
    · exact requested _ _
    · exact requested _ _
    all_goals
      split
      · rfl
      · exact banks_of_outer (outer_enterQuiescent s)
  unfold actMode
  split
  · rfl
  · split
    · rfl
    · exact taken _

/-- R130: an ENGINE reset leaves the Bank Controller. -/
theorem engineReset_banks (s : State) : (engineReset s).banks = s.banks := by
  obtain ⟨tables, processor, records, valid, dip, ready, hs, -⟩ := engineReset_eq s
  rw [hs]

theorem actReset_banks (scope : Byte) (s : State) : (actReset scope s).1.banks = s.banks := by
  unfold actReset
  split
  · rfl
  · exact (moment_banks _).trans (engineReset_banks s)
  · rfl

/-! ## A directive, a command, a step -/

theorem noneEnters_actCounters (group clear : Byte) (s : State) : NoneEnters s (actCounters group clear s).1 := by
  have cleared : ∀ g, NoneEnters s (clearCounters s g) := fun g => by
    cases g with
    | banks => exact fun n hn => by cases n <;> exact hn
    | _ => exact .refl s
  unfold actCounters
  split
  · split
    · exact cleared _
    · exact .refl s
  · exact .refl s

theorem OneTransitional.act (d : Directive) (s : State) (h : OneTransitional s) : OneTransitional (act d s).1 := by
  have kept : ∀ {t : State}, t.banks = s.banks → OneTransitional t := fun e => h.of_noneEnters (.of_banks e)
  unfold Machine.act
  split
  case h_3 => exact h.of_noneEnters (noneEnters_actCounters _ _ s)
  case h_5 =>
    unfold actGet
    split <;> exact h
  case h_6 => exact kept (actSet_banks _ _ s)
  case h_7 =>
    unfold actMapSet
    split
    · exact h
    · split <;> exact kept rfl
  case h_8 => exact kept (actSourceSet_banks _ _ _ _ _ s)
  case h_9 => exact kept (actAuxSet_banks _ _ _ _ _ _ _ s)
  case h_10 => exact h.of_noneEnters (noneEnters_actBankSet _ _ _ _ s)
  case h_11 => exact h.actBankForce _ _
  case h_12 => exact kept (actTableWrite_banks _ _ _ _ s)
  case h_13 =>
    unfold actTableRead
    split
    · split <;> exact h
    · exact h
  case h_14 =>
    unfold actTableCopy
    split <;> exact kept rfl
  case h_15 => exact kept (actTableCommit_banks _ s)
  case h_16 => exact kept (actMode_banks _ s)
  case h_17 => exact kept (actBlock_banks _ s)
  case h_18 => exact kept (banks_of_outer (outer_evalBase _))
  case h_19 =>
    unfold actCaptureSet
    split
    · split <;> exact kept rfl
    · exact h
  case h_20 => exact kept (actCaptureTrigger_banks s)
  case h_21 =>
    unfold actCaptureRead
    split <;> exact kept rfl
  case h_23 =>
    unfold actNoticeSet
    split <;> exact kept rfl
  case h_24 =>
    unfold actNoticeClear
    split <;> exact kept rfl
  case h_25 => exact kept (actReset_banks _ s)
  all_goals exact kept rfl

theorem oneTransitional_stationFree : StationFree OneTransitional :=
  ⟨fun _ _ h => h, fun _ _ h => h, fun _ _ h => h, fun _ _ h => h⟩

theorem onlyAssembler_acceptFrame (e tag : Tag) (n : Index4) (f : SampleFrame) (s : State) :
    OnlyAssembler s (acceptFrame e tag n f s) := by
  rcases h : isDuplicate tag n s.asm.queue
  · exact (acceptFrame_acceptsOne h e f).only
  · rw [acceptFrame_duplicate h]
    exact onlyAssembler_setAsm s _

theorem onlyAssembler_handleFrame (e tag : Tag) (n : Index4) (f : SampleFrame) (s : State) :
    OnlyAssembler s (handleFrame e tag n f s) := by
  unfold handleFrame
  dsimp only
  split
  · exact onlyAssembler_acceptFrame _ _ _ _ s
  · split
    · exact (acceptsNone_forceReleases _ s).only.trans (onlyAssembler_acceptFrame _ _ _ _ _)
    · split
      · exact (acceptsNone_discontinuity tag n s).only.trans (onlyAssembler_acceptFrame _ _ _ _ _)
      · exact onlyAssembler_setAsm s _

theorem takeSample_banks (f : SampleFrame) (s : State) : (takeSample f s).banks = s.banks := by
  have handled : ∀ e tag n t, (handleFrame e tag n f t).banks = t.banks := fun e tag n t =>
    (onlyAssembler_handleFrame e tag n f t).banks
  unfold takeSample
  split
  · rfl
  · split
    · rfl
    · split
      · rfl
      · split
        · rfl
        · dsimp only
          split <;> exact handled _ _ _ _

theorem expireSilence_banks (s : State) : (expireSilence s).banks = s.banks :=
  (onlyAssembler_expireSilence s).banks

theorem completeV_banks (s : State) : (completeV s).banks = s.banks := by
  have sent : ∀ o, (orderSent o s.vIdle).banks = s.banks := fun o => by
    rw [orderSent_eq]
    rfl
  have begins : ∀ t, (beginV t).banks = t.banks := fun t => banks_of_outer (outer_beginV t)
  rcases ht : s.exchange.transmitter with _ | ⟨_ | ⟨n, a⟩, x⟩
  · rw [completeV_idle ht]
  · rw [completeV_order ht]
    split
    · exact (begins _).trans (sent _)
    · split
      · exact (begins _).trans (sent _)
      · exact (banks_of_outer (outer_lateCompletion _ _)).trans (sent _)
  · rw [completeV_bank ht]
    rfl

theorem receiveReport_banks (r : ReportFrame) (s : State) : (receiveReport r s).banks = s.banks := by
  unfold receiveReport
  split
  · rfl
  · exact banks_of_outer (outer_takeReport _ s)

theorem OneTransitional.receiveBytes {s : State} (h : OneTransitional s) (port : Port) (bytes : List Byte) :
    OneTransitional (receiveBytes port bytes s) := by
  have counted : ∀ v, NoneEnters s (s.countPort port fun c => c.count v) := fun v => by
    cases port <;> exact .refl s
  unfold Machine.receiveBytes
  dsimp only
  split
  · unfold handOn
    split
    · exact h.of_noneEnters ((counted _).trans (.of_banks (takeSample_banks _ _)))
    · exact oneTransitional_stationFree.admission _ _ (h.of_noneEnters (counted _))
    · exact h.of_noneEnters ((counted _).trans (.of_banks (receiveReport_banks _ _)))
    · exact h.of_noneEnters ((counted _).trans (noneEnters_receiveBankStatus _ _ _ _))
    · exact h.of_noneEnters (counted _)
  · exact h.of_noneEnters (counted _)

/-- R114: every command keeps at most one bank transitional. -/
theorem OneTransitional.exec {i : Instr} {s t : State} (h : OneTransitional s) (ht : exec i s = .next t) :
    OneTransitional t := by
  have directive : ∀ {unit tag kind : Byte} {length : Nat} {r : Request},
      whileReleased s (directiveArrives unit tag kind length r) = .next t → OneTransitional t :=
    whileReleased_keeps (oneTransitional_stationFree.directiveArrives OneTransitional.act _ _ _ _ _) h
  have settled : ∀ {f : State → State}, OneTransitional (f s) →
      whileReleased s (fun s => settle (f s)) = .next t → OneTransitional t :=
    fun hf => whileReleased_keeps (fun _ => oneTransitional_stationFree.settle OneTransitional.act hf) h
  have kept : ∀ {f : State → State}, NoneEnters s (f s) →
      whileReleased s (fun s => settle (f s)) = .next t → OneTransitional t := fun hf => settled (h.of_noneEnters hf)
  cases i with
  | sampleFrame f =>
    exact settled (oneTransitional_stationFree.receiveM
      (fun u hu => hu.of_noneEnters (.of_banks (takeSample_banks f u))) _ h) ht
  | localSamplePeriod =>
    refine kept (f := endSamplePeriod) (.of_banks ?_) ht
    unfold endSamplePeriod
    split
    · rfl
    · split
      · exact expireSilence_banks s
      · rfl
  | silenceTimerExpiry =>
    refine kept (f := silenceExpires) (.of_banks ?_) ht
    unfold silenceExpires
    split
    · rfl
    · exact expireSilence_banks s
  | localTick => exact settled h.localTick ht
  | confirmationTimerExpiry =>
    exact kept (f := Index4.all.foldl confirmationExpiresAt) (.foldl noneEnters_confirmationExpiresAt _ s) ht
  | dischargeTimerExpiry n => exact kept (noneEnters_dischargeExpires n s) ht
  | dwellTimerExpiry => exact kept (f := expireDwell) (.refl s) ht
  | dipToleranceExpiry =>
    refine kept (f := dipToleranceExpires) (.of_outer ?_) ht
    unfold dipToleranceExpires
    split
    · exact outer_dipInterruption s
    · rfl
  | blankingDelayExpiry =>
    refine kept (f := blankingDelayExpires) (.of_outer ?_) ht
    unfold blankingDelayExpires
    split
    · exact outer_activateBlanking _ s
    · rfl
  | blankingPulseEnd =>
    refine kept (f := blankingPulseEnds) (.of_outer ?_) ht
    unfold blankingPulseEnds
    split
    · exact outer_endBlanking s
    · rfl
  | valveReport r => exact kept (f := fun s => receiveReport r s.receivedV) (.of_banks (receiveReport_banks r _)) ht
  | bankStatusFrame bank status code =>
    exact kept (f := fun s => receiveBankStatus bank status code s.receivedV)
      (noneEnters_receiveBankStatus bank status code s.receivedV) ht
  | vTransmitCompletion => exact kept (.of_banks (completeV_banks s)) ht
  | frameRejected port bytes => exact settled (h.receiveBytes port bytes) ht
  | mTransmitCompletion =>
    exact whileReleased_keeps
      (oneTransitional_stationFree.completeM OneTransitional.act fun _ _ => oneTransitional_powerOn _ _ _ _) h ht
  | powerOnReset =>
    cases ht
    exact oneTransitional_powerOn _ _ _ _
  | rstnRelease fsel unit boot =>
    change execRstnRelease fsel unit boot s = .next t at ht
    unfold execRstnRelease at ht
    split at ht <;> cases ht
    · exact h
    · exact oneTransitional_powerOn _ _ _ _
  | _ => exact directive ht

theorem OneTransitional.step {s t : State} (h : OneTransitional s) (ht : step s = .next t) : OneTransitional t := by
  unfold Machine.step at ht
  split at ht
  · cases ht
    exact h
  · next c rest _ =>
    have waiting : OneTransitional { s with pending := rest } := h.of_noneEnters (.refl s)
    exact waiting.exec ht

end Sys2Proof.Machine

/-- Settles O57: every command keeps at most one bank transitional, the directives it takes included. -/
theorem stepKeepsOneBankTransitional : Obligations.StepKeepsOneBankTransitional := by
  unfold Obligations.StepKeepsOneBankTransitional
  intro s t hi ht
  exact hi.step ht
end

section
/-! BANK_SET (R127), and what B_BANK and the check of the sum add up (R113). -/

namespace Sys2Proof.Machine

/-! ## Sums over the banks (R113, R127) -/

theorem BankRec.contribution_eq (r : BankRec) : r.contribution =
    if r.state = .inService ∨ r.state = .opening ∨ r.state = .faulted ∧ r.counted = true then r.susceptance else 0 := by
  unfold BankRec.contribution
  cases h : r.state <;> simp

theorem bBank_eq {s : State} {w : Index4 → Nat} (h : ∀ n, w n = (s.bankRec n).contribution) :
    s.bBank = w .i0 + w .i1 + w .i2 + w .i3 := by
  rw [h, h, h, h]
  rfl

theorem otherSusceptance_eq {s : State} {n : Index4} {w : Index4 → Nat}
    (h : ∀ m, w m = if m = n ∨ (s.bankRec m).state = .absent then 0 else (s.bankRec m).susceptance) :
    s.otherSusceptance n = w .i0 + w .i1 + w .i2 + w .i3 := by
  have adds : ∀ a m, (if m = n then a else a + (s.bankRec m).present) = a + w m := fun a m => by
    rw [h m, BankRec.present]
    by_cases hm : m = n <;> by_cases ha : (s.bankRec m).state = .absent <;> simp [hm, ha]
  simp only [State.otherSusceptance, Index4.all, List.foldl, adds, Nat.zero_add]

/-! ## The directive (R127) -/

theorem bankSetState?_none {b : Byte} (h : 1 < b.toNat) : bankSetState? b = none := by
  unfold bankSetState?
  split
  case h_3 => rfl
  all_goals omega

theorem bankSetState?_ne_faulted {b : Byte} {x : BankState} (h : bankSetState? b = some x) : x ≠ .faulted := by
  unfold bankSetState? at h
  split at h <;> cases h <;> decide

/-- R127: the state in which a bank's record has been written and the dwell timer loaded. -/
def State.bankWritten (s : State) (n : Index4) (x : BankState) (w : Nat) : State :=
  loadDwell (writeBank n ⟨x, w, false, none, none, none, (s.bankRec n).counters⟩ s)

theorem bankWritten_banks (s : State) (n : Index4) (x : BankState) (w : Nat) : (s.bankWritten n x w).banks =
    { s.banks with
      banks := s.banks.banks.set n ⟨x, w, false, none, none, none, (s.bankRec n).counters⟩
      dwell := some s.params.bankDwell } := by
  unfold State.bankWritten loadDwell
  rw [State.setBanks_banks, writeBank_banks, (banksOnly_writeBank n _ s).params]

/-- R112, R127: a state that BANK_SET writes raises BANK_CHANGE where it is new, and nothing else. -/
theorem bankWritten_eq (s : State) (n : Index4) {x : BankState} (hx : x ≠ .faulted) (w : Nat) : s.bankWritten n x w =
    (if (s.bankRec n).state = x then s else s.raised .bankChange).setBanks (s.bankWritten n x w).banks := by
  rw [bankWritten_banks]
  unfold State.bankWritten
  split
  · next h =>
    rw [writeBank_kept h.symm]
    rfl
  · next h =>
    rw [writeBank_changed (fun e => h e.symm) hx]
    rfl

section
variable {bank present state : Byte} {w : Half} {n : Index4} {x : BankState} {s : State} (hp : s.parked = true)
include hp

theorem actBankSet_parked : actBankSet bank present w state s =
    match index4? bank, flag? present with
    | some n, some false => if s.bankSetBusy n then s.refuse .busy else setBankRecord n .absent 0 s
    | some n, some true =>
      match within? 0 4095 w.toNat, bankSetState? state with
      | some k, some x =>
        if s.bankSetBusy n then s.refuse .busy
        else if Config.susceptanceLimit < s.otherSusceptance n + k then s.refuse .range
        else setBankRecord n x k s
      | _, _ => s.refuse .range
    | _, _ => s.refuse .range := by
  unfold actBankSet
  rw [hp]
  rfl

theorem actBankSet_outside_range
    (h : 3 < bank.toNat ∨ 1 < present.toNat ∨ present = 1 ∧ (4095 < w.toNat ∨ 1 < state.toNat)) :
    actBankSet bank present w state s = s.refuse .range := by
  rw [actBankSet_parked hp]
  rcases h with h | h | ⟨rfl, h⟩
  · rw [index4?_none h]
  · rw [flag?_none h]
    cases index4? bank <;> rfl
  · rw [flag?_one]
    rcases index4? bank with _ | n
    · rfl
    · rcases h with h | h
      · rw [within?_none (.inr h)]
      · rw [bankSetState?_none h]
        cases within? 0 4095 w.toNat <;> rfl

/-- R127: with operands in their lists and ranges, the checks of the banks' states and of the sum remain. -/
theorem actBankSet_named (hn : index4? bank = some n)
    (ho : present = 1 ∧ bankSetState? state = some x ∧ w.toNat ≤ 4095 ∨ present = 0 ∧ x = .absent) :
    actBankSet bank present w state s = if s.bankSetBusy n then s.refuse .busy
      else if present = 1 ∧ Config.susceptanceLimit < s.otherSusceptance n + w.toNat then s.refuse .range
      else setBankRecord n x (if present = 1 then w.toNat else 0) s := by
  rw [actBankSet_parked hp, hn]
  rcases ho with ⟨rfl, hx, hw⟩ | ⟨rfl, rfl⟩
  · rw [flag?_one, within?_some (Nat.zero_le _) hw, hx]
    simp
  · rw [flag?_zero]
    simp

end

theorem bankSetBusy_iff (s : State) (n : Index4) :
    s.bankSetBusy n = true ↔ s.anyTransitional = true ∨ (s.bankRec n).state = .discharging := by
  simp [State.bankSetBusy]

theorem setBankRecord_eq (n : Index4) (x : BankState) (w : Nat) (s : State) :
    setBankRecord n x w s = (s.bankWritten n x w).done (.bankSet (s.bankWritten n x w).bBank) := rfl

end Sys2Proof.Machine

open Sys2Proof Sys2Proof.Machine in
/-- Settles O16: the sums by what each bank adds, then BANK_SET's checks in their order and the record it writes. -/
theorem bankSetWritesRecord : Obligations.BankSetWritesRecord := by
  unfold Obligations.BankSetWritesRecord
  refine ⟨fun s w hw => bBank_eq fun n => (hw n).trans (BankRec.contribution_eq _).symm,
    fun s n w hw => otherSusceptance_eq hw, fun s => ?_, ⟨rfl, rfl⟩, fun s tag bank present state w h hm hr => ?_⟩
  · simp only [anyTransitional_iff, transitional_iff]
  · have parked : s.taken.parked = true := (parked_iff s.taken).mpr ⟨hm, hr⟩
    have answers : ∀ {u : State} {code : ResultCode} {data : ReplyData},
        actBankSet bank present w state s.taken = (u, some (code, data)) →
        ∃ t, exec (.bankSet s.unitByte tag bank present w state) s = .next t ∧ Settled (u.replied tag 10 code data) t :=
      fun ha => exec_answered h rfl (by decide) rfl ha
    refine ⟨fun outside => answers (actBankSet_outside_range parked outside), fun n x hn ho => ?_⟩
    have named := actBankSet_named parked hn ho
    have idle : s.anyTransitional = false → (s.bankRec n).state ≠ .discharging → ¬s.taken.bankSetBusy n = true :=
      fun free charged busy =>
        ((bankSetBusy_iff s.taken n).mp busy).elim (fun e => Bool.false_ne_true (free.symm.trans e)) charged
    refine ⟨fun busy => answers (named.trans (if_pos ((bankSetBusy_iff s.taken n).mpr busy))),
      fun free charged hp sum => answers ((named.trans (if_neg (idle free charged))).trans (if_pos ⟨hp, sum⟩)),
      fun free charged fits => ?_⟩
    have within : ¬(present = 1 ∧ Config.susceptanceLimit < s.taken.otherSusceptance n + w.toNat) := fun ⟨hp, sum⟩ =>
      absurd (fits hp) (Nat.not_le.mpr sum)
    obtain ⟨t, ht, settled⟩ := answers (((named.trans (if_neg (idle free charged))).trans (if_neg within)).trans
      (setBankRecord_eq _ _ _ _))
    have known : x ≠ .faulted := by
      rcases ho with ⟨-, hx, -⟩ | ⟨-, rfl⟩
      · exact bankSetState?_ne_faulted hx
      · decide
    exact ⟨t, _, ht, settled, bankWritten_banks s.taken _ _ _, bankWritten_eq s.taken n known _⟩
end

section
/-! Bank status frames against the states of Table 6-3 (R117 to R120). -/

namespace Sys2Proof.Machine

/-! ## What each outcome writes -/

section
variable {n : Index4} {r : BankRec} {s : State}

/-- R118: a confirmation writes the bank's record, loads the dwell timer and clears the clamp counters. -/
theorem confirmBank_spec (h : r.state ≠ (s.bankRec n).state) : (confirmBank n r s).bankRec n = r ∧
    (confirmBank n r s).banks.dwell = some s.params.bankDwell ∧
    (∀ b, (confirmBank n r s).demand.get b = { s.demand.get b with clamp := 0 }) ∧
    ((confirmBank n r s).notices.records.get .bankChange).status = true := by
  have written := banksOnly_writeBank n r s
  refine ⟨?_, loadDwell_dwell written, fun b => ?_, writeBank_bankChange h⟩
  · exact (writeBank_bankRec n n r s).trans (if_pos rfl)
  · have loaded : (loadDwell (writeBank n r s)).demand = s.demand := written.demand
    simp only [confirmBank, zeroClamps, State.setDemand_demand, PerBranch.get_ofFn, loaded]

/-- R120: a move writes the bank's record, counted as unsolicited, and loads the dwell timer. -/
theorem moveBank_spec : (moveBank n r s).bankRec n =
      r.count (fun c => { c with unsolicited := bump c.unsolicited }) ∧
    (moveBank n r s).banks.dwell = some s.params.bankDwell ∧ (moveBank n r s).demand = s.demand := by
  have written := banksOnly_writeBank n (r.count fun c => { c with unsolicited := bump c.unsolicited }) s
  exact ⟨(writeBank_bankRec n n _ s).trans (if_pos rfl), loadDwell_dwell written, written.demand⟩

end

/-- R119: what a FAILED status that faults a bank leaves. -/
theorem failedStatus_spec {n : Index4} {s : State} (code : Byte) (h : (s.bankRec n).state ≠ .faulted) :
    (failedStatus n code s).bankRec n =
        (s.bankRec n).fault (some code) (fun c => { c with failed := bump c.failed }) ∧
      (failedStatus n code s).banks.dwell = some s.params.bankDwell ∧ (failedStatus n code s).demand = s.demand ∧
      ((failedStatus n code s).notices.records.get .bankFault).status = true ∧
      ((failedStatus n code s).notices.records.get .bankChange).status = true := by
  obtain ⟨change, fault⟩ := faultBank_status (code := some code)
    (count := fun c => { c with failed := bump c.failed }) h
  exact ⟨(faultBank_bankRec n _ _ s n).trans (if_pos rfl), faultBank_dwell n _ _ s,
    (banksOnly_faultBank n _ _ s).demand, fault, change⟩

/-- R112: a bank counts when it faults in IN or OPENING. -/
theorem countsWhenFaulted_eq (x : BankState) :
    x.countsWhenFaulted = (decide (x = .inService) || decide (x = .opening)) := by
  cases x <;> rfl

/-! ## Table 6-3 -/

section
variable {n : Index4} {st : BankStatus} {code : Byte} {s : State}

theorem takeBankStatus_absent (h : (s.bankRec n).state = .absent) :
    takeBankStatus n st code s = s.countBanks fun c => { c with stray := bump c.stray } := by
  simp only [takeBankStatus, h]

theorem takeBankStatus_closes (h : (s.bankRec n).state = .closing) : takeBankStatus n .closed code s =
    confirmBank n ((s.bankRec n).enterIn.count fun c => { c with closeConfirmed := bump c.closeConfirmed }) s := by
  simp only [takeBankStatus, h]

theorem takeBankStatus_opens (h : (s.bankRec n).state = .opening) : takeBankStatus n .opened code s =
    confirmBank n (((s.bankRec n).enterDischarging s.dischargeTime).count fun c =>
      { c with openConfirmed := bump c.openConfirmed }) s := by
  simp only [takeBankStatus, h]

theorem takeBankStatus_moves_in (h : (s.bankRec n).state = .out ∨ (s.bankRec n).state = .discharging ∨
    (s.bankRec n).state = .faulted) : takeBankStatus n .closed code s = moveBank n (s.bankRec n).enterIn s := by
  rcases h with h | h | h <;> simp only [takeBankStatus, h]

theorem takeBankStatus_moves_out (h : (s.bankRec n).state = .inService ∨ (s.bankRec n).state = .faulted) :
    takeBankStatus n .opened code s = moveBank n ((s.bankRec n).enterDischarging s.dischargeTime) s := by
  rcases h with h | h <;> simp only [takeBankStatus, h]

theorem takeBankStatus_fails (ha : (s.bankRec n).state ≠ .absent) (hf : (s.bankRec n).state ≠ .faulted) :
    takeBankStatus n .failed code s = failedStatus n code s := by
  unfold takeBankStatus
  dsimp only
  cases h : (s.bankRec n).state with
  | absent => exact absurd h ha
  | faulted => exact absurd h hf
  | _ => rfl

theorem takeBankStatus_contrary (h : (s.bankRec n).state = .closing ∧ st = .opened ∨
    (s.bankRec n).state = .opening ∧ st = .closed) : takeBankStatus n st code s = contraryStatus n s := by
  rcases h with ⟨h, rfl⟩ | ⟨h, rfl⟩ <;> simp only [takeBankStatus, h]

theorem takeBankStatus_agrees (h : (s.bankRec n).state = .inService ∧ st = .closed ∨
    (s.bankRec n).state = .out ∧ st = .opened ∨ (s.bankRec n).state = .discharging ∧ st = .opened ∨
    (s.bankRec n).state = .faulted ∧ st = .failed) :
    takeBankStatus n st code s = agreeingStatus n (if st = .failed then some code else none) s := by
  rcases h with ⟨h, rfl⟩ | ⟨h, rfl⟩ | ⟨h, rfl⟩ | ⟨h, rfl⟩ <;> simp only [takeBankStatus, h] <;> rfl

end

/-! ## What a status frame leaves -/

/-- But for the clamp counters that a confirmation clears, a status frame touches the Bank Controller and its
notices. -/
theorem takeBankStatus_banksOnly (n : Index4) (st : BankStatus) (code : Byte) (s : State) :
    BanksOnly s ((takeBankStatus n st code s).setDemand s.demand) := by
  have only : ∀ {t : State}, BanksOnly s t → BanksOnly s (t.setDemand s.demand) := fun {t} h => by
    rw [← h.demand]
    exact h
  have loaded : ∀ r, BanksOnly s (loadDwell (writeBank n r s)) := fun r =>
    (banksOnly_writeBank n r s).trans (banksOnly_loadDwell _)
  have confirmed : ∀ r, BanksOnly s ((confirmBank n r s).setDemand s.demand) := fun r => by
    have cleared : (confirmBank n r s).setDemand s.demand = (loadDwell (writeBank n r s)).setDemand s.demand := rfl
    rw [cleared]
    exact only (loaded r)
  unfold takeBankStatus
  dsimp only
  split
  case h_2 | h_3 => exact confirmed _
  case h_1 => exact only (banksOnly_setBanks s _)
  case h_9 | h_10 | h_11 | h_12 | h_13 | h_14 => exact only (banksOnly_setBankRec s n _)
  all_goals exact only (loaded _)

theorem takeBankStatus_other {n m : Index4} (hm : m ≠ n) (st : BankStatus) (code : Byte) (s : State) :
    (takeBankStatus n st code s).bankRec m = s.bankRec m := by
  have written : ∀ r, (writeBank n r s).bankRec m = s.bankRec m := fun r =>
    (writeBank_bankRec n m r s).trans (if_neg hm)
  have set : ∀ r, (s.setBankRec n r).bankRec m = s.bankRec m := fun r => (bankRec_setBankRec s n m r).trans (if_neg hm)
  unfold takeBankStatus
  dsimp only
  split
  case h_1 => rfl
  case h_9 | h_10 | h_11 | h_12 | h_13 | h_14 => exact set _
  all_goals exact written _

theorem bankStatus?_none {b : Byte} (h : 2 < b.toNat) : bankStatus? b = none := by
  unfold bankStatus?
  split
  case h_4 => rfl
  all_goals omega

theorem receiveBankStatus_bad {bank status : Byte} (h : 3 < bank.toNat ∨ 2 < status.toNat) (code : Byte) (s : State) :
    receiveBankStatus bank status code s = s.countV PortCounters.badFormat := by
  unfold receiveBankStatus
  rcases h with h | h
  · rw [index4?_none h]
  · rw [bankStatus?_none h]
    cases index4? bank <;> rfl

theorem receiveBankStatus_named {bank status : Byte} {n : Index4} {st : BankStatus} (hn : index4? bank = some n)
    (hst : bankStatus? status = some st) (code : Byte) (s : State) :
    receiveBankStatus bank status code s = takeBankStatus n st code s := by
  unfold receiveBankStatus
  rw [hn, hst]

end Sys2Proof.Machine

open Sys2Proof Sys2Proof.Machine in
/-- Settles O46: the frame's fields, then the row of Table 6-3 that the bank's state and the status select. -/
theorem bankStatusFollowsTable : Obligations.BankStatusFollowsTable := by
  unfold Obligations.BankStatusFollowsTable
  intro s bank status code h
  obtain ⟨t, ht, settled⟩ := exec_settled (i := .bankStatusFrame bank status code)
    (f := fun s => receiveBankStatus bank status code s.receivedV) h.high rfl
    ((receiveBankStatus_queue bank status code s.receivedV).trans h.queue)
  refine ⟨fun bad => ⟨t, ht, receiveBankStatus_bad bad code s.receivedV ▸ settled⟩, fun n st hn hst => ?_⟩
  rw [receiveBankStatus_named hn hst] at settled
  have only := takeBankStatus_banksOnly n st code s.receivedV
  refine ⟨t, takeBankStatus n st code s.receivedV, ht, settled, only.control, only.exchange, only.tables, only.params,
    only.asm, only.trackers, only.capture, only.processor, fun m hm => takeBankStatus_other hm st code s.receivedV,
    ?absent, ?closes, ?opens, ?movesIn, ?movesOut, ?fails, ?contrary, ?agrees⟩
  case absent =>
    intro hs
    rw [takeBankStatus_absent (s := s.receivedV) hs]
    exact ⟨rfl, rfl⟩
  case closes =>
    rintro hs rfl
    have changes : BankState.inService ≠ (s.bankRec n).state := by simp [hs]
    obtain ⟨record, dwell, clamps, change⟩ := confirmBank_spec (s := s.receivedV) (n := n)
      (r := (s.bankRec n).enterIn.count fun c => { c with closeConfirmed := bump c.closeConfirmed }) changes
    rw [takeBankStatus_closes (s := s.receivedV) hs]
    exact ⟨congrArg BankRec.state record, congrArg BankRec.confirmTimer record, dwell, clamps, change⟩
  case opens =>
    rintro hs rfl
    have changes : BankState.discharging ≠ (s.bankRec n).state := by simp [hs]
    obtain ⟨record, dwell, clamps, change⟩ := confirmBank_spec (s := s.receivedV) (n := n)
      (r := ((s.bankRec n).enterDischarging s.dischargeTime).count fun c =>
        { c with openConfirmed := bump c.openConfirmed }) changes
    rw [takeBankStatus_opens (s := s.receivedV) hs]
    exact ⟨congrArg BankRec.state record, congrArg BankRec.confirmTimer record, congrArg BankRec.dischargeTimer record,
      dwell, clamps, change⟩
  case movesIn =>
    rintro rfl hs
    obtain ⟨record, dwell, demand⟩ := moveBank_spec (s := s.receivedV) (n := n) (r := (s.bankRec n).enterIn)
    rw [takeBankStatus_moves_in (s := s.receivedV) hs]
    exact ⟨congrArg BankRec.state record, congrArg BankRec.counted record, congrArg BankRec.dischargeTimer record,
      dwell, congrArg (fun r => r.counters.unsolicited) record, demand⟩
  case movesOut =>
    rintro rfl hs
    obtain ⟨record, dwell, demand⟩ := moveBank_spec (s := s.receivedV) (n := n)
      (r := (s.bankRec n).enterDischarging s.dischargeTime)
    rw [takeBankStatus_moves_out (s := s.receivedV) hs]
    exact ⟨congrArg BankRec.state record, congrArg BankRec.counted record, congrArg BankRec.dischargeTimer record,
      dwell, demand⟩
  case fails =>
    rintro rfl ha hf
    obtain ⟨record, dwell, demand, fault, change⟩ := failedStatus_spec (s := s.receivedV) (n := n) code hf
    rw [takeBankStatus_fails (s := s.receivedV) ha hf]
    exact ⟨congrArg BankRec.state record, congrArg BankRec.faultCode record,
      (congrArg BankRec.counted record).trans (countsWhenFaulted_eq _), congrArg BankRec.confirmTimer record,
      congrArg BankRec.dischargeTimer record, dwell, demand, fault, change⟩
  case contrary =>
    intro hs
    rw [takeBankStatus_contrary (s := s.receivedV) hs]
    exact ⟨(bankRec_setBankRec s.receivedV n n _).trans (if_pos rfl), rfl⟩
  case agrees =>
    intro hs
    rw [takeBankStatus_agrees (s := s.receivedV) hs]
    refine ⟨((bankRec_setBankRec s.receivedV n n _).trans (if_pos rfl)).trans ?_, rfl⟩
    split <;> rfl
end

section
/-! The expiries of running timers (R112, R122 to R124, R137, R139, R154). -/

namespace Sys2Proof.Machine

/-! ## A confirmation timer expires (R122) -/

theorem BankRec.fault_transitional {r : BankRec} (h : r.state.transitional = true)
    (count : BankCounters → BankCounters) : r.fault none count = { r with
      state := .faulted
      counted := decide (r.state = .opening)
      confirmTimer := none
      dischargeTimer := none
      counters := count r.counters } := by
  have counted : r.state.countsWhenFaulted = decide (r.state = .opening) := by
    rcases (transitional_iff _).mp h with e | e <;> rw [e] <;> rfl
  unfold BankRec.fault
  rw [counted]
  rfl

theorem ne_faulted_of_transitional {x : BankState} (h : x.transitional = true) : x ≠ .faulted := by
  rintro rfl
  exact Bool.false_ne_true h

/-- R119, R122: the expiry faults a transitional bank, raises its notices and loads the dwell timer. -/
theorem expireConfirmation_eq {s : State} {n : Index4} (h : (s.bankRec n).state.transitional = true) :
    expireConfirmation n s = ((s.setBanks { s.banks with
      banks := s.banks.banks.set n { s.bankRec n with
        state := .faulted
        counted := decide ((s.bankRec n).state = .opening)
        confirmTimer := none
        dischargeTimer := none
        counters := { (s.bankRec n).counters with timeout := bump (s.bankRec n).counters.timeout } }
      dwell := some s.params.bankDwell }).raised .bankChange).raised .bankFault := by
  unfold expireConfirmation
  rw [faultBank_eq, writeBank_faults (ne_faulted_of_transitional h) rfl, BankRec.fault_transitional h]
  rfl

theorem confirmationExpiresAt_idle {s : State} {n : Index4} (h : (s.bankRec n).state.transitional = false) :
    confirmationExpiresAt s n = s := by
  simp [confirmationExpiresAt, h]

/-- R114, R122: the bank whose confirmation timer expires is the only transitional one. -/
theorem foldl_confirmationExpiresAt {s : State} {n : Index4} {k : Nat} (one : OneTransitional s)
    (h : (s.bankRec n).state.transitional = true) (hk : (s.bankRec n).confirmTimer = some k) :
    Index4.all.foldl confirmationExpiresAt s = expireConfirmation n s := by
  have still : ∀ m, m ≠ n → (s.bankRec m).state.transitional = false := fun m hm =>
    Bool.eq_false_iff.mpr fun hs => hm (one m n hs h)
  have before : ∀ m, m ≠ n → confirmationExpiresAt s m = s := fun m hm => confirmationExpiresAt_idle (still m hm)
  have acts : confirmationExpiresAt s n = expireConfirmation n s := by
    unfold confirmationExpiresAt
    rw [h, hk]
    rfl
  have after : ∀ m, m ≠ n → confirmationExpiresAt (expireConfirmation n s) m = expireConfirmation n s := fun m hm => by
    refine confirmationExpiresAt_idle ?_
    rw [expireConfirmation, faultBank_bankRec, if_neg hm]
    exact still m hm
  cases n <;> simp [Index4.all, before, acts, after]

/-! ## The other timers -/

/-- R123: the expiry of a discharge timer. -/
theorem expireDischarge_eq {s : State} {n : Index4} (h : (s.bankRec n).state = .discharging) : expireDischarge n s =
    (s.setBankRec n { s.bankRec n with state := .out, dischargeTimer := none }).raised .bankChange := by
  unfold expireDischarge
  rw [writeBank_changed (by simp [h]) (by simp)]
  rfl

/-- R137, R139: an interruption by a dip. -/
theorem dipInterruption_eq (s : State) : dipInterruption s = (s.setControl { s.control with
    dipState := .spent
    dipCount := 0
    resume := s.control.remembered
    counters := { s.control.counters with dipInterruption := bump s.control.counters.dipInterruption } }).raised .dip :=
  rfl

end Sys2Proof.Machine

open Sys2Proof Sys2Proof.Machine in
/-- Settles O48: each expiry row runs its timer's expiry, which writes what its rule says. -/
theorem timerExpiriesAct : Obligations.TimerExpiriesAct := by
  unfold Obligations.TimerExpiriesAct
  intro s h
  have acts : ∀ {i : Instr} {f : State → State} {u : State}, exec i s = whileReleased s (fun s => settle (f s)) →
      f s = u → u.processor.queue = s.processor.queue → ∃ t, exec i s = .next t ∧ Settled u t := by
    rintro i f _ hi rfl hq
    exact exec_settled h.high hi (hq.trans h.queue)
  refine ⟨fun n k hs hk one => ?confirmation, fun n hs => ?discharge, ?dwell, fun hs => ?dip, fun hs => ?delay,
    fun hs => ?pulse⟩
  case confirmation =>
    exact acts (f := Index4.all.foldl confirmationExpiresAt) rfl
      ((foldl_confirmationExpiresAt one hs hk).trans (expireConfirmation_eq hs)) rfl
  case discharge => exact acts (f := dischargeExpires n) rfl ((if_pos hs).trans (expireDischarge_eq hs)) rfl
  case dwell => exact acts (f := expireDwell) rfl rfl rfl
  case dip => exact acts (f := dipToleranceExpires) rfl ((if_pos hs).trans (dipInterruption_eq s)) rfl
  case delay => exact acts (f := blankingDelayExpires) rfl (if_pos hs) (queue_of_outer (outer_evalBase _))
  case pulse => exact acts (f := blankingPulseEnds) rfl (if_pos hs) (queue_of_outer (outer_evalBase _))
end

section
/-! The Bank Controller's stages at a local tick (R121 to R124), by what becomes of each bank's record. -/

namespace Sys2Proof.Machine

/-! ## One bank at one stage -/

/-- Stage 1 makes the bank's confirmation timer expire (R122). -/
def BankRec.confirmExpires (r : BankRec) : Bool := r.state.transitional && decide (r.confirmTimer = some 1)

/-- The record of a bank whose confirmation timer expires (R119, R122). -/
def BankRec.timedOut (r : BankRec) : BankRec := r.fault none fun c => { c with timeout := bump c.timeout }

/-- A bank's record after stage 1 (R122). -/
def BankRec.confirmTicked (r : BankRec) : BankRec :=
  match r.state.transitional, r.confirmTimer with
  | true, some k => if k = 1 then r.timedOut else { r with confirmTimer := some (k - 1) }
  | _, _ => r

/-- A bank's record after stage 2 (R123). -/
def BankRec.dischargeTicked (r : BankRec) : BankRec :=
  match r.state, r.dischargeTimer with
  | .discharging, some k =>
    if k ≤ 1 then { r with state := .out, dischargeTimer := none } else { r with dischargeTimer := some (k - 1) }
  | _, _ => r

section
variable {r : BankRec}

theorem BankRec.confirmExpires_iff :
    r.confirmExpires = true ↔ r.state.transitional = true ∧ r.confirmTimer = some 1 := by
  simp [BankRec.confirmExpires]

theorem BankRec.confirmTicked_counts (h : r.state.transitional = true) {k : Nat} (hk : r.confirmTimer = some k)
    (h2 : 2 ≤ k) : r.confirmTicked = { r with confirmTimer := some (k - 1) } := by
  have other : k ≠ 1 := by omega
  simp only [BankRec.confirmTicked, h, hk, if_neg other]

theorem BankRec.confirmTicked_expires (h : r.confirmExpires = true) : r.confirmTicked = r.timedOut := by
  obtain ⟨ht, hk⟩ := BankRec.confirmExpires_iff.mp h
  simp only [BankRec.confirmTicked, ht, hk, if_true]

theorem BankRec.confirmTicked_idle (h : r.state.transitional = false) : r.confirmTicked = r := by
  simp only [BankRec.confirmTicked, h]

theorem BankRec.dischargeTicked_counts (h : r.state = .discharging) {k : Nat} (hk : r.dischargeTimer = some k)
    (h2 : 2 ≤ k) : r.dischargeTicked = { r with dischargeTimer := some (k - 1) } := by
  simp only [BankRec.dischargeTicked, h, hk, if_neg (Nat.not_le.mpr h2)]

theorem BankRec.dischargeTicked_expires (h : r.state = .discharging) (hk : r.dischargeTimer = some 1) :
    r.dischargeTicked = { r with state := .out, dischargeTimer := none } := by
  simp only [BankRec.dischargeTicked, h, hk, Nat.le_refl, if_true]

theorem BankRec.dischargeTicked_idle (h : r.state ≠ .discharging) : r.dischargeTicked = r := by
  unfold BankRec.dischargeTicked
  split
  · next hd _ => exact absurd hd h
  · rfl

end

theorem setBankRec_self (s : State) (n : Index4) : s.setBankRec n (s.bankRec n) = s := by
  unfold State.setBankRec State.bankRec
  rw [Four.set_get_self]
  rfl

theorem tickConfirmation_eq (s : State) (n : Index4) : tickConfirmation s n =
    if (s.bankRec n).confirmExpires then expireConfirmation n s
    else s.setBankRec n (s.bankRec n).confirmTicked := by
  unfold tickConfirmation BankRec.confirmExpires BankRec.confirmTicked
  dsimp only
  rcases ht : (s.bankRec n).state.transitional with _ | _ <;> rcases hk : (s.bankRec n).confirmTimer with _ | k
  · simp [setBankRec_self]
  · simp [setBankRec_self]
  · simp [setBankRec_self]
  · by_cases h1 : k = 1 <;> simp [h1]

theorem banksOnly_tickConfirmation (s : State) (n : Index4) : BanksOnly s (tickConfirmation s n) := by
  rw [tickConfirmation_eq]
  split
  · exact banksOnly_faultBank n _ _ s
  · exact banksOnly_setBankRec s n _

theorem tickConfirmation_bankRec (s : State) (n m : Index4) :
    (tickConfirmation s n).bankRec m = if m = n then (s.bankRec n).confirmTicked else s.bankRec m := by
  rw [tickConfirmation_eq]
  split
  · next h =>
    rw [BankRec.confirmTicked_expires h]
    exact faultBank_bankRec n _ _ s m
  · exact bankRec_setBankRec s n m _

theorem tickConfirmation_dwell (s : State) (n : Index4) : (tickConfirmation s n).banks.dwell =
    if (s.bankRec n).confirmExpires then some s.params.bankDwell else s.banks.dwell := by
  rw [tickConfirmation_eq]
  split
  · exact faultBank_dwell n _ _ s
  · rfl

theorem tickConfirmation_counters (s : State) (n : Index4) :
    (tickConfirmation s n).banks.counters = s.banks.counters := by
  rw [tickConfirmation_eq]
  split
  · exact (congrArg BankController.counters (writeBank_banks n _ s) :)
  · rfl

theorem tickConfirmation_bankFault {s : State} {n : Index4} (h : (s.bankRec n).confirmExpires = true) :
    ((tickConfirmation s n).notices.records.get .bankFault).status = true := by
  obtain ⟨ht, -⟩ := BankRec.confirmExpires_iff.mp h
  rw [tickConfirmation_eq, if_pos h]
  exact (faultBank_status (ne_faulted_of_transitional ht)).2

/-- Stage 2 writes a record that leaves the banks otherwise as they are, and raises BANK_CHANGE if its state changes. -/
theorem tickDischarge_eq (s : State) (n : Index4) :
    tickDischarge s n = writeBank n (s.bankRec n).dischargeTicked s := by
  have kept : writeBank n (s.bankRec n) s = s := (writeBank_kept rfl).trans (setBankRec_self s n)
  by_cases hs : (s.bankRec n).state = .discharging
  · rcases hk : (s.bankRec n).dischargeTimer with _ | k
    · simp only [tickDischarge, BankRec.dischargeTicked, hs, hk, kept]
    · by_cases h1 : k ≤ 1
      · simp only [tickDischarge, BankRec.dischargeTicked, hs, hk, if_pos h1]
        rfl
      · simp only [tickDischarge, BankRec.dischargeTicked, hs, hk, if_neg h1]
        exact (writeBank_kept hs.symm).symm
  · rw [BankRec.dischargeTicked_idle hs, kept]
    unfold tickDischarge
    dsimp only
    split
    · next hd _ => exact absurd hd hs
    · rfl

/-! ## A stage for every bank -/

/-- Where each action writes its own bank's record alone, in turn they write every bank's record. -/
theorem foldl_bankRec {f : State → Index4 → State} {g : BankRec → BankRec}
    (h : ∀ s n m, (f s n).bankRec m = if m = n then g (s.bankRec n) else s.bankRec m) (s : State) (n : Index4) :
    (Index4.all.foldl f s).bankRec n = g (s.bankRec n) := by
  cases n <;> simp [Index4.all, h]

/-- A notice that the action on one bank raises, given that bank's record, is raised when the actions are done. -/
theorem foldl_raises {f : State → Index4 → State} {P : BankRec → Prop} {x : NoticeSource}
    (only : ∀ s n, BanksOnly s (f s n)) (other : ∀ s n m, m ≠ n → (f s n).bankRec m = s.bankRec m)
    (raises : ∀ s n, P (s.bankRec n) → ((f s n).notices.records.get x).status = true) {n : Index4}
    {l : List Index4} {s : State} (hn : n ∈ l) (hp : P (s.bankRec n)) :
    ((l.foldl f s).notices.records.get x).status = true := by
  induction l generalizing s with
  | nil => exact absurd hn List.not_mem_nil
  | cons m rest ih =>
    by_cases hm : n = m
    · subst hm
      exact (BanksOnly.foldl only rest (f s n)).status x (raises s n hp)
    · exact ih ((List.mem_cons.mp hn).resolve_left hm) (by rwa [other s m n hm])

theorem confirmationExpires_eq (s : State) :
    s.confirmationExpires = Index4.all.any fun n => (s.bankRec n).confirmExpires := rfl

theorem confirmationExpires_iff (s : State) : s.confirmationExpires = true ↔
    ∃ n, (s.bankRec n).state.transitional = true ∧ (s.bankRec n).confirmTimer = some 1 := by
  simp [confirmationExpires_eq, BankRec.confirmExpires_iff, Index4.mem_all]

/-- R124: an expiry at stage 1 loads the dwell timer, whichever bank it is of. -/
theorem foldl_tickConfirmation_dwell (s : State) : (Index4.all.foldl tickConfirmation s).banks.dwell =
    if s.confirmationExpires then some s.params.bankDwell else s.banks.dwell := by
  have params : ∀ t n, (tickConfirmation t n).params = t.params := fun t n => (banksOnly_tickConfirmation t n).params
  simp only [confirmationExpires_eq, Index4.all, List.foldl, List.any, tickConfirmation_dwell, tickConfirmation_bankRec,
    params, reduceCtorEq, if_false]
  cases (s.bankRec .i0).confirmExpires <;> cases (s.bankRec .i1).confirmExpires <;>
    cases (s.bankRec .i2).confirmExpires <;> cases (s.bankRec .i3).confirmExpires <;> rfl

/-! ## The three stages before automatic switching (R121) -/

theorem banksOnly_tickDischarge (s : State) (n : Index4) : BanksOnly s (tickDischarge s n) := by
  rw [tickDischarge_eq]
  exact banksOnly_writeBank n _ s

theorem tickDischarge_bankRec (s : State) (n m : Index4) :
    (tickDischarge s n).bankRec m = if m = n then (s.bankRec n).dischargeTicked else s.bankRec m := by
  rw [tickDischarge_eq]
  exact writeBank_bankRec n m _ s

theorem tickDwell_eq (s : State) : tickDwell s =
    s.setBanks { s.banks with dwell := s.banks.dwell.bind fun k => if k ≤ 1 then none else some (k - 1) } := by
  unfold tickDwell
  split
  · next h =>
    rw [h]
    exact congrArg (fun d => s.setBanks { s.banks with dwell := d }) h
  · next k h =>
    rw [h, Option.bind_some]
    split <;> rfl

/-- R121: stages 1 and 2. -/
def State.timersTicked (s : State) : State :=
  momentAfter [.bankChange] (Index4.all.foldl tickDischarge
    (momentAfter [.bankChange, .bankFault] (Index4.all.foldl tickConfirmation s)))

/-- R121: stages 1 to 3; a dwell timer loaded at stage 1 is not decreased at stage 3. -/
def State.banksTicked (s : State) : State :=
  if s.confirmationExpires then s.timersTicked else tickDwell s.timersTicked

theorem tickBanks_eq (s : State) : tickBanks s = autoSwitch s.banksTicked := rfl

section
variable (s : State)

theorem banksOnly_stageOne :
    BanksOnly s (momentAfter [.bankChange, .bankFault] (Index4.all.foldl tickConfirmation s)) :=
  (BanksOnly.foldl banksOnly_tickConfirmation _ s).trans (banksOnly_momentAfter _ _)

theorem banksOnly_timersTicked : BanksOnly s s.timersTicked :=
  (banksOnly_stageOne s).trans ((BanksOnly.foldl banksOnly_tickDischarge _ _).trans (banksOnly_momentAfter _ _))

theorem banksOnly_dwellTicked : BanksOnly s.timersTicked s.banksTicked := by
  unfold State.banksTicked
  split
  · exact .refl _
  · rw [tickDwell_eq]
    exact banksOnly_setBanks _ _

theorem banksOnly_banksTicked : BanksOnly s s.banksTicked := (banksOnly_timersTicked s).trans (banksOnly_dwellTicked s)

/-- R122, R123: each bank's record after the stages. -/
theorem banksTicked_bankRec (n : Index4) :
    s.banksTicked.bankRec n = (s.bankRec n).confirmTicked.dischargeTicked := by
  have dwell : s.banksTicked.bankRec n = s.timersTicked.bankRec n := by
    unfold State.banksTicked
    split
    · rfl
    · rw [tickDwell_eq]
      rfl
  rw [dwell, State.timersTicked, bankRec_of_banks (momentAfter_banks _ _), foldl_bankRec tickDischarge_bankRec,
    bankRec_of_banks (momentAfter_banks _ _), foldl_bankRec tickConfirmation_bankRec]

theorem timersTicked_dwell : s.timersTicked.banks.dwell =
    if s.confirmationExpires then some s.params.bankDwell else s.banks.dwell := by
  have discharge : ∀ t n, (tickDischarge t n).banks.dwell = t.banks.dwell := fun t n => by
    rw [tickDischarge_eq, writeBank_banks]
  rw [State.timersTicked, momentAfter_banks, foldl_same (fun t => t.banks.dwell) _ discharge, momentAfter_banks,
    foldl_tickConfirmation_dwell]

/-- R124: the dwell timer after the stages. -/
theorem banksTicked_dwell : s.banksTicked.banks.dwell = if s.confirmationExpires then some s.params.bankDwell
    else s.banks.dwell.bind fun k => if k ≤ 1 then none else some (k - 1) := by
  have ticked := timersTicked_dwell s
  unfold State.banksTicked
  split
  · next h => rw [ticked, if_pos h]
  · next h =>
    rw [if_neg h] at ticked
    rw [tickDwell_eq, State.setBanks_banks, ticked]

theorem banksTicked_counters : s.banksTicked.banks.counters = s.banks.counters := by
  have discharge : ∀ t n, (tickDischarge t n).banks.counters = t.banks.counters := fun t n => by
    rw [tickDischarge_eq, writeBank_banks]
  have dwell : s.banksTicked.banks.counters = s.timersTicked.banks.counters := by
    unfold State.banksTicked
    split
    · rfl
    · rw [tickDwell_eq]
      rfl
  rw [dwell, State.timersTicked, momentAfter_banks, foldl_same (fun t => t.banks.counters) _ discharge,
    momentAfter_banks, foldl_same (fun t => t.banks.counters) _ tickConfirmation_counters]

end

section
variable {s : State} {n : Index4}

/-- R119, R122: a confirmation timer that expires raises BANK_FAULT. -/
theorem banksTicked_bankFault (h : (s.bankRec n).confirmExpires = true) :
    (s.banksTicked.notices.records.get .bankFault).status = true := by
  have raised := foldl_raises (P := fun r => r.confirmExpires = true) banksOnly_tickConfirmation
    (fun t k m hm => (tickConfirmation_bankRec t k m).trans (if_neg hm))
    (fun t k => tickConfirmation_bankFault) (Index4.mem_all n) h
  exact ((banksOnly_momentAfter _ _).trans ((BanksOnly.foldl banksOnly_tickDischarge _ _).trans
    ((banksOnly_momentAfter _ _).trans (banksOnly_dwellTicked s)))).status _ raised

/-- R112, R123: a discharge timer that expires raises BANK_CHANGE. -/
theorem banksTicked_bankChange (h : (s.bankRec n).state = .discharging) (hk : (s.bankRec n).dischargeTimer = some 1) :
    (s.banksTicked.notices.records.get .bankChange).status = true := by
  have still : (s.bankRec n).confirmTicked = s.bankRec n := BankRec.confirmTicked_idle (by rw [h]; rfl)
  have stageOne : (momentAfter [.bankChange, .bankFault] (Index4.all.foldl tickConfirmation s)).bankRec n =
      s.bankRec n := by
    rw [bankRec_of_banks (momentAfter_banks _ _), foldl_bankRec tickConfirmation_bankRec, still]
  have raised := foldl_raises (x := .bankChange)
    (P := fun r => r.state = .discharging ∧ r.dischargeTimer = some 1) banksOnly_tickDischarge
    (fun t k m hm => (tickDischarge_bankRec t k m).trans (if_neg hm))
    (fun t k ⟨hs, ht⟩ => by
      rw [tickDischarge_eq]
      refine writeBank_bankChange ?_
      rw [BankRec.dischargeTicked_expires hs ht, hs]
      exact fun e => nomatch e)
    (Index4.mem_all n) (by rw [stageOne]; exact ⟨h, hk⟩)
  exact ((banksOnly_momentAfter _ _).trans (banksOnly_dwellTicked s)).status _ raised

/-- R122, R123: a bank at neither stage keeps its record. -/
theorem banksTicked_idle (hd : (s.bankRec n).state ≠ .discharging) (ht : (s.bankRec n).state.transitional = false) :
    s.banksTicked.bankRec n = s.bankRec n := by
  rw [banksTicked_bankRec, BankRec.confirmTicked_idle ht, BankRec.dischargeTicked_idle hd]

theorem discharging_ne_transitional (h : (s.bankRec n).state = .discharging) :
    (s.bankRec n).state.transitional = false := by
  rw [h]
  rfl

theorem transitional_ne_discharging (h : (s.bankRec n).state.transitional = true) :
    (s.bankRec n).state ≠ .discharging := fun e => Bool.false_ne_true ((discharging_ne_transitional e).symm.trans h)

theorem banksTicked_discharges (h : (s.bankRec n).state = .discharging) {k : Nat}
    (hk : (s.bankRec n).dischargeTimer = some k) (h2 : 2 ≤ k) :
    s.banksTicked.bankRec n = { s.bankRec n with dischargeTimer := some (k - 1) } := by
  rw [banksTicked_bankRec, BankRec.confirmTicked_idle (discharging_ne_transitional h),
    BankRec.dischargeTicked_counts h hk h2]

theorem banksTicked_discharged (h : (s.bankRec n).state = .discharging) (hk : (s.bankRec n).dischargeTimer = some 1) :
    s.banksTicked.bankRec n = { s.bankRec n with state := .out, dischargeTimer := none } := by
  rw [banksTicked_bankRec, BankRec.confirmTicked_idle (discharging_ne_transitional h),
    BankRec.dischargeTicked_expires h hk]

theorem banksTicked_awaits (h : (s.bankRec n).state.transitional = true) {k : Nat}
    (hk : (s.bankRec n).confirmTimer = some k) (h2 : 2 ≤ k) :
    s.banksTicked.bankRec n = { s.bankRec n with confirmTimer := some (k - 1) } := by
  rw [banksTicked_bankRec, BankRec.confirmTicked_counts h hk h2, BankRec.dischargeTicked_idle]
  exact transitional_ne_discharging h

theorem banksTicked_times_out (h : (s.bankRec n).confirmExpires = true) :
    s.banksTicked.bankRec n = (s.bankRec n).timedOut := by
  rw [banksTicked_bankRec, BankRec.confirmTicked_expires h, BankRec.dischargeTicked_idle]
  exact fun e => nomatch e

end

end Sys2Proof.Machine
end

section
/-! Automatic switching (R125), and a local tick (R121, R137, R154, R181). -/

namespace Sys2Proof.Machine

/-! ## Automatic switching (R125) -/

/-- The banks stand in the list of all of them by number. -/
theorem Index4.all_eq (n : Index4) :
    Index4.all = Index4.all.take (Index4.toNat n) ++ n :: Index4.all.drop (Index4.toNat n + 1) := by
  cases n <;> rfl

theorem Index4.toNat_lt_of_mem_take {n m : Index4} (h : m ∈ Index4.all.take (Index4.toNat n)) :
    Index4.toNat m < Index4.toNat n := by
  cases n <;> cases m <;> revert h <;> decide

theorem Index4.toNat_lt_of_mem_drop {n m : Index4} (h : m ∈ Index4.all.drop (Index4.toNat n + 1)) :
    Index4.toNat n < Index4.toNat m := by
  cases n <;> cases m <;> revert h <;> decide

section
variable {s : State} {x : BankState} {n : Index4}

theorem lowestBank_some (h : (s.bankRec n).state = x)
    (least : ∀ m, Index4.toNat m < Index4.toNat n → (s.bankRec m).state ≠ x) : s.lowestBank x = some n := by
  refine List.find?_eq_some_iff_append.mpr ⟨decide_eq_true h, _, _, Index4.all_eq n, fun m hm => ?_⟩
  simpa using least m (Index4.toNat_lt_of_mem_take hm)

theorem highestBank_some (h : (s.bankRec n).state = x)
    (greatest : ∀ m, Index4.toNat n < Index4.toNat m → (s.bankRec m).state ≠ x) : s.highestBank x = some n := by
  have descending : Index4.all.reverse = (Index4.all.drop (Index4.toNat n + 1)).reverse ++
      n :: (Index4.all.take (Index4.toNat n)).reverse := by
    cases n <;> rfl
  refine List.find?_eq_some_iff_append.mpr ⟨decide_eq_true h, _, _, descending, fun m hm => ?_⟩
  simpa using greatest m (Index4.toNat_lt_of_mem_drop (List.mem_reverse.mp hm))

theorem lowestBank_none (h : ∀ n, (s.bankRec n).state ≠ x) : s.lowestBank x = none := by
  simp [State.lowestBank, h]

theorem highestBank_none (h : ∀ n, (s.bankRec n).state ≠ x) : s.highestBank x = none := by
  simp [State.highestBank, h]

end

theorem autoSwitch_unevaluated {s : State} (h : s.switchingEvaluated = false) : autoSwitch s = s :=
  if_neg (Bool.eq_false_iff.mp h)

section
variable {s : State} (evaluated : s.switchingEvaluated = true)
include evaluated

/-- R125: at the lower threshold the lowest-numbered bank that is OUT is ordered to close, or CLAMP is raised. -/
theorem autoSwitch_low (low : s.clampSum ≤ -(s.params.bankInThreshold : Int)) : autoSwitch s =
    match s.lowestBank .out with
    | some n => placeBankOrder n .close (s.countBanks fun c => { c with autoClose := bump c.autoClose })
    | none => raise .clamp s := (if_pos evaluated).trans (if_pos low)

/-- R125: at the upper threshold the highest-numbered bank that is IN is ordered to open, or CLAMP is raised. -/
theorem autoSwitch_high (low : -(s.params.bankInThreshold : Int) < s.clampSum)
    (high : (s.params.bankOutThreshold : Int) ≤ s.clampSum) : autoSwitch s =
    match s.highestBank .inService with
    | some n => placeBankOrder n .opening (s.countBanks fun c => { c with autoOpen := bump c.autoOpen })
    | none => raise .clamp s := ((if_pos evaluated).trans (if_neg (Int.not_le.mpr low))).trans (if_pos high)

theorem autoSwitch_between (low : -(s.params.bankInThreshold : Int) < s.clampSum)
    (high : s.clampSum < s.params.bankOutThreshold) : autoSwitch s = s :=
  ((if_pos evaluated).trans (if_neg (Int.not_le.mpr low))).trans (if_neg (Int.not_le.mpr high))

end

/-! ## What a bank order and automatic switching leave -/

/-- The blocks that a local tick leaves, but for the tick count that it increases. -/
def State.tickOutside (s : State) : Params × Ports × Assembler × PerBranch Tracker × Capture × BitVec 16 :=
  (s.params, s.ports, s.asm, s.trackers, s.capture, s.processor.ticks)

theorem tickOutside_congr {s t : State} (h : Outside s t) (ticks : t.processor.ticks = s.processor.ticks) :
    t.tickOutside = s.tickOutside := by
  unfold State.tickOutside
  rw [h.params, h.ports, h.asm, h.trackers, h.capture, ticks]

theorem ticks_of_outer {s t : State} (h : t.outer = s.outer) : t.processor.ticks = s.processor.ticks :=
  congrArg Outer.ticks h

/-- The dip monitor and the blanking pulse, which a local tick advances. -/
structure TickTimers where
  dipState : DipState
  dipCount : Nat
  blanking : Blanking

def Controller.timers (c : Controller) : TickTimers := ⟨c.dipState, c.dipCount, c.blanking⟩

theorem evalBase_timers (s : State) : (evalBase s).control.timers = s.control.timers := by
  rw [(evalBase_only s).control]
  rfl

theorem reportLost_timers (o : Order) (s : State) : (reportLost o s).control.timers = s.control.timers := by
  unfold reportLost
  split
  · rfl
  · split
    · exact (evalBase_timers _).trans rfl
    · rfl

theorem handBankOrder_timers (n : Index4) (a : BankAction) (s : State) :
    (handBankOrder n a s).control.timers = s.control.timers := by
  obtain ⟨x, e | ⟨o, rest, e⟩⟩ := handBankOrder_cases n a s <;> rw [e]
  · rfl
  · exact reportLost_timers o (s.displacing o rest)

section
variable {s : State} {n : Index4} {a : BankAction} (needs : (s.bankRec n).state = a.needs)
include needs

theorem placeBankOrder_timers : (placeBankOrder n a s).control.timers = s.control.timers := by
  rw [placeBankOrder_needs needs, handBankOrder_timers, State.ordering, momentAfter_control]
  rfl

theorem placeBankOrder_tickOutside : (placeBankOrder n a s).tickOutside = s.tickOutside := by
  have ticks : (placeBankOrder n a s).processor.ticks = s.processor.ticks := by
    rw [placeBankOrder_needs needs, ticks_of_outer (outer_handBankOrder n a _), State.ordering, momentAfter_processor]
    rfl
  exact (tickOutside_congr (s := s.placed n a) (placeBankOrder_outside needs) ticks).trans rfl

/-- R115: the order's own bank is in transition, the others are as they were. -/
theorem placeBankOrder_bankRec (m : Index4) : (placeBankOrder n a s).bankRec m = if m = n then
    { s.bankRec n with state := a.places, confirmTimer := some s.params.bankConfirmTimeout } else s.bankRec m :=
  (bankRec_of_banks (placeBankOrder_outside needs).banks m).trans (bankRec_setBankRec s n m _)

theorem placeBankOrder_dwell : (placeBankOrder n a s).banks.dwell = s.banks.dwell :=
  (congrArg BankController.dwell (placeBankOrder_outside needs).banks :)

end

/-- What automatic switching leaves, and which records it may write: that of a bank OUT or IN, with AUTO_BANKS on. -/
structure Switched (s t : State) : Prop where
  outside : t.tickOutside = s.tickOutside
  timers : t.control.timers = s.control.timers
  dwell : t.banks.dwell = s.banks.dwell
  record : ∀ n, t.bankRec n = s.bankRec n ∨ s.params.autoBanks = true ∧ ∃ a, (s.bankRec n).state = BankAction.needs a ∧
    t.bankRec n = { s.bankRec n with state := a.places, confirmTimer := some s.params.bankConfirmTimeout }

theorem autoSwitch_switched (s : State) : Switched s (autoSwitch s) := by
  rcases autoSwitch_cases s with e | e | ⟨n, a, f, evaluated, needs, e⟩ <;> rw [e]
  · exact ⟨rfl, rfl, rfl, fun _ => .inl rfl⟩
  · exact ⟨rfl, rfl, rfl, fun _ => .inl rfl⟩
  · obtain ⟨on, -⟩ := (switchingEvaluated_iff s).mp evaluated
    have needs' : ((s.countBanks f).bankRec n).state = a.needs := needs
    refine ⟨(placeBankOrder_tickOutside needs').trans rfl, (placeBankOrder_timers needs').trans rfl,
      (placeBankOrder_dwell needs').trans rfl, fun m => ?_⟩
    have record := placeBankOrder_bankRec needs' m
    by_cases hm : m = n
    · subst hm
      exact .inr ⟨on, a, needs, record.trans (if_pos rfl)⟩
    · exact .inl (record.trans (if_neg hm))

/-- A bank neither OUT nor IN is left by automatic switching. -/
theorem Switched.kept {s t : State} (h : Switched s t) {n : Index4} (ho : (s.bankRec n).state ≠ .out)
    (hi : (s.bankRec n).state ≠ .inService) : t.bankRec n = s.bankRec n := by
  rcases h.record n with e | ⟨-, a, needs, -⟩
  · exact e
  · cases a with
    | close => exact absurd needs ho
    | opening => exact absurd needs hi

/-! ## The Bank Controller at a tick (R121) -/

theorem tickBanks_timers (s : State) : (tickBanks s).control.timers = s.control.timers := by
  rw [tickBanks_eq, (autoSwitch_switched _).timers, (banksOnly_banksTicked s).control]

theorem tickBanks_tickOutside (s : State) : (tickBanks s).tickOutside = s.tickOutside := by
  have only := banksOnly_banksTicked s
  rw [tickBanks_eq, (autoSwitch_switched _).outside]
  unfold State.tickOutside
  rw [only.params, only.ports, only.asm, only.trackers, only.capture, only.processor]

/-- R125: while release is HELD automatic switching is not evaluated. -/
theorem tickBanks_held {s : State} (h : s.control.release = .held) : (tickBanks s).control.release = .held := by
  have control := (banksOnly_banksTicked s).control
  have unevaluated : s.banksTicked.switchingEvaluated = false := by
    refine Bool.eq_false_iff.mpr fun evaluated => ?_
    obtain ⟨-, released, -⟩ := (switchingEvaluated_iff _).mp evaluated
    rw [control, h] at released
    cases released
  rw [tickBanks_eq, autoSwitch_unevaluated unevaluated, control, h]

/-- What becomes of the banks at a tick: the timers advance, and automatic switching may follow. -/
structure BanksTicked (p : Params) (x y : BankController) : Prop where
  discharges : ∀ n k, (x.banks.get n).state = .discharging → (x.banks.get n).dischargeTimer = some k → 2 ≤ k →
    y.banks.get n = { x.banks.get n with dischargeTimer := some (k - 1) }
  discharged : ∀ n, (x.banks.get n).state = .discharging → (x.banks.get n).dischargeTimer = some 1 →
    (y.banks.get n).dischargeTimer = none ∧
      ((y.banks.get n).state = .out ∨ p.autoBanks = true ∧ (y.banks.get n).state = .closing)
  awaits : ∀ n k, (x.banks.get n).state.transitional = true → (x.banks.get n).confirmTimer = some k → 2 ≤ k →
    y.banks.get n = { x.banks.get n with confirmTimer := some (k - 1) }
  faults : ∀ n, (x.banks.get n).state.transitional = true → (x.banks.get n).confirmTimer = some 1 →
    (y.banks.get n).state = .faulted
  dwell : y.dwell = if Index4.all.any fun n => (x.banks.get n).confirmExpires then some p.bankDwell
    else x.dwell.bind fun k => if k ≤ 1 then none else some (k - 1)

theorem tickBanks_ticked (s : State) : BanksTicked s.params s.banks (tickBanks s).banks := by
  have switched := autoSwitch_switched s.banksTicked
  rw [← tickBanks_eq] at switched
  refine ⟨fun n k hs hk h2 => ?_, fun n hs hk => ?_, fun n k hs hk h2 => ?_, fun n hs hk => ?_,
    switched.dwell.trans (banksTicked_dwell s)⟩
  · have ticked := banksTicked_discharges hs hk h2
    have state : (s.banksTicked.bankRec n).state = .discharging := (congrArg BankRec.state ticked).trans hs
    exact (switched.kept (by simp [state]) (by simp [state])).trans ticked
  · have ticked := banksTicked_discharged hs hk
    rcases switched.record n with e | ⟨on, a, needs, e⟩
    · have record := e.trans ticked
      exact ⟨congrArg BankRec.dischargeTimer record, .inl (congrArg BankRec.state record)⟩
    · rw [ticked] at needs e
      rw [(banksOnly_banksTicked s).params] at on
      cases a with
      | close => exact ⟨congrArg BankRec.dischargeTimer e, .inr ⟨on, congrArg BankRec.state e⟩⟩
      | opening => cases needs
  · have ticked := banksTicked_awaits hs hk h2
    have state : (s.banksTicked.bankRec n).state.transitional = true :=
      (congrArg (fun r => r.state.transitional) ticked).trans hs
    have apart : ∀ x : BankState, x.transitional = false → (s.banksTicked.bankRec n).state ≠ x := fun x hx e =>
      Bool.false_ne_true (hx.symm.trans (e ▸ state))
    exact (switched.kept (apart _ rfl) (apart _ rfl)).trans ticked
  · have ticked := banksTicked_times_out (BankRec.confirmExpires_iff.mpr ⟨hs, hk⟩)
    have state : (s.banksTicked.bankRec n).state = .faulted := congrArg BankRec.state ticked
    exact (congrArg BankRec.state (switched.kept (by simp [state]) (by simp [state]))).trans state

/-! ## The blanking pulse at a tick (R154) -/

/-- R154: the blanking pulse after a tick. -/
def Blanking.ticked (p : Blanking) : Blanking :=
  match p.state with
  | .idle => p
  | .pending => if p.count ≤ 1 then ⟨.active, p.width, p.width⟩ else { p with count := p.count - 1 }
  | .active => if p.count ≤ 1 then ⟨.idle, 0, 0⟩ else { p with count := p.count - 1 }

section
variable {s : State}

theorem tickBlanking_idle (h : s.control.blanking.state = .idle) : tickBlanking s = s := by
  simp only [tickBlanking, h]

theorem tickBlanking_counts (h : s.control.blanking.state ≠ .idle) (h2 : 2 ≤ s.control.blanking.count) :
    tickBlanking s = s.setControl { s.control with
      blanking := { s.control.blanking with count := s.control.blanking.count - 1 } } := by
  cases hs : s.control.blanking.state with
  | idle => exact absurd hs h
  | _ => simp only [tickBlanking, hs, if_neg (Nat.not_le.mpr h2)]

theorem tickBlanking_activates (h : s.control.blanking.state = .pending) (h1 : s.control.blanking.count ≤ 1) :
    tickBlanking s = evalBase (s.setControl { s.control with
      blanking := ⟨.active, s.control.blanking.width, s.control.blanking.width⟩ }) := by
  simp only [tickBlanking, h, if_pos h1]
  rfl

theorem tickBlanking_ends (h : s.control.blanking.state = .active) (h1 : s.control.blanking.count ≤ 1) :
    tickBlanking s = evalBase (s.setControl { s.control with blanking := ⟨.idle, 0, 0⟩ }) := by
  simp only [tickBlanking, h, if_pos h1]
  rfl

/-- R145, R149: a pulse that becomes ACTIVE is a block cause, so that release is HELD. -/
theorem tickBlanking_held (h : s.control.blanking.state = .pending) (h1 : s.control.blanking.count ≤ 1) :
    (tickBlanking s).control.release = .held := by
  rw [tickBlanking_activates h h1]
  exact evalBase_held _ (by simp [State.baseConditions, State.blockCause])

end

section
variable {p : Blanking}

theorem Blanking.ticked_idle (h : p.state = .idle) : p.ticked = p := by
  simp only [Blanking.ticked, h]

theorem Blanking.ticked_counts (h : p.state ≠ .idle) (h2 : 2 ≤ p.count) :
    p.ticked = { p with count := p.count - 1 } := by
  cases hs : p.state with
  | idle => exact absurd hs h
  | _ => simp only [Blanking.ticked, hs, if_neg (Nat.not_le.mpr h2)]

theorem Blanking.ticked_activates (h : p.state = .pending) (h1 : p.count ≤ 1) :
    p.ticked = ⟨.active, p.width, p.width⟩ := by
  simp only [Blanking.ticked, h, if_pos h1]

theorem Blanking.ticked_ends (h : p.state = .active) (h1 : p.count ≤ 1) : p.ticked = ⟨.idle, 0, 0⟩ := by
  simp only [Blanking.ticked, h, if_pos h1]

end

/-- The timers after the blanking pulse's tick. -/
def TickTimers.pulsed (t : TickTimers) : TickTimers := { t with blanking := t.blanking.ticked }

/-- What the blanking pulse's tick leaves, and what it makes of the pulse. -/
theorem tickBlanking_leaves (s : State) : (tickBlanking s).tickOutside = s.tickOutside ∧
    (tickBlanking s).control.timers = s.control.timers.pulsed := by
  have evaluated : ∀ c, c.timers = s.control.timers.pulsed → (evalBase (s.setControl c)).tickOutside = s.tickOutside ∧
      (evalBase (s.setControl c)).control.timers = s.control.timers.pulsed := fun c h =>
    ⟨tickOutside_congr ((setControl_outside c s).trans (evalBase_only _).outside)
      (ticks_of_outer ((outer_evalBase _).trans (outer_setControl s c))), (evalBase_timers _).trans h⟩
  have pulsed : ∀ q, s.control.blanking.ticked = q →
      s.control.timers.pulsed = ⟨s.control.dipState, s.control.dipCount, q⟩ := by
    rintro _ rfl
    rfl
  by_cases hs : s.control.blanking.state = .idle
  · rw [tickBlanking_idle hs, pulsed _ (Blanking.ticked_idle hs)]
    exact ⟨rfl, rfl⟩
  · by_cases h2 : 2 ≤ s.control.blanking.count
    · rw [tickBlanking_counts hs h2, pulsed _ (Blanking.ticked_counts hs h2)]
      exact ⟨rfl, rfl⟩
    · have h1 : s.control.blanking.count ≤ 1 := by omega
      cases hb : s.control.blanking.state with
      | idle => exact absurd hb hs
      | pending =>
        rw [tickBlanking_activates hb h1]
        exact evaluated _ (pulsed _ (Blanking.ticked_activates hb h1)).symm
      | active =>
        rw [tickBlanking_ends hb h1]
        exact evaluated _ (pulsed _ (Blanking.ticked_ends hb h1)).symm

/-! ## The dip monitor at a tick (R137) -/

section
variable {s : State}

theorem tickDip_stopped (h : s.control.dipState ≠ .timing) : tickDip s = s := by
  unfold tickDip
  split
  · next hs => exact absurd hs h
  all_goals rfl

theorem tickDip_counts (h : s.control.dipState = .timing) (h2 : 2 ≤ s.control.dipCount) :
    tickDip s = s.setControl { s.control with dipCount := s.control.dipCount - 1 } := by
  simp only [tickDip, h, if_neg (Nat.not_le.mpr h2)]

theorem tickDip_interrupts (h : s.control.dipState = .timing) (h1 : s.control.dipCount ≤ 1) :
    tickDip s = dipInterruption s := by
  simp only [tickDip, h, if_pos h1]

end

theorem tickDip_leaves (s : State) : (tickDip s).tickOutside = s.tickOutside ∧
    (tickDip s).control.blanking = s.control.blanking := by
  unfold tickDip
  split
  · split <;> exact ⟨rfl, rfl⟩
  all_goals exact ⟨rfl, rfl⟩

/-! ## The tick (R121, R181; log 12) -/

/-- A tick is the count, the dip monitor, and then the blanking pulse and the Bank Controller in one of two orders. -/
theorem localTick_cases (s : State) : ∃ v k, v = { tickDip (countTick s) with freeCount := k } ∧
    (localTick s = tickBanks (tickBlanking v) ∨ localTick s = moment (tickBanks (moment (tickBlanking v))) ∨
      localTick s = moment (tickBlanking (moment (tickBanks v)))) := by
  rcases h : s.tickContended with _ | _
  · exact ⟨tickDip (countTick s), (tickDip (countTick s)).freeCount, rfl, .inl (localTick_plain s h)⟩
  · obtain ⟨k, v, hv, orders⟩ := localTick_contended s h
    exact ⟨v, k, hv, .inr orders⟩

@[simp] theorem moment_tickOutside (s : State) : (moment s).tickOutside = s.tickOutside :=
  tickOutside_congr (moment_outside s) (by rw [moment_processor])

theorem localTick_tickOutside (s : State) : (localTick s).tickOutside = (countTick s).tickOutside := by
  have pulse : ∀ t, (tickBlanking t).tickOutside = t.tickOutside := fun t => (tickBlanking_leaves t).1
  obtain ⟨v, k, hv, e⟩ := localTick_cases s
  have start : v.tickOutside = (countTick s).tickOutside := by
    rw [hv]
    exact (tickDip_leaves (countTick s)).1
  rcases e with e | e | e <;> rw [e]
  · rw [tickBanks_tickOutside, pulse, start]
  · rw [moment_tickOutside, tickBanks_tickOutside, moment_tickOutside, pulse, start]
  · rw [moment_tickOutside, pulse, moment_tickOutside, tickBanks_tickOutside, start]

theorem localTick_timers (s : State) :
    (localTick s).control.timers = (tickDip (countTick s)).control.timers.pulsed := by
  have pulse : ∀ t, (tickBlanking t).control.timers = t.control.timers.pulsed := fun t => (tickBlanking_leaves t).2
  obtain ⟨v, k, hv, e⟩ := localTick_cases s
  have start : v.control.timers = (tickDip (countTick s)).control.timers := by rw [hv]
  rcases e with e | e | e <;> rw [e]
  · rw [tickBanks_timers, pulse, start]
  · rw [moment_control, tickBanks_timers, moment_control, pulse, start]
  · rw [moment_control, pulse, moment_control, tickBanks_timers, start]

theorem localTick_banks (s : State) : BanksTicked s.params s.banks (localTick s).banks := by
  have ticked : ∀ w : State, w.params = s.params → w.banks = s.banks →
      BanksTicked s.params s.banks (tickBanks w).banks := fun w hp hb => by
    rw [← hp, ← hb]
    exact tickBanks_ticked w
  obtain ⟨v, k, hv, e⟩ := localTick_cases s
  have start : v.params = s.params ∧ v.banks = s.banks := by
    have outer := outer_tickDip (countTick s)
    rw [hv]
    exact ⟨(congrArg Outer.params outer).trans rfl, (banks_of_outer outer).trans rfl⟩
  have pulsed : (tickBlanking v).params = s.params ∧ (tickBlanking v).banks = s.banks :=
    ⟨(congrArg Outer.params (outer_tickBlanking v)).trans start.1,
      (banks_of_outer (outer_tickBlanking v)).trans start.2⟩
  rcases e with e | e | e <;> rw [e]
  · exact ticked _ pulsed.1 pulsed.2
  · rw [moment_banks]
    exact ticked _ ((moment_params _).trans pulsed.1) ((moment_banks _).trans pulsed.2)
  · rw [moment_banks, banks_of_outer (outer_tickBlanking _), moment_banks]
    exact ticked _ start.1 start.2

/-- R125, R154: at the tick at which the pulse becomes ACTIVE release is HELD, whichever came first. -/
theorem localTick_held {s : State} (h : s.control.blanking.state = .pending) (h1 : s.control.blanking.count ≤ 1) :
    (localTick s).control.release = .held := by
  obtain ⟨v, k, hv, e⟩ := localTick_cases s
  have start : v.control.blanking = s.control.blanking := by
    rw [hv]
    exact (tickDip_leaves (countTick s)).2
  have pulsed : ∀ w : State, w.control.blanking = s.control.blanking → (tickBlanking w).control.release = .held :=
    fun w hw => tickBlanking_held (hw ▸ h) (hw ▸ h1)
  rcases e with e | e | e <;> rw [e]
  · exact tickBanks_held (pulsed v start)
  · rw [moment_control]
    exact tickBanks_held (by rw [moment_control]; exact pulsed v start)
  · rw [moment_control]
    refine pulsed _ ?_
    rw [moment_control]
    exact (congrArg TickTimers.blanking (tickBanks_timers v)).trans start

theorem Settled.tickOutside {u t : State} (h : Settled u t) : t.tickOutside = u.tickOutside := by
  cases h with
  | reply k _ _ =>
    unfold beginReply
    split <;> rfl
  | _ => rfl

theorem Settled.banks {u t : State} (h : Settled u t) : t.banks = u.banks :=
  StationFree.settled (P := fun v => v.banks = u.banks)
    ⟨fun _ _ e => e, fun _ _ e => e, fun _ _ e => e, fun _ _ e => e⟩ h rfl

end Sys2Proof.Machine

open Sys2Proof Sys2Proof.Machine in
/-- Settles O49: what a tick leaves in either order, its four parts, the stages bank by bank, and automatic
switching. -/
theorem localTickAdvancesTimers : Obligations.LocalTickAdvancesTimers := by
  unfold Obligations.LocalTickAdvancesTimers
  refine ⟨confirmationExpires_iff, transitional_iff, fun s h => ?timers, fun s h => ?order, fun s => ?parts,
    fun s => ?stages, fun s => ?switching⟩
  case timers =>
    obtain ⟨t, ht, settled⟩ := exec_settled (i := .localTick) (f := localTick) h.high rfl
      ((localTick_queue s).trans h.queue)
    have outside := settled.tickOutside.trans (localTick_tickOutside s)
    unfold State.tickOutside at outside
    simp only [Prod.mk.injEq] at outside
    obtain ⟨params, ports, asm, trackers, capture, ticks⟩ := outside
    have banks := localTick_banks s
    rw [← settled.banks] at banks
    have timers : t.control.timers = (tickDip (countTick s)).control.timers.pulsed := by
      rw [settled.control, localTick_timers]
    have blanking : t.control.blanking = s.control.blanking.ticked :=
      (congrArg TickTimers.blanking timers).trans (congrArg Blanking.ticked (tickDip_leaves (countTick s)).2)
    have dwell : t.banks.dwell = if s.confirmationExpires then some s.params.bankDwell
        else s.banks.dwell.bind fun k => if k ≤ 1 then none else some (k - 1) := banks.dwell
    refine ⟨t, ht, ticks, asm, trackers, capture, params, ports, banks.discharges, banks.discharged, banks.awaits,
      fun n hs hk => ⟨banks.faults n hs hk, ?_⟩, fun k hc hd h2 => ?_, fun hc hd => ?_, fun hs h2 => ?_,
      fun hs h1 => ?_, fun hs => ?_, fun hs h2 => ?_, fun hs h1 => ⟨?_, ?_⟩, fun hs h1 => ?_⟩
    · exact dwell.trans (if_pos ((confirmationExpires_iff s).mpr ⟨n, hs, hk⟩))
    · rw [dwell, hc, hd]
      exact if_neg (Nat.not_le.mpr h2)
    · rw [dwell, hc]
      rcases hd with hd | hd <;> rw [hd] <;> rfl
    · rw [tickDip_counts (s := countTick s) hs h2] at timers
      exact ⟨(congrArg TickTimers.dipState timers).trans hs, congrArg TickTimers.dipCount timers⟩
    · rw [tickDip_interrupts (s := countTick s) hs h1.le] at timers
      exact congrArg TickTimers.dipState timers
    · rw [blanking, Blanking.ticked_idle hs]
    · rw [blanking, Blanking.ticked_counts hs h2]
    · rw [blanking, Blanking.ticked_activates hs h1.le]
    · rw [settled.control]
      exact localTick_held hs h1.le
    · rw [blanking, Blanking.ticked_ends hs h1.le]
  case order =>
    obtain ⟨t, ht, settled⟩ := exec_settled (i := .localTick) (f := localTick) h.high rfl
      ((localTick_queue s).trans h.queue)
    have contended : s.tickContended = true ↔ s.control.blanking.state = .pending ∧ s.control.blanking.count ≤ 1 ∧
        s.control.release = .released := by
      simp [State.tickContended, and_assoc]
    refine ⟨t, localTick s, ht, settled, ?_⟩
    rintro _ rfl
    refine ⟨fun plain => localTick_plain s (Bool.eq_false_iff.mpr fun hc => plain (contended.mp hc)),
      fun hs h1 hr => localTick_contended s (contended.mpr ⟨hs, h1, hr⟩)⟩
  case parts =>
    exact ⟨rfl, tickDip_stopped, tickDip_counts, fun hs h1 => (tickDip_interrupts hs h1).trans (dipInterruption_eq s),
      tickBlanking_idle, tickBlanking_counts, tickBlanking_activates, tickBlanking_ends⟩
  case stages =>
    have only := banksOnly_banksTicked s
    refine ⟨s.banksTicked, tickBanks_eq s, only.control, only.demand, only.exchange, only.params,
      banksTicked_counters s, fun n k hs hk => ⟨banksTicked_discharges hs hk, ?_⟩, fun n k hs hk => ⟨banksTicked_awaits hs hk, ?_⟩,
      fun n => banksTicked_idle, fun hc => ?_⟩
    · rintro rfl
      exact ⟨banksTicked_discharged hs hk, banksTicked_bankChange hs hk⟩
    · rintro rfl
      have expires := BankRec.confirmExpires_iff.mpr ⟨hs, hk⟩
      have record := (banksTicked_times_out expires).trans (BankRec.fault_transitional hs _)
      have dwell := banksTicked_dwell s
      rw [if_pos ((confirmationExpires_iff s).mpr ⟨n, hs, hk⟩)] at dwell
      rw [record]
      exact ⟨rfl, rfl, rfl, rfl, dwell, banksTicked_bankFault expires⟩
    · rw [banksTicked_dwell, hc]
      rfl
  case switching =>
    refine ⟨?_, autoSwitch_unevaluated, ?_⟩
    · rw [switchingEvaluated_iff, anyTransitional_eq_false]
      simp only [← Bool.not_eq_true, transitional_iff, not_or]
    · rintro evaluated _ rfl
      refine ⟨fun low => ⟨fun n hn least => ?_, fun none => ?_⟩,
        fun low high => ⟨fun n hn greatest => ?_, fun none => ?_⟩, autoSwitch_between evaluated⟩
      · rw [autoSwitch_low evaluated low, lowestBank_some hn least]
        rfl
      · rw [autoSwitch_low evaluated low, lowestBank_none none]
      · rw [autoSwitch_high evaluated low high, highestBank_some hn greatest]
        rfl
      · rw [autoSwitch_high evaluated low high, highestBank_none none]
end

section
/-! The regime: the parameters, the mode with its waking target, and the release state. What a step is made of keeps
every property of the regime that the operations writing the regime keep. -/

namespace Sys2Proof.Machine

/-! ## The regime -/

/-- What R131, R136, R146 and R176 bind: the parameters, the mode with its waking target, and the release state. -/
structure Regime where
  params : Params
  mode : Mode
  target : Option Target
  release : ReleaseState

def State.regime (s : State) : Regime := ⟨s.params, s.control.mode, s.control.wakingTarget, s.control.release⟩

theorem regime_congr {s t : State} (hp : t.params = s.params) (hc : t.control = s.control) : t.regime = s.regime := by
  unfold State.regime
  rw [hp, hc]

/-! ## What leaves the regime -/

theorem regime_moment (s : State) : (moment s).regime = s.regime := regime_congr (moment_params s) (moment_control s)

theorem regime_momentAfter (l : List NoticeSource) (s : State) : (momentAfter l s).regime = s.regime :=
  regime_congr (momentAfter_params l s) (momentAfter_control l s)

theorem BanksOnly.regime {s t : State} (h : BanksOnly s t) : t.regime = s.regime := regime_congr h.params h.control

theorem regime_completeCommit (c : Completion) (f : TableCounters → TableCounters) (s : State) :
    (completeCommit c f s).regime = s.regime :=
  regime_congr (completeCommit_outside c f s).params (completeCommit_control c f s)

theorem regime_trigger (x : TriggerSource) (s : State) : (trigger x s).regime = s.regime :=
  regime_congr (congrArg Outer.params (outer_trigger x s)) (trigger_control x s)

theorem regime_completeSets (s : State) : (completeSets s).regime = s.regime := rfl

theorem regime_countAsm (f : AssemblyCounters → AssemblyCounters) (s : State) : (s.countAsm f).regime = s.regime := rfl

theorem regime_raise (n : NoticeSource) (s : State) : (raise n s).regime = s.regime := rfl

theorem regime_updateTrim (ev : CrossingEvent) (s : State) : (updateTrim ev s).regime = s.regime :=
  regime_congr (updateTrim_only ev s).params (updateTrim_only ev s).control

theorem regime_beginV (s : State) : (beginV s).regime = s.regime := by
  unfold beginV
  split <;> rfl

theorem regime_orderSent (o : Order) (s : State) : (orderSent o s).regime = s.regime := by
  rw [orderSent_eq]
  rfl

/-- R43: a change of a tracker's state writes no more of the controller than the waking count. -/
theorem regime_trackerChanged (b : Branch) (s : State) : (trackerChanged b s).regime = s.regime := by
  unfold trackerChanged
  dsimp only
  split <;> rfl

theorem regime_unlockTracker (b : Branch) (s : State) : (unlockTracker b s).regime = s.regime := by
  unfold unlockTracker
  dsimp only
  split
  · rfl
  · exact (regime_trackerChanged b _).trans rfl

/-- R139: an interruption only remembers the mode. -/
theorem regime_interrupt (f : ControlCounters → ControlCounters) (s : State) : (interrupt f s).regime = s.regime := rfl

theorem regime_tickDip (s : State) : (tickDip s).regime = s.regime := by
  unfold tickDip
  split
  · split
    · exact regime_interrupt _ s
    · rfl
  all_goals rfl

theorem regime_confirmationExpiresAt (s : State) (n : Index4) : (confirmationExpiresAt s n).regime = s.regime := by
  unfold confirmationExpiresAt
  split
  · exact (banksOnly_faultBank _ _ _ s).regime
  · rfl

theorem regime_dischargeExpires (n : Index4) (s : State) : (dischargeExpires n s).regime = s.regime := by
  unfold dischargeExpires
  split
  · exact (banksOnly_writeBank n _ s).regime
  · rfl

theorem regime_receiveBankStatus (bank status code : Byte) (s : State) :
    (receiveBankStatus bank status code s).regime = s.regime := by
  unfold receiveBankStatus
  split
  · next n st _ _ => exact ((takeBankStatus_banksOnly n st code s).regime :)
  · rfl

/-! ## Properties of the regime -/

/-- The property reads nothing but the regime, and is kept by what writes the regime: the evaluation of the base
conditions and of the supply, valve ready handed over, crossing events, the WAKE action, SET, MODE and the resets. -/
structure RegimeKept (P : State → Prop) : Prop where
  of_regime : ∀ {s t : State}, P s → t.regime = s.regime → P t
  base : ∀ {s : State}, P s → P (evalBase s)
  supply : ∀ {s : State}, P s → P (evalSupply s)
  ready : ∀ {s : State} (v : Bool), P s → P (handReady v s)
  event : ∀ {s : State} (ev : CrossingEvent), P s → P (controlEvent ev s)
  wake : ∀ {s : State}, P s → P (wakeAction s)
  parameter : ∀ {s : State} (ident : Byte) (value : Word), P s → P (actSet ident value s).1
  mode : ∀ {s : State} (m : Mode), P s → P (takeMode m s)
  engine : ∀ {s : State}, P s → P (engineReset s)
  powerOn : ∀ straps rstn p k, P (State.powerOn straps rstn p k)

namespace RegimeKept
variable {P : State → Prop} (hP : RegimeKept P) {s : State}
include hP

theorem stationFree : StationFree P :=
  ⟨fun _ _ h => hP.of_regime h rfl, fun _ _ h => hP.of_regime h rfl, fun _ _ h => hP.of_regime h rfl,
    fun _ _ h => hP.of_regime h rfl⟩

/-- What every one of the actions keeps, they keep in turn. -/
theorem inTurn (contended : Bool) {fs : List (State → State)} (hf : ∀ f ∈ fs, ∀ t, P t → P (f t)) (h : P s) :
    P (s.inTurn contended fs) :=
  inTurn_keeps s contended fs (fun _ => hP.of_regime h rfl) hf fun t ht => hP.of_regime ht (regime_moment t)

/-! ## Trips and readiness -/

theorem latchTrip (c : TripCause) (h : P s) : P (latchTrip c s) := hP.base (hP.of_regime h rfl)

theorem checkReady (before : Bool) (h : P s) : P (checkReady before s) := by
  unfold Machine.checkReady
  split
  · exact h
  · exact hP.ready _ h

theorem reportLost (o : Order) (h : P s) : P (reportLost o s) := by
  have counted : P (countGap o.branch s) := hP.of_regime h rfl
  unfold Machine.reportLost
  split
  · exact h
  · split
    · exact hP.latchTrip _ counted
    · exact counted

/-! ## The Order Exchange -/

theorem handBankOrder (n : Index4) (a : BankAction) (h : P s) : P (handBankOrder n a s) := by
  obtain ⟨x, e | ⟨o, rest, e⟩⟩ := handBankOrder_cases n a s <;> rw [e]
  · exact hP.of_regime h rfl
  · have displaced : P (s.displacing o rest) := hP.of_regime h rfl
    exact hP.of_regime (hP.reportLost o displaced) rfl

theorem deadlineCheck (tag : Tag) (h : P s) : P (deadlineCheck tag s) := by
  have withdrawn : ∀ (o : Order) {t : State}, P t → P (withdrawn o t) := fun o t ht =>
    hP.reportLost o (hP.of_regime ht rfl)
  have all : ∀ (l : List Order) {t : State}, P t → P (l.foldl (fun t o => Machine.withdrawn o t) t) := by
    intro l
    induction l with
    | nil => exact fun ht => ht
    | cons o rest ih => exact fun ht => ih (withdrawn o ht)
  exact all _ (hP.of_regime h rfl)

theorem countTimeout (b : Branch) (h : P s) : P (countTimeout b s) := by
  have timedOut : P (s.setExchangeRec b (s.exchangeRec b).timedOut) := hP.of_regime h rfl
  rw [countTimeout_eq]
  split
  · exact hP.latchTrip _ timedOut
  · exact timedOut

theorem ageOrders (ev : CrossingEvent) (h : P s) : P (ageOrders ev s) := by
  have all : ∀ (n : Nat) {t : State}, P t → P (countTimeouts ev.branch n t) := by
    intro n
    induction n with
    | zero => exact fun ht => ht
    | succ n ih => exact fun ht => ih (hP.countTimeout _ ht)
  exact all _ (hP.of_regime h rfl)

theorem completeV (h : P s) : P (completeV s) := by
  have begins : ∀ {t : State}, P t → P (beginV t) := fun {t} ht => hP.of_regime ht (regime_beginV t)
  rcases ht : s.exchange.transmitter with _ | ⟨o | ⟨n, a⟩, x⟩
  · rwa [completeV_idle ht]
  · have idle : P s.vIdle := hP.of_regime h rfl
    have sent : P (orderSent o s.vIdle) := hP.of_regime idle (regime_orderSent o _)
    rw [completeV_order ht]
    split
    · exact begins sent
    · split
      · exact begins (hP.of_regime sent rfl)
      · unfold lateCompletion
        refine ordered_keeps _ _ _ (fun k => hP.of_regime sent rfl) fun f hf t ht => ?_
        simp only [List.mem_cons, List.not_mem_nil, or_false] at hf
        rcases hf with rfl | rfl
        · exact begins ht
        · exact hP.countTimeout _ ht
  · rw [completeV_bank ht]
    exact hP.of_regime h rfl

/-- R102, R103, R104: what a result does. -/
theorem applyResult (r : ValveReport) (x : OutcomeResult) (h : P s) : P (applyResult r s x) := by
  unfold Machine.applyResult
  dsimp only
  split
  · exact hP.of_regime h rfl
  · split
    · exact hP.latchTrip _ (hP.of_regime h rfl)
    · exact hP.of_regime h rfl
  · exact hP.latchTrip _ (hP.of_regime h rfl)

theorem receiveReport (r : ReportFrame) (h : P s) : P (receiveReport r s) := by
  have matched : ∀ (v : ValveReport) {t : State}, P t → P (matchReport v t) := fun v t ht => by
    unfold matchReport
    dsimp only
    split
    · exact hP.of_regime ht rfl
    · exact hP.applyResult _ _ (hP.of_regime ht rfl)
  unfold Machine.receiveReport
  split
  · exact hP.of_regime h rfl
  · next v _ =>
    unfold takeReport
    split
    · exact h
    · have ready : P (setReadiness v.branch v.ready s) := hP.checkReady _ (hP.of_regime h rfl)
      exact matched v (hP.of_regime ready (regime_moment _))

/-! ## Crossing events and released sets -/

theorem demandEvent (ev : CrossingEvent) (h : P s) : P (demandEvent ev s) := by
  have acts : ∀ {t : State}, P t → P (actOnEvent ev t) := fun {t} ht => by
    obtain ⟨notices, e⟩ := actOnEvent_eq ev t
    have handed : P (t.eventHanded ev (t.eventDemand ev) notices) := hP.of_regime ht rfl
    rw [e]
    split
    · exact hP.latchTrip _ handed
    · exact handed
  unfold Machine.demandEvent
  split
  · exact h
  · exact acts (hP.of_regime h (regime_updateTrim ev s))

theorem tableEvent (ev : CrossingEvent) (h : P s) : P (tableEvent ev s) := by
  unfold Machine.tableEvent
  split
  · exact hP.of_regime h (regime_completeCommit _ _ s)
  · exact h

theorem offerEvent (ev : CrossingEvent) (h : P s) : P (offerEvent ev s) := by
  refine hP.inTurn _ (fun f hf t ht => ?_) h
  simp only [List.mem_cons, List.not_mem_nil, or_false] at hf
  rcases hf with rfl | rfl | rfl | rfl
  · exact hP.demandEvent ev ht
  · exact hP.ageOrders ev ht
  · exact hP.tableEvent ev ht
  · exact hP.event ev ht

theorem runTracker (tag : Tag) (b : Branch) (h : P s) : P (runTracker tag b s) := by
  have changed : ∀ (x : Bool) {t : State}, P t → P (if x then trackerChanged b t else t) := fun x t ht => by
    split
    · exact hP.of_regime ht (regime_trackerChanged b t)
    · exact ht
  have evaluated : ∀ (x : Bool) {t : State}, P t → P (if x then evalSupply t else t) := fun x t ht => by
    split
    · exact hP.supply ht
    · exact ht
  have written : P (s.setTracker b (s.trackerResult tag b).1) := hP.of_regime h rfl
  unfold Machine.runTracker
  dsimp only
  split
  · exact evaluated _ (changed _ written)
  · exact hP.offerEvent _ (hP.of_regime (evaluated _ (changed _ written)) (regime_moment _))

theorem releasedSet (tag : Tag) (h : P s) : P (releasedSet tag s) := by
  refine hP.inTurn _ (fun f hf t ht => ?_) h
  simp only [List.mem_cons, List.not_mem_nil, or_false] at hf
  rcases hf with rfl | rfl | rfl | rfl
  · exact hP.runTracker tag _ ht
  · exact hP.runTracker tag _ ht
  · exact hP.runTracker tag _ ht
  · exact hP.deadlineCheck tag ht

theorem unlockTrackers (h : P s) : P (unlockTrackers s) :=
  hP.supply (hP.of_regime h (by rw [regime_unlockTracker, regime_unlockTracker, regime_unlockTracker]))

/-! ## Aux inputs and the blanking pulse -/

theorem activateBlanking (width : Nat) (h : P s) : P (activateBlanking width s) := hP.base (hP.of_regime h rfl)

theorem endBlanking (h : P s) : P (endBlanking s) := hP.base (hP.of_regime h rfl)

theorem startBlanking (delay width : Nat) (h : P s) : P (startBlanking delay width s) := by
  unfold Machine.startBlanking
  dsimp only
  split
  · split
    · exact hP.activateBlanking _ (hP.of_regime h rfl)
    · exact hP.of_regime h rfl
  all_goals exact hP.of_regime h rfl

theorem tickBlanking (h : P s) : P (tickBlanking s) := by
  unfold Machine.tickBlanking
  dsimp only
  split
  · exact h
  · split
    · exact hP.activateBlanking _ h
    · exact hP.of_regime h rfl
  · split
    · exact hP.endBlanking h
    · exact hP.of_regime h rfl

theorem blockAction (n : Index4) (h : P s) : P (blockAction n s) := by
  refine hP.base ?_
  split
  · exact hP.of_regime h rfl
  · exact h

theorem activeEdge (n : Index4) (h : P s) : P (activeEdge n s) := by
  have acts : ∀ (has : Bool) {f : State → State} {t : State}, (∀ u, P u → P (f u)) → P t → P (actIf has f t) :=
    fun has f t hf ht => by
      unfold actIf
      split
      · exact hf t ht
      · exact ht
  have counted : P (edgeCounted n s) := hP.of_regime h rfl
  rw [activeEdge_eq rfl]
  unfold edgeActions
  exact acts _ (fun _ k => hP.of_regime k rfl) <| acts _ (fun u k => hP.of_regime k (regime_trigger _ u)) <|
    acts _ (fun _ => hP.startBlanking _ _) <| acts _ (fun _ => hP.blockAction n) <| acts _ (fun _ => hP.wake) counted

theorem inactiveEdge (n : Index4) (h : P s) : P (inactiveEdge n s) := by
  have blocked : P (if (s.control.aux.get n).actions.block then evalBase s else s) := by
    split
    · exact hP.base h
    · exact h
  rw [inactiveEdge_eq]
  split
  · exact hP.of_regime blocked rfl
  · exact blocked

theorem handAux (flags : Four Bool) (h : P s) : P (handAux flags s) := by
  refine hP.inTurn _ (fun f hf t ht => ?_) h
  obtain ⟨n, _, rfl⟩ := List.mem_map.mp hf
  have written : ∀ r, P (t.setAux n r) := fun r => hP.of_regime ht rfl
  dsimp only
  rw [debounceAux_reads rfl rfl]
  split
  · exact written _
  · split
    · split
      · exact hP.activeEdge n (written _)
      · exact hP.inactiveEdge n (written _)
    · exact written _

/-! ## Releases of slots and sample frames -/

theorem releaseSlot (forced : Bool) (h : P s) : P (releaseSlot forced s) := by
  rcases he : s.asm.expected with _ | e
  · rwa [releaseSlot_none he]
  · rw [releaseSlot_eq he]
    obtain ⟨_, _, -, hs⟩ := slotClosed_eq e forced s
    have closed : P (slotClosed e forced s) := hP.of_regime h (by rw [hs]; rfl)
    exact hP.of_regime (hP.releasedSet e closed) ((regime_moment _).trans (regime_completeSets _))

theorem releaseChain : ∀ (n : Nat) {s : State}, P s → P (releaseChain n s)
  | 0, _, h => h
  | n + 1, s, h => by
    unfold Machine.releaseChain
    split
    · exact releaseChain n (hP.releaseSlot false h)
    · exact h

theorem releaseCheck (h : P s) : P (releaseCheck s) := by
  unfold Machine.releaseCheck
  split
  · exact h
  · split
    · exact h
    · exact hP.releaseChain _ h

theorem forceReleases : ∀ (n : Nat) {s : State}, P s → P (forceReleases n s)
  | 0, _, h => h
  | n + 1, _, h => forceReleases n (hP.releaseSlot true h)

theorem acceptFrame (e tag : Tag) (n : Index4) (f : SampleFrame) (h : P s) : P (acceptFrame e tag n f s) := by
  have placed : P (completeSets (closeSets e tag (placeFrame e tag n f.channels s))) := hP.of_regime h rfl
  unfold Machine.acceptFrame
  dsimp only
  split
  · exact hP.of_regime h rfl
  · split
    · refine hP.inTurn _ (fun g hg t ht => ?_) placed
      simp only [List.mem_cons, List.not_mem_nil, or_false] at hg
      rcases hg with rfl | rfl
      · exact hP.releaseCheck ht
      · exact hP.handAux _ ht
    · exact hP.releaseCheck placed

theorem discontinuity (tag : Tag) (n : Index4) (h : P s) : P (discontinuity tag n s) := by
  have placed : P (discontinuityPlaced tag n s) := hP.of_regime h rfl
  rw [discontinuity_eq]
  refine hP.of_regime (hP.unlockTrackers placed) ?_
  rw [regime_moment, regime_raise, regime_countAsm, regime_moment]

theorem handleFrame (e tag : Tag) (n : Index4) (f : SampleFrame) (h : P s) : P (handleFrame e tag n f s) := by
  unfold Machine.handleFrame
  dsimp only
  split
  · exact hP.acceptFrame _ _ _ _ h
  · split
    · exact hP.acceptFrame _ _ _ _ (hP.forceReleases _ h)
    · split
      · exact hP.acceptFrame _ _ _ _ (hP.discontinuity _ _ h)
      · exact hP.of_regime h rfl

theorem takeSample (f : SampleFrame) (h : P s) : P (takeSample f s) := by
  unfold Machine.takeSample
  split
  · exact hP.of_regime h rfl
  · split
    · exact hP.of_regime h rfl
    · split
      · exact hP.of_regime h rfl
      · split
        · exact hP.of_regime h rfl
        · dsimp only
          split
          · exact hP.handleFrame _ _ _ _ (hP.of_regime h rfl)
          · exact hP.handleFrame _ _ _ _ h

theorem expireSilence (h : P s) : P (expireSilence s) := by
  have cleared : P (silenceCleared s) := hP.of_regime h rfl
  rw [expireSilence_eq]
  refine hP.of_regime (hP.unlockTrackers cleared) ?_
  rw [regime_countAsm, regime_raise, streamInterruption, regime_interrupt, regime_moment]

/-! ## The Bank Controller and the local tick -/

theorem placeBankOrder (n : Index4) (a : BankAction) (h : P s) : P (placeBankOrder n a s) :=
  hP.handBankOrder n a (hP.of_regime h ((banksOnly_writeBank n _ s).trans (banksOnly_momentAfter _ _)).regime)

theorem tickBanks (h : P s) : P (tickBanks s) := by
  have ticked : P s.banksTicked := hP.of_regime h (banksOnly_banksTicked s).regime
  rw [tickBanks_eq]
  rcases autoSwitch_cases s.banksTicked with e | e | ⟨n, a, f, -, -, e⟩ <;> rw [e]
  · exact ticked
  · exact hP.of_regime ticked rfl
  · exact hP.placeBankOrder n a (hP.of_regime ticked rfl)

theorem localTick (h : P s) : P (localTick s) := by
  have monitored : P (tickDip (countTick s)) := hP.of_regime h ((regime_tickDip _).trans rfl)
  refine hP.inTurn _ (fun f hf t ht => ?_) monitored
  simp only [List.mem_cons, List.not_mem_nil, or_false] at hf
  rcases hf with rfl | rfl
  · exact hP.tickBlanking ht
  · exact hP.tickBanks ht

end RegimeKept

end Sys2Proof.Machine
end

section
/-! What keeps a property of the regime, continued: directives, commands and steps. -/

namespace Sys2Proof.Machine

/-! ## Directives that leave the regime -/

theorem regime_clearCounters (s : State) (g : CounterGroup) : (clearCounters s g).regime = s.regime := by
  cases g <;> rfl

theorem regime_actMapSet (quantity source channel : Byte) (s : State) :
    (actMapSet quantity source channel s).1.regime = s.regime := by
  unfold actMapSet
  split
  · rfl
  · split <;> rfl

theorem regime_actBankSet (bank present : Byte) (susceptance : Half) (state : Byte) (s : State) :
    (actBankSet bank present susceptance state s).1.regime = s.regime := by
  have record : ∀ n st x, (setBankRecord n st x s).1.regime = s.regime := fun n _ _ =>
    ((banksOnly_writeBank n _ s).trans (banksOnly_loadDwell _)).regime
  unfold actBankSet
  split
  · rfl
  · split
    · split
      · rfl
      · exact record _ _ _
    · split
      · split
        · rfl
        · split
          · rfl
          · exact record _ _ _
      · rfl
    · rfl

theorem regime_actTableWrite (start : Half) (n fill : Byte) (values : List Half) (s : State) :
    (actTableWrite start n fill values s).1.regime = s.regime := by
  unfold actTableWrite
  split
  · rfl
  · split
    · split
      · rfl
      · split <;> rfl
    · rfl

theorem regime_actTableRead (bank : Byte) (start : Half) (n : Byte) (s : State) :
    (actTableRead bank start n s).1.regime = s.regime := by
  unfold actTableRead
  split
  · split <;> rfl
  · rfl

theorem regime_actTableCommit (tag : Byte) (s : State) : (actTableCommit tag s).1.regime = s.regime := by
  unfold actTableCommit
  split
  · rfl
  · split
    · rfl
    · split <;> rfl

theorem regime_actCaptureSet (mode : Byte) (post : Half) (s : State) :
    (actCaptureSet mode post s).1.regime = s.regime := by
  unfold actCaptureSet
  split
  · split <;> rfl
  · rfl

theorem regime_actCaptureTrigger (s : State) : (actCaptureTrigger s).1.regime = s.regime := by
  unfold actCaptureTrigger
  split
  · exact regime_trigger _ s
  · rfl

namespace RegimeKept
variable {P : State → Prop} (hP : RegimeKept P) {s : State}
include hP

/-! ## Directives -/

theorem actSourceSet (source enabled policy hold miss : Byte) (h : P s) :
    P (actSourceSet source enabled policy hold miss s).1 := by
  unfold Machine.actSourceSet
  split
  · exact h
  · split
    · exact hP.releaseCheck (hP.of_regime h rfl)
    · exact h

theorem actAuxSet (aux polarity kind debounce actions delay width : Byte) (h : P s) :
    P (actAuxSet aux polarity kind debounce actions delay width s).1 := by
  unfold Machine.actAuxSet
  split
  · exact h
  · split
    · exact hP.base (hP.of_regime h rfl)
    · exact h

theorem actBankForce (bank action : Byte) (h : P s) : P (actBankForce bank action s).1 := by
  unfold Machine.actBankForce
  split
  · next n a _ _ =>
    split
    · exact h
    · split
      · exact h
      · exact hP.of_regime (hP.placeBankOrder n a h) rfl
  · exact h

theorem actMode (operand : Byte) (h : P s) : P (actMode operand s).1 := by
  unfold Machine.actMode
  split
  · exact h
  · split
    · exact h
    · exact hP.mode _ h

theorem actBlock (operand : Byte) (h : P s) : P (actBlock operand s).1 := by
  unfold Machine.actBlock
  split
  · exact h
  · exact hP.base (hP.of_regime h rfl)

theorem actReset (scope : Byte) (h : P s) : P (actReset scope s).1 := by
  unfold Machine.actReset
  split
  · exact h
  · exact hP.of_regime (hP.engine h) (regime_moment _)
  · exact hP.of_regime h rfl

theorem act (d : Directive) (s : State) (h : P s) : P (act d s).1 := by
  unfold Machine.act
  split
  case h_3 =>
    unfold actCounters
    split
    · split
      · exact hP.of_regime h (regime_clearCounters s _)
      · exact h
    · exact h
  case h_5 =>
    unfold actGet
    split <;> exact h
  case h_6 => exact hP.parameter _ _ h
  case h_7 => exact hP.of_regime h (regime_actMapSet _ _ _ s)
  case h_8 => exact hP.actSourceSet _ _ _ _ _ h
  case h_9 => exact hP.actAuxSet _ _ _ _ _ _ _ h
  case h_10 => exact hP.of_regime h (regime_actBankSet _ _ _ _ s)
  case h_11 => exact hP.actBankForce _ _ h
  case h_12 => exact hP.of_regime h (regime_actTableWrite _ _ _ _ s)
  case h_13 => exact hP.of_regime h (regime_actTableRead _ _ _ s)
  case h_14 =>
    unfold actTableCopy
    split <;> exact hP.of_regime h rfl
  case h_15 => exact hP.of_regime h (regime_actTableCommit _ s)
  case h_16 => exact hP.actMode _ h
  case h_17 => exact hP.actBlock _ h
  case h_18 => exact hP.base (hP.of_regime h rfl)
  case h_19 => exact hP.of_regime h (regime_actCaptureSet _ _ s)
  case h_20 => exact hP.of_regime h (regime_actCaptureTrigger s)
  case h_21 =>
    unfold actCaptureRead
    split <;> exact hP.of_regime h rfl
  case h_23 =>
    unfold actNoticeSet
    split <;> exact hP.of_regime h rfl
  case h_24 =>
    unfold actNoticeClear
    split <;> exact hP.of_regime h rfl
  case h_25 => exact hP.actReset _ h
  all_goals exact hP.of_regime h rfl

/-! ## A command, a step -/

theorem receiveBytes (port : Port) (bytes : List Byte) (h : P s) : P (receiveBytes port bytes s) := by
  have counted : ∀ v, P (s.countPort port fun c => c.count v) := fun v => by
    cases port <;> exact hP.of_regime h rfl
  unfold Machine.receiveBytes
  dsimp only
  split
  · unfold handOn
    split
    · exact hP.takeSample _ (counted _)
    · exact hP.stationFree.admission _ _ (counted _)
    · exact hP.receiveReport _ (counted _)
    · exact hP.of_regime (counted _) (regime_receiveBankStatus _ _ _ _)
    · exact counted _
  · exact counted _

theorem exec {i : Instr} {t : State} (h : P s) (ht : exec i s = .next t) : P t := by
  have directive : ∀ {unit tag kind : Byte} {length : Nat} {r : Request},
      whileReleased s (directiveArrives unit tag kind length r) = .next t → P t :=
    whileReleased_keeps (hP.stationFree.directiveArrives hP.act _ _ _ _ _) h
  have settled : ∀ {f : State → State}, P (f s) → whileReleased s (fun s => settle (f s)) = .next t → P t :=
    fun hf => whileReleased_keeps (fun _ => hP.stationFree.settle hP.act hf) h
  have receivedV : P s.receivedV := hP.of_regime h rfl
  cases i with
  | sampleFrame f => exact settled (hP.stationFree.receiveM (fun _ hs => hP.takeSample f hs) _ h) ht
  | localSamplePeriod =>
    refine settled (f := endSamplePeriod) ?_ ht
    unfold endSamplePeriod
    split
    · exact h
    · split
      · exact hP.expireSilence h
      · exact hP.of_regime h rfl
  | silenceTimerExpiry =>
    refine settled (f := silenceExpires) ?_ ht
    unfold silenceExpires
    split
    · exact h
    · exact hP.expireSilence h
  | localTick => exact settled (hP.localTick h) ht
  | confirmationTimerExpiry =>
    exact settled (f := Index4.all.foldl confirmationExpiresAt)
      (hP.of_regime h (foldl_same State.regime _ regime_confirmationExpiresAt _ s)) ht
  | dischargeTimerExpiry n => exact settled (hP.of_regime h (regime_dischargeExpires n s)) ht
  | dwellTimerExpiry => exact settled (f := expireDwell) (hP.of_regime h rfl) ht
  | dipToleranceExpiry =>
    refine settled (f := dipToleranceExpires) ?_ ht
    unfold dipToleranceExpires
    split
    · exact hP.of_regime h (regime_interrupt _ s)
    · exact h
  | blankingDelayExpiry =>
    refine settled (f := blankingDelayExpires) ?_ ht
    unfold blankingDelayExpires
    split
    · exact hP.activateBlanking _ h
    · exact h
  | blankingPulseEnd =>
    refine settled (f := blankingPulseEnds) ?_ ht
    unfold blankingPulseEnds
    split
    · exact hP.endBlanking h
    · exact h
  | valveReport r => exact settled (f := fun s => Machine.receiveReport r s.receivedV) (hP.receiveReport r receivedV) ht
  | bankStatusFrame bank status code =>
    exact settled (f := fun s => receiveBankStatus bank status code s.receivedV)
      (hP.of_regime receivedV (regime_receiveBankStatus bank status code _)) ht
  | vTransmitCompletion => exact settled (hP.completeV h) ht
  | frameRejected port bytes => exact settled (hP.receiveBytes port bytes h) ht
  | mTransmitCompletion =>
    exact whileReleased_keeps (hP.stationFree.completeM hP.act fun _ _ => hP.powerOn _ _ _ _) h ht
  | powerOnReset =>
    cases ht
    exact hP.powerOn _ _ _ _
  | rstnRelease fsel unit boot =>
    change execRstnRelease fsel unit boot s = .next t at ht
    unfold execRstnRelease at ht
    split at ht <;> cases ht
    · exact h
    · exact hP.powerOn _ _ _ _
  | _ => exact directive ht

/-- Every step keeps the property. -/
theorem step {t : State} (h : P s) (ht : step s = .next t) : P t := by
  unfold Machine.step at ht
  split at ht
  · cases ht
    exact h
  · next c rest _ =>
    have waiting : P { s with pending := rest } := hP.of_regime h rfl
    exact hP.exec waiting ht

end RegimeKept

end Sys2Proof.Machine
end

section
/-! The parameters keep their ranges (R136, R176): SET alone writes one, and a value that passes its checks. -/

namespace Sys2Proof.Machine

theorem ParamsInv.of_params {s t : State} (h : ParamsInv s) (e : t.params = s.params) : ParamsInv t := by
  obtain ⟨range, dip⟩ := h
  exact ⟨by rwa [e], by rwa [e]⟩

theorem ParamsInv.of_outer {s t : State} (h : ParamsInv s) (e : t.outer = s.outer) : ParamsInv t :=
  h.of_params (congrArg Outer.params e)

/-- R177: a value written in its range leaves every parameter in its range. -/
theorem Params.write_inRange {q : Params} (h : ∀ r : Param, r.inRange (q.value r) = true) {p : Param} {v : Int}
    (hv : p.inRange v = true) (r : Param) : r.inRange ((q.write p v).value r) = true := by
  by_cases hr : r = p
  · subst hr
    rwa [q.value_write_self r hv]
  · rw [q.value_write_ne v hr]
    exact h r

/-- R136: a value that passes the cross check leaves V_DIP at most V_VALID. -/
theorem Params.write_dip {q : Params} (h : q.vDip ≤ q.vValid) {p : Param} {v : Int} (hv : p.inRange v = true)
    (hc : q.crossCheck p v = true) : (q.write p v).vDip ≤ (q.write p v).vValid := by
  obtain ⟨dip, valid⟩ := (q.crossCheck_iff p v).mp hc
  have read : ∀ r : Param, (q.write p v).value r = if r = p then v else q.value r := fun r => by
    split
    · next hr =>
      subst hr
      exact q.value_write_self r hv
    · next hr => exact q.value_write_ne v hr
  have written : (q.write p v).value .vDip ≤ (q.write p v).value .vValid := by
    rw [read, read]
    split
    · next hp =>
      subst hp
      exact Int.not_lt.mp fun hlt => dip ⟨rfl, hlt⟩
    · split
      · next hp =>
        subst hp
        exact Int.not_lt.mp fun hlt => valid ⟨rfl, hlt⟩
      · exact Int.ofNat_le.mpr h
  exact Int.ofNat_le.mp written

theorem afterWrite_params (p : Param) (s : State) : (afterWrite p s).params = s.params := by
  unfold afterWrite
  split
  · split <;> rfl
  · rfl
  · rfl
  · exact congrArg Outer.params (outer_evalSupply s)
  · exact congrArg Outer.params (outer_evalSupply s)
  · exact congrArg Outer.params (outer_evalBase s)
  · rfl

/-- R177: SET writes only what passes the range and the cross check. -/
theorem ParamsInv.actSet {s : State} (h : ParamsInv s) (ident : Byte) (value : Word) :
    ParamsInv (actSet ident value s).1 := by
  rcases hp : param? ident with _ | p
  · simpa [Machine.actSet, hp] using h
  · rw [actSet_some hp]
    split
    · exact h
    · split
      · next checks =>
        obtain ⟨range, cross⟩ := Bool.and_eq_true_iff.mp checks
        have written : ParamsInv (s.setParams (s.params.write p value.toInt)) :=
          ⟨Params.write_inRange h.range range, Params.write_dip h.dip range cross⟩
        exact written.of_params (afterWrite_params p _)
      · exact h

theorem outer_takeMode (m : Mode) (s : State) : (takeMode m s).outer = s.outer := by
  have requested : ∀ t u, (requestMode t u).outer = u.outer := fun t u => by
    unfold requestMode
    split
    · rw [outer_evalBase, outer_changeMode]
    · rw [outer_evalBase, outer_changeMode]
    · exact outer_changeMode _ _ _
    · rfl
  have cancelled : (cancelResume s).outer = s.outer := rfl
  have quieted : (if s.control.mode = .quiescent then cancelResume s else enterQuiescent s).outer = s.outer := by
    split
    · exact cancelled
    · exact outer_enterQuiescent s
  cases m with
  | run | park => exact (requested _ _).trans cancelled
  | quiescent | waking => exact quieted

theorem engineReset_params (s : State) : (engineReset s).params = s.params := by
  obtain ⟨tables, processor, records, valid, dip, ready, hs, -⟩ := engineReset_eq s
  rw [hs]

theorem regimeKept_paramsInv : RegimeKept ParamsInv where
  of_regime h e := h.of_params (congrArg Regime.params e)
  base h := h.of_outer (outer_evalBase _)
  supply h := h.of_outer (outer_evalSupply _)
  ready v h := h.of_outer (outer_handReady v _)
  event ev h := h.of_outer (outer_controlEvent ev _)
  wake h := h.of_outer (outer_wakeAction _)
  parameter ident value h := h.actSet ident value
  mode m h := h.of_outer (outer_takeMode m _)
  engine h := h.of_params (engineReset_params _)
  powerOn := paramsInv_powerOn

end Sys2Proof.Machine

/-- Settles O60: SET alone writes a parameter, after its range and the cross check; every other part of a step leaves
them, or takes their power-on values. -/
theorem stepKeepsParametersInRange : Obligations.StepKeepsParametersInRange := by
  unfold Obligations.StepKeepsParametersInRange
  intro s t hi ht
  exact Sys2Proof.Machine.regimeKept_paramsInv.step hi ht
end

section
/-! Mode, waking target and release state stay in keeping (R131, R146). -/

namespace Sys2Proof.Machine

/-! ## The waking target (R131) -/

/-- R131: there is a waking target exactly in WAKING. -/
def Controller.TargetKept (c : Controller) : Prop := c.mode = .waking ↔ c.wakingTarget.isSome = true

theorem Controller.targetKept_of_none {c : Controller} (hm : c.mode ≠ .waking) (ht : c.wakingTarget = none) :
    c.TargetKept :=
  ⟨fun h => absurd h hm, fun h => absurd h (by rw [ht]; decide)⟩

theorem ModeInv.of_regime {s t : State} (h : ModeInv s) (e : t.regime = s.regime) : ModeInv t := by
  have mode : t.control.mode = s.control.mode := congrArg Regime.mode e
  have target : t.control.wakingTarget = s.control.wakingTarget := congrArg Regime.target e
  have release : t.control.release = s.control.release := congrArg Regime.release e
  obtain ⟨held, waking⟩ := h
  exact ⟨by rwa [release, mode], by rwa [mode, target]⟩

/-- A mode written with its target, release HELD. -/
theorem modeInv_of_held {s : State} (hr : s.control.release = .held) (ht : s.control.TargetKept) : ModeInv s :=
  ⟨fun h => absurd hr h, ht⟩

/-- A release state in RUN. -/
theorem modeInv_of_run {s : State} (hm : s.control.mode = .run) (ht : s.control.TargetKept) : ModeInv s :=
  ⟨fun _ => hm, ht⟩

theorem ReleaseOnly.targetKept {s t : State} (h : ReleaseOnly s t) (hs : s.control.TargetKept) :
    t.control.TargetKept := by
  unfold Controller.TargetKept
  rw [h.control]
  exact hs

/-- A mode that names RUN or PARK has no waking target. -/
theorem Target.mode_ne_waking (g : Target) : g.mode ≠ .waking := by
  cases g <;> decide

/-- RUN or PARK written without a target. -/
theorem targetKept_changeMode (g : Target) (s : State) : (changeMode g.mode none s).control.TargetKept := by
  rw [changeMode_control]
  exact Controller.targetKept_of_none g.mode_ne_waking rfl

/-! ## What writes the mode or the release state -/

/-- R146, R149: an evaluation of the base conditions leaves release HELD outside RUN, whatever it was. -/
theorem modeInv_evalBase {s : State} (ht : s.control.TargetKept) : ModeInv (evalBase s) := by
  have only := evalBase_only s
  by_cases hm : s.control.mode = .run
  · exact modeInv_of_run (only.mode.trans hm) (only.targetKept ht)
  · exact modeInv_of_held (evalBase_not_run hm) (only.targetKept ht)

theorem modeInv_evalBase_changeMode (g : Target) (s : State) : ModeInv (evalBase (changeMode g.mode none s)) :=
  modeInv_evalBase (targetKept_changeMode g s)

/-- R146: a move of the release state from another state than HELD happens in RUN. -/
theorem ModeInv.of_released {s t : State} (h : ModeInv s) (hr : s.control.release ≠ .held)
    (e : t.regime = { s.regime with release := t.control.release }) : ModeInv t := by
  have mode : t.control.mode = s.control.mode := congrArg Regime.mode e
  have target : t.control.wakingTarget = s.control.wakingTarget := congrArg Regime.target e
  refine modeInv_of_run (mode.trans (h.held hr)) ?_
  unfold Controller.TargetKept
  rw [mode, target]
  exact h.target

theorem ModeInv.of_control {s t : State} (h : ModeInv s) (e : t.control = s.control) : ModeInv t := by
  obtain ⟨held, target⟩ := h
  exact ⟨by rwa [e], by rwa [e]⟩

theorem ModeInv.handReady {s : State} (h : ModeInv s) (v : Bool) : ModeInv (handReady v s) := by
  unfold Machine.handReady
  dsimp only
  split
  · next hr => exact h.of_released (by rw [hr]; decide) rfl
  · next hr =>
    refine h.of_released (by rw [hr]; decide) ?_
    unfold State.regime
    rw [releaseDrop_control, (releaseDrop_only _).outside.params]
    rfl
  · exact h.of_regime rfl

/-! ## Supply and dips (R136, R137, R140) -/

theorem targetKept_recover {s : State} (h : s.control.TargetKept) : (recover s).control.TargetKept := by
  unfold recover
  split
  · exact h
  · exact (targetKept_changeMode _ _ :)

theorem targetKept_supplyReturns {s : State} (h : s.control.TargetKept) : (supplyReturns s).control.TargetKept := by
  unfold supplyReturns
  refine targetKept_recover ?_
  split <;> exact h

theorem regime_dipBegins (s : State) : (dipBegins s).regime = s.regime := by
  unfold dipBegins
  split
  · split
    · exact regime_interrupt _ s
    · rfl
  all_goals rfl

theorem regime_dipEnds (s : State) : (dipEnds s).regime = s.regime := by
  unfold dipEnds
  split <;> rfl

theorem ModeInv.evalSupply {s : State} (h : ModeInv s) : ModeInv (evalSupply s) := by
  unfold Machine.evalSupply
  dsimp only
  have written : Controller.TargetKept
      (s.setControl { s.control with supplyValid := s.supplyIsValid, dip := s.dipPresent }).control := h.target
  generalize s.setControl { s.control with supplyValid := s.supplyIsValid, dip := s.dipPresent } = u at written ⊢
  have returned : ∀ c : Bool, (if c then supplyReturns u else u).control.TargetKept := fun c => by
    split
    · exact targetKept_supplyReturns written
    · exact written
  have evaluated : ∀ c : Bool, ModeInv (evalBase (momentAfter [.mode] (if c then supplyReturns u else u))) := fun c =>
    modeInv_evalBase (by rw [momentAfter_control]; exact returned c)
  split
  · exact (evaluated _).of_regime ((regime_dipBegins _).trans
      (regime_congr (momentAfterRelease_outside _).params (momentAfterRelease_control _)))
  · split
    · exact (evaluated _).of_regime (regime_dipEnds _)
    · exact evaluated _

/-! ## Crossing events and WAKE (R134, R147, R153) -/

theorem modeInv_endWaking (s : State) : ModeInv (endWaking s) := by
  unfold endWaking
  split
  · exact modeInv_evalBase_changeMode .park s
  · exact modeInv_evalBase_changeMode _ s

theorem ModeInv.countQualifying {s : State} (h : ModeInv s) (hr : s.control.release = .qualifying) :
    ModeInv (countQualifying s) := by
  have moved : ∀ {t : State}, t.regime = { s.regime with release := t.control.release } → ModeInv t :=
    fun e => h.of_released (by rw [hr]; decide) e
  unfold Machine.countQualifying
  dsimp only
  split
  · split <;> exact moved rfl
  · exact h.of_regime rfl

theorem ModeInv.controlEvent {s : State} (h : ModeInv s) (ev : CrossingEvent) : ModeInv (controlEvent ev s) := by
  unfold Machine.controlEvent
  split
  · split
    · unfold countWaking
      dsimp only
      split
      · exact h
      · split
        · exact modeInv_endWaking _
        · exact h.of_regime rfl
    · split
      · next hq => exact h.countQualifying hq
      · exact h
  · exact h

/-- R131: WAKING entered from another mode than RUN finds release HELD. -/
theorem ModeInv.changeMode_waking {s : State} (h : ModeInv s) (hm : s.control.mode ≠ .run) (t : Target) :
    ModeInv (changeMode .waking (some t) s) := by
  have held : s.control.release = .held := by
    by_contra hr
    exact hm (h.held hr)
  have control := changeMode_control .waking (some t) s
  exact modeInv_of_held (control ▸ held) (control ▸ ⟨fun _ => rfl, fun _ => rfl⟩)

theorem ModeInv.wakeAction {s : State} (h : ModeInv s) : ModeInv (wakeAction s) := by
  unfold Machine.wakeAction
  split
  · next hm => exact h.changeMode_waking (by rw [hm]; decide) _
  · exact h

/-! ## SET, MODE and the resets (R132, R177, R185) -/

theorem ModeInv.afterWrite {s : State} (h : ModeInv s) (p : Param) : ModeInv (afterWrite p s) := by
  unfold Machine.afterWrite
  split
  · split
    · exact h.of_regime rfl
    · exact h
  · exact h.of_regime rfl
  · exact h.of_regime rfl
  · exact h.evalSupply
  · exact h.evalSupply
  · exact modeInv_evalBase h.target
  · exact h

theorem ModeInv.actSet {s : State} (h : ModeInv s) (ident : Byte) (value : Word) :
    ModeInv (actSet ident value s).1 := by
  rcases hp : param? ident with _ | p
  · simpa [Machine.actSet, hp] using h
  · rw [actSet_some hp]
    split
    · exact h
    · split
      · have written : ModeInv (s.setParams (s.params.write p value.toInt)) := h.of_control rfl
        exact written.afterWrite p
      · exact h

theorem ModeInv.requestMode {s : State} (h : ModeInv s) (t : Target) : ModeInv (requestMode t s) := by
  unfold Machine.requestMode
  split
  · exact modeInv_evalBase_changeMode t s
  · exact modeInv_evalBase_changeMode t s
  · next hm => exact h.changeMode_waking (by rw [hm]; decide) t
  · next hm =>
    refine ⟨fun hr => absurd (h.held hr) ?_, fun _ => rfl, fun _ => hm⟩
    rw [hm]
    decide

theorem modeInv_enterQuiescent {s : State} (h : s.control.mode ≠ .quiescent) : ModeInv (enterQuiescent s) := by
  have control := (enterQuiescent_quieted h).controller
  refine modeInv_of_held (by rw [control]) (Controller.targetKept_of_none ?_ (by rw [control]))
  have mode : (enterQuiescent s).control.mode = .quiescent := by rw [control]
  rw [mode]
  decide

theorem ModeInv.takeMode {s : State} (h : ModeInv s) (m : Mode) : ModeInv (takeMode m s) := by
  have cancelled : ModeInv (cancelResume s) := h.of_regime rfl
  have quieted : ModeInv (if s.control.mode = .quiescent then cancelResume s else enterQuiescent s) := by
    split
    · exact cancelled
    · next hm => exact modeInv_enterQuiescent hm
  cases m with
  | run | park => exact cancelled.requestMode _
  | quiescent | waking => exact quieted

theorem ModeInv.engineReset {s : State} (h : ModeInv s) : ModeInv (engineReset s) := by
  obtain ⟨tables, processor, records, valid, dip, ready, hs, -⟩ := engineReset_eq s
  rw [hs]
  exact modeInv_of_held rfl h.target

theorem regimeKept_modeInv : RegimeKept ModeInv where
  of_regime h e := h.of_regime e
  base h := modeInv_evalBase h.target
  supply h := h.evalSupply
  ready v h := h.handReady v
  event ev h := h.controlEvent ev
  wake h := h.wakeAction
  parameter ident value h := h.actSet ident value
  mode m h := h.takeMode m
  engine h := h.engineReset
  powerOn _ _ _ _ := modeInv_powerOn ..

end Sys2Proof.Machine

/-- Settles O55: every write of the mode or the release state is followed by the base conditions, is made with release
HELD, or moves a release state that RUN holds already. -/
theorem stepKeepsModeAndRelease : Obligations.StepKeepsModeAndRelease := by
  unfold Obligations.StepKeepsModeAndRelease
  intro s t hi ht
  exact Sys2Proof.Machine.regimeKept_modeInv.step hi ht
end

section
/-! BLOCK and TRIP_CLEAR (R143, R144). -/

namespace Sys2Proof.Machine

/-- R144: SET and CLEAR. -/
theorem actBlock_flag {operand : Byte} {v : Bool} (h : operand = 0 ∧ v = true ∨ operand = 1 ∧ v = false) (s : State) :
    actBlock operand s = (evalBase (s.setControl { s.control with directedBlock := v })).done
      (.block v (evalBase (s.setControl { s.control with directedBlock := v })).control.release) := by
  have kept : (evalBase (s.setControl { s.control with directedBlock := v })).control.directedBlock = v := by
    rw [(evalBase_only _).control]
    rfl
  have named : blockOperand? operand = some v := by
    rcases h with ⟨rfl, rfl⟩ | ⟨rfl, rfl⟩ <;> rfl
  unfold actBlock
  rw [named]
  dsimp only
  rw [kept]

theorem actBlock_range {operand : Byte} (h : 1 < operand.toNat) (s : State) : actBlock operand s = s.refuse .range := by
  have unnamed : blockOperand? operand = none := by
    unfold blockOperand?
    split
    · next set => omega
    · next clear => omega
    · rfl
  unfold actBlock
  rw [unnamed]

/-- R143: what TRIP_CLEAR writes before the block cause is evaluated. -/
def State.tripsCleared (s : State) : State :=
  zeroRuns (zeroGaps (clearLatches (s.setControl { s.control with trips := .empty })))

theorem actTripClear_eq (s : State) : actTripClear s = (evalBase s.tripsCleared).done .empty := rfl

end Sys2Proof.Machine

open Sys2Proof Sys2Proof.Machine in
/-- Settles O24: the operand is the flag that is written. -/
theorem blockWritesDirectedFlag : Obligations.BlockWritesDirectedFlag := by
  unfold Obligations.BlockWritesDirectedFlag
  refine fun s tag operand h => ⟨fun v hv => ?_, fun hr => ?_⟩
  · obtain ⟨t, ht, hs⟩ := exec_answered (i := .block s.unitByte tag operand) h rfl (by decide) rfl
      (actBlock_flag hv s.taken)
    exact ⟨t, _, rfl, ht, hs⟩
  · exact exec_answered h rfl (by decide) rfl (actBlock_range hr s.taken)

open Sys2Proof Sys2Proof.Machine in
/-- Settles O25: trips, latches and counts are cleared, each on its own. -/
theorem tripClearClearsTrips : Obligations.TripClearClearsTrips := by
  unfold Obligations.TripClearClearsTrips
  intro s tag h
  obtain ⟨t, ht, hs⟩ := exec_answered (i := .tripClear s.unitByte tag) h rfl (by decide) rfl (actTripClear_eq s.taken)
  exact ⟨t, s.taken.tripsCleared, ht, hs, rfl, Four.get_ofFn _, PerBranch.get_ofFn _, PerBranch.get_ofFn _, rfl⟩
end

section
/-! What the base conditions and the supply do to the release state (R136 to R140, R145 to R150). -/

namespace Sys2Proof.Machine

/-! ## Base conditions and block cause (R145, R146) -/

theorem baseConditions_iff (s : State) : s.baseConditions = true ↔
    s.control.mode = .run ∧ s.control.supplyValid = true ∧ s.blockCause = false := by
  simp [State.baseConditions, and_assoc]

theorem PerBranch.anyBranch_iff (p : PerBranch Bool) : p.anyBranch = true ↔ ∃ b, p.get b = true := by
  constructor
  · intro h
    simp only [PerBranch.anyBranch, Bool.or_eq_true] at h
    rcases h with (h | h) | h
    · exact ⟨.ab, h⟩
    · exact ⟨.bc, h⟩
    · exact ⟨.ca, h⟩
  · rintro ⟨b, h⟩
    simp only [PerBranch.anyBranch, Bool.or_eq_true]
    cases b with
    | ab => exact .inl (.inl h)
    | bc => exact .inl (.inr h)
    | ca => exact .inr h

/-- R142, R145: a trip is latched when a set names a branch or a valve is recorded. -/
theorem TripRecord.latched_iff (r : TripRecord) : r.latched = true ↔
    (∃ b, r.gap.get b = true ∨ r.report.get b = true ∨ r.misfire.get b = true) ∨ r.valve ≠ none := by
  simp only [TripRecord.latched, Bool.or_eq_true, PerBranch.anyBranch_iff, Option.isSome_iff_ne_none, exists_or,
    or_assoc]

theorem AuxRec.contributesBlock_iff (r : AuxRec) : r.contributesBlock = true ↔
    r.blockLatch = true ∨ r.kind = .level ∧ r.actions.block = true ∧ r.active = true := by
  simp [AuxRec.contributesBlock, or_comm, and_assoc]

theorem Controller.auxBlock_iff (c : Controller) : c.auxBlock = true ↔ ∃ n, (c.aux.get n).contributesBlock = true := by
  constructor
  · intro h
    simp only [Controller.auxBlock, Bool.or_eq_true] at h
    rcases h with ((h | h) | h) | h
    · exact ⟨.i0, h⟩
    · exact ⟨.i1, h⟩
    · exact ⟨.i2, h⟩
    · exact ⟨.i3, h⟩
  · rintro ⟨n, h⟩
    simp only [Controller.auxBlock, Bool.or_eq_true]
    cases n with
    | i0 => exact .inl (.inl (.inl h))
    | i1 => exact .inl (.inl (.inr h))
    | i2 => exact .inl (.inr h)
    | i3 => exact .inr h

/-- R145: the source selected by BLOCK_SELECT. -/
theorem Controller.blockSource_iff (c : Controller) (x : BlockSelect) : c.blockSource x = true ↔
    (x = .directed ∨ x = .merged) ∧ c.directedBlock = true ∨ (x = .aux ∨ x = .merged) ∧ c.auxBlock = true := by
  cases x <;> simp [Controller.blockSource]

theorem blockCause_iff (s : State) : s.blockCause = true ↔
    (∃ b, s.control.trips.gap.get b = true ∨ s.control.trips.report.get b = true ∨
      s.control.trips.misfire.get b = true) ∨
    s.control.trips.valve ≠ none ∨ s.control.blanking.state = .active ∨
    ((s.params.blockSelect = .directed ∨ s.params.blockSelect = .merged) ∧ s.control.directedBlock = true) ∨
    ((s.params.blockSelect = .aux ∨ s.params.blockSelect = .merged) ∧
      ∃ n, (s.control.aux.get n).blockLatch = true ∨ (s.control.aux.get n).kind = .level ∧
        (s.control.aux.get n).actions.block = true ∧ (s.control.aux.get n).active = true) := by
  simp only [State.blockCause, Bool.or_eq_true, decide_eq_true_eq, TripRecord.latched_iff, Controller.blockSource_iff,
    Controller.auxBlock_iff, AuxRec.contributesBlock_iff, or_assoc]

/-! ## The evaluation by the release state (R146, R149) -/

/-- R146: the base conditions coming to hold in HELD. -/
theorem evalBase_qualifies {s : State} (h : s.baseConditions = true) (hr : s.control.release = .held) :
    evalBase s = raise .release (s.setControl { s.control with release := .qualifying, qualifyCount := 0 }) := by
  simp [evalBase, h, startQualifying, hr]

theorem evalBase_stands {s : State} (h : s.baseConditions = true) (hr : s.control.release ≠ .held) :
    evalBase s = s := by
  rw [evalBase, if_pos h]
  unfold startQualifying
  split
  · next held => exact absurd held hr
  all_goals rfl

/-- R149: a failing base condition, by the release state it meets. -/
theorem evalBase_fails {s : State} (h : s.baseConditions = false) : evalBase s = holdRelease s := by
  rw [evalBase, if_neg (by rw [h]; decide)]

/-- R149: HELD with qualifying count 0 written. -/
def State.heldWritten (s : State) : State := s.setControl { s.control with release := .held, qualifyCount := 0 }

theorem holdRelease_held {s : State} (hr : s.control.release = .held) : holdRelease s = s := by
  simp [holdRelease, hr]

theorem holdRelease_qualifying {s : State} (hr : s.control.release = .qualifying) :
    holdRelease s = raise .release (s.setControl { s.control with
      release := .held
      qualifyCount := 0
      counters := { s.control.counters with qualifyRestart := bump s.control.counters.qualifyRestart } }) := by
  unfold holdRelease
  rw [hr]
  rfl

theorem holdRelease_awaiting {s : State} (hr : s.control.release = .awaitingReady) :
    holdRelease s = raise .release s.heldWritten := by
  simp [holdRelease, hr, State.heldWritten]

theorem holdRelease_released {s : State} (hr : s.control.release = .released) :
    holdRelease s = releaseDrop s.heldWritten := by
  simp [holdRelease, hr, State.heldWritten]

/-! ## The departure from RELEASED (R82, R92, R150) -/

theorem releaseDrop_notice (s : State) : ((releaseDrop s).notices.records.get .release).status = true := by
  rw [releaseDrop, raise_status]
  rfl

theorem releaseDrop_blocks {s : State} {o : Order} (h : VFrame.order o ∈ (releaseDrop s).exchange.queue) :
    o.angle = 8192 := VFrame.order_of_blocked (by rwa [releaseDrop_queue] at h)

/-- R56, R58, R92, R150: what a drop counts, zeroes and rewrites before the pending commit is completed. -/
def State.dropping (s : State) : State :=
  rewriteQueue (zeroClamps (zeroCarries (s.countControl fun c => { c with releaseLost := bump c.releaseLost })))

theorem releaseDrop_eq (s : State) : releaseDrop s = raise .release (commitReleaseDrop s.dropping) := rfl

theorem dropping_tables (s : State) : s.dropping.tables = s.tables := by
  simp [State.dropping, rewriteQueue, zeroClamps, zeroCarries, State.countControl]

theorem dropping_processor (s : State) : s.dropping.processor = s.processor := by
  simp [State.dropping, rewriteQueue, zeroClamps, zeroCarries, State.countControl]

/-- R82: without a pending commit the drop leaves tables and replies. -/
theorem releaseDrop_uncommitted {s : State} (h : s.tables.commit = none) :
    (releaseDrop s).tables = s.tables ∧ (releaseDrop s).processor = s.processor := by
  have pending : s.dropping.tables.commit = none := by rw [dropping_tables, h]
  have kept : commitReleaseDrop s.dropping = s.dropping := by simp [commitReleaseDrop, completeCommit, pending]
  rw [releaseDrop_eq, kept, raise_tables, raise_processor]
  exact ⟨dropping_tables s, dropping_processor s⟩

/-- R82: a pending commit is completed by the drop: the tables are swapped and its reply appended. -/
theorem releaseDrop_commits {s : State} {tag : Byte} (h : s.tables.commit = some tag) :
    (releaseDrop s).tables.active = s.tables.staged ∧ (releaseDrop s).tables.staged = s.tables.active ∧
      (releaseDrop s).processor.replies =
        s.processor.replies ++ [⟨s.straps.unit, tag, commitKind, .done, .commit .releaseDrop⟩] := by
  have pending : s.dropping.tables.commit = some tag := by rw [dropping_tables, h]
  rw [releaseDrop_eq, commitReleaseDrop, completeCommit_some pending]
  exact ⟨rfl, rfl, rfl⟩

/-! ## The qualifying count and valve ready (R147, R148) -/

theorem gainRelease_notice (s : State) : ((gainRelease s).notices.records.get .release).status = true := by
  rw [gainRelease, raise_status]
  rfl

theorem countQualifying_gains {s : State} (hv : s.control.valveReady = true)
    (hc : s.params.releaseBase + s.params.releaseExtra ≤ s.control.qualifyCount + 1) :
    countQualifying s = gainRelease (s.setControl { s.control with qualifyCount := s.control.qualifyCount + 1 }) :=
  (if_pos hc).trans (if_pos hv)

theorem countQualifying_awaits {s : State} (hv : s.control.valveReady = false)
    (hc : s.params.releaseBase + s.params.releaseExtra ≤ s.control.qualifyCount + 1) :
    countQualifying s = raise .release (s.setControl { s.control with
      qualifyCount := s.control.qualifyCount + 1, release := .awaitingReady }) :=
  (if_pos hc).trans (if_neg (ne_true_of_eq_false hv))

theorem countQualifying_counts {s : State}
    (hc : s.control.qualifyCount + 1 < s.params.releaseBase + s.params.releaseExtra) :
    countQualifying s = s.setControl { s.control with qualifyCount := s.control.qualifyCount + 1 } :=
  if_neg (Nat.not_le.mpr hc)

theorem controlEvent_qualifying {ev : CrossingEvent} {s : State} (hw : s.control.mode ≠ .waking)
    (hb : ev.branch = .ab) (hp : ev.polarity = .pos) (hr : s.control.release = .qualifying) :
    controlEvent ev s = countQualifying s := by
  simp [controlEvent, hb, hp, hw, hr]

theorem controlEvent_uncounted {ev : CrossingEvent} {s : State} (hw : s.control.mode ≠ .waking)
    (h : ¬(ev.branch = .ab ∧ ev.polarity = .pos ∧ s.control.release = .qualifying)) : controlEvent ev s = s := by
  unfold controlEvent
  split
  · next hb hp =>
    rw [if_neg hw]
    split
    · next hr => exact absurd ⟨hb, hp, hr⟩ h
    · rfl
  · rfl

theorem handReady_gains {s : State} (hr : s.control.release = .awaitingReady) :
    handReady true s = gainRelease (s.setControl { s.control with valveReady := true }) := by
  simp [handReady, hr]

theorem handReady_drops {s : State} (hr : s.control.release = .released) : handReady false s =
    releaseDrop (s.setControl { s.control with valveReady := false, release := .awaitingReady }) := by
  unfold handReady
  rw [hr]
  rfl

theorem handReady_writes {s : State} {v : Bool} (gains : ¬(v = true ∧ s.control.release = .awaitingReady))
    (drops : ¬(v = false ∧ s.control.release = .released)) :
    handReady v s = s.setControl { s.control with valveReady := v } := by
  unfold handReady
  dsimp only
  split
  · next hr => exact absurd ⟨rfl, hr⟩ gains
  · next hr => exact absurd ⟨rfl, hr⟩ drops
  · rfl

/-! ## Validity, dip and recovery (R136, R137, R140) -/

theorem supplyIsValid_iff (s : State) : s.supplyIsValid = true ↔
    ∀ b, ((s.trackers.get b).state = .locked ∨ (s.trackers.get b).state = .holdover) ∧
      s.params.vValid ≤ (s.trackers.get b).magnitude := by
  simp [State.supplyIsValid, Branch.mem_all]

theorem dipPresent_iff (s : State) : s.dipPresent = true ↔
    ∃ b, (s.trackers.get b).state = .unlocked ∨ (s.trackers.get b).magnitude < s.params.vDip := by
  simp [State.dipPresent, Branch.mem_all]

/-- R136: validity and dip written. -/
def State.supplyRead (s : State) : State :=
  s.setControl { s.control with supplyValid := s.supplyIsValid, dip := s.dipPresent }

/-- R136, R137, R140: the state whose base conditions an evaluation of the supply evaluates: validity and dip are
written, a return of the supply is handled, and its MODE notice is raised. -/
def State.supplyTaken (s : State) : State :=
  momentAfter [.mode] (if s.supplyIsValid && !s.control.supplyValid then supplyReturns s.supplyRead else s.supplyRead)

/-- R137: the dip monitor before a recovery. -/
theorem supplyReturns_eq (s : State) : supplyReturns s = recover (s.setControl { s.control with
    dipState := if s.control.dipState = .timing then .timing else .watching }) := by
  have standing : ∀ d, s.control.dipState = d → s.setControl { s.control with dipState := d } = s := by
    rintro _ rfl
    rfl
  unfold supplyReturns
  cases h : s.control.dipState
  case timing =>
    rw [if_pos rfl, standing .timing h]
  case watching =>
    rw [if_neg (by decide), standing .watching h]
  case unarmed | spent => rfl

theorem recover_none {s : State} (h : s.control.resume = none) : recover s = s := by
  simp [recover, h]

/-- R131, R140: the mode that a recovery sets. -/
theorem recover_some {s : State} {g : Target} (h : s.control.resume = some g) :
    (recover s).control = { s.control with
      resume := none
      mode := if s.resumeTarget g = .run ∧ s.primaryMapped = true then .run else .park
      wakingTarget := none
      wakingCount := 0
      counters := { s.control.counters with recoveries := bump s.control.counters.recoveries } } := by
  rw [← permitted_eq]
  unfold recover
  rw [h]
  dsimp only [State.countControl, State.setControl]
  rw [changeMode_control]

/-- R131: a recovery that changes the mode raises MODE. -/
theorem recover_notice {s : State} (h : (recover s).control.mode ≠ s.control.mode) :
    ((recover s).notices.records.get .mode).status = true := by
  rcases hr : s.control.resume with _ | g
  · rw [recover_none hr] at h
    exact absurd rfl h
  · have written : ∀ {x : State} {m : Mode}, (changeMode m none x).control.mode ≠ x.control.mode →
        ((changeMode m none x).notices.records.get .mode).status = true := fun {x m} hx =>
      changeMode_notice _ _ _ fun standing => hx (by rw [changeMode_control, standing])
    unfold recover at h ⊢
    rw [hr] at h ⊢
    exact written h

theorem recover_frame (s : State) : Outside s (recover s) ∧ (recover s).exchange = s.exchange ∧
    (recover s).demand = s.demand ∧ (recover s).tables = s.tables := by
  unfold recover
  split
  · exact ⟨Outside.refl s, rfl, rfl, rfl⟩
  · exact ⟨(setControl_outside _ s).trans ((changeMode_outside _ _ _).trans (countControl_outside _ _)),
      changeMode_exchange _ _ _, changeMode_demand _ _ _, changeMode_tables _ _ _⟩

theorem supplyTaken_frame (s : State) : Outside s s.supplyTaken ∧ s.supplyTaken.exchange = s.exchange ∧
    s.supplyTaken.demand = s.demand ∧ s.supplyTaken.tables = s.tables := by
  have read : Outside s s.supplyRead := setControl_outside _ s
  unfold State.supplyTaken
  rw [momentAfter_exchange, momentAfter_demand, momentAfter_tables]
  split
  · rw [supplyReturns_eq]
    obtain ⟨outside, exchange, demand, tables⟩ := recover_frame (s.supplyRead.setControl { s.supplyRead.control with
      dipState := if s.supplyRead.control.dipState = .timing then .timing else .watching })
    exact ⟨(read.trans (setControl_outside _ _)).trans (outside.trans (momentAfter_outside _ _)), exchange, demand,
      tables⟩
  · exact ⟨read.trans (momentAfter_outside _ _), rfl, rfl, rfl⟩

theorem supplyTaken_unchanged {s : State} (h : ¬(s.supplyIsValid = true ∧ s.control.supplyValid = false)) :
    s.supplyTaken.control = { s.control with supplyValid := s.supplyIsValid, dip := s.dipPresent } := by
  unfold State.supplyTaken
  rw [momentAfter_control, if_neg (by simpa using h)]
  rfl

/-- R136, R137: the supply has returned: validity and dip are written, and the dip monitor watches unless it times. -/
def State.supplyBack (s : State) : State :=
  s.setControl { s.control with
    supplyValid := true
    dip := s.dipPresent
    dipState := if s.control.dipState = .timing then .timing else .watching }

section
variable {s : State} (hv : s.supplyIsValid = true) (hs : s.control.supplyValid = false)
include hv hs

/-- R137, R140: a return of the supply, the dip monitor written. -/
theorem supplyTaken_returned : s.supplyTaken = momentAfter [.mode] (recover s.supplyBack) := by
  unfold State.supplyTaken
  rw [if_pos (by simp [hv, hs]), supplyReturns_eq, State.supplyBack, ← hv]
  rfl

theorem supplyTaken_control_none (hr : s.control.resume = none) :
    s.supplyTaken.control = s.supplyBack.control := by
  rw [supplyTaken_returned hv hs, momentAfter_control]
  exact congrArg State.control (recover_none hr)

theorem supplyTaken_control_some {g : Target} (hr : s.control.resume = some g) :
    s.supplyTaken.control = { s.supplyBack.control with
      resume := none
      mode := if s.resumeTarget g = .run ∧ s.primaryMapped = true then .run else .park
      wakingTarget := none
      wakingCount := 0
      counters := { s.control.counters with recoveries := bump s.control.counters.recoveries } } := by
  rw [supplyTaken_returned hv hs, momentAfter_control]
  exact recover_some (s := s.supplyBack) hr

theorem supplyTaken_notice (hm : s.supplyTaken.control.mode ≠ s.control.mode) :
    (s.supplyTaken.notices.records.get .mode).status = true := by
  rw [supplyTaken_returned hv hs, momentAfter_control] at hm
  rw [supplyTaken_returned hv hs, momentAfter_records]
  exact recover_notice hm

end

/-! ## The dip monitor after the base conditions (R137, R139) -/

theorem evalSupply_eq (s : State) : evalSupply s =
    if s.dipPresent && !s.control.dip then dipBegins (momentAfterRelease (evalBase s.supplyTaken))
    else if !s.dipPresent && s.control.dip then dipEnds (evalBase s.supplyTaken)
    else evalBase s.supplyTaken := rfl

theorem evalSupply_dip_unchanged {s : State} (h : s.dipPresent = s.control.dip) :
    evalSupply s = evalBase s.supplyTaken := by
  rw [evalSupply_eq, h]
  simp

theorem evalSupply_dip_begins {s : State} (h : s.dipPresent = true) (hd : s.control.dip = false) :
    evalSupply s = dipBegins (momentAfterRelease (evalBase s.supplyTaken)) := by
  rw [evalSupply_eq, h, hd]
  rfl

theorem evalSupply_dip_ends {s : State} (h : s.dipPresent = false) (hd : s.control.dip = true) :
    evalSupply s = dipEnds (evalBase s.supplyTaken) := by
  rw [evalSupply_eq, h, hd]
  rfl

theorem dipBegins_unwatched {s : State} (h : s.control.dipState ≠ .watching) : dipBegins s = s := by
  unfold dipBegins
  split
  · next watching => exact absurd watching h
  all_goals rfl

theorem dipBegins_timing {s : State} (h : s.control.dipState = .watching) (ht : 1 ≤ s.params.dipTolerance) :
    dipBegins s = s.setControl { s.control with dipState := .timing, dipCount := s.params.dipTolerance } := by
  simp [dipBegins, h, Nat.one_le_iff_ne_zero.mp ht]

theorem dipBegins_spent {s : State} (h : s.control.dipState = .watching) (ht : s.params.dipTolerance = 0) :
    dipBegins s = dipInterruption s := by
  simp [dipBegins, h, ht]

theorem dipEnds_timing {s : State} (h : s.control.dipState = .timing) :
    dipEnds s = s.setControl { s.control with dipState := .watching, dipCount := 0 } := by
  simp [dipEnds, h]

theorem dipEnds_untimed {s : State} (h : s.control.dipState ≠ .timing) : dipEnds s = s := by
  unfold dipEnds
  split
  · next timing => exact absurd timing h
  all_goals rfl

/-- R139: the interruption declared at the onset of a dip raises DIP. -/
theorem dipInterruption_notice (s : State) : ((dipInterruption s).notices.records.get .dip).status = true := by
  rw [dipInterruption_eq, State.raised, raise_status]
  rfl

/-- R137, R139: the onset of a dip, by the monitor that the base conditions leave. -/
theorem dipBegins_afterRelease {w : State} :
    (w.control.dipState ≠ .watching → (dipBegins (momentAfterRelease w)).control = w.control) ∧
    (w.control.dipState = .watching → 1 ≤ w.params.dipTolerance →
      (dipBegins (momentAfterRelease w)).control = { w.control with
        dipState := .timing, dipCount := w.params.dipTolerance }) ∧
    (w.control.dipState = .watching → w.params.dipTolerance = 0 →
      (dipBegins (momentAfterRelease w)).control = { w.control with
        dipState := .spent
        dipCount := 0
        resume := w.control.remembered
        counters := { w.control.counters with
          dipInterruption := bump w.control.counters.dipInterruption } } ∧
      ((dipBegins (momentAfterRelease w)).notices.records.get .dip).status = true) := by
  have control := momentAfterRelease_control w
  have params := (momentAfterRelease_outside w).params
  generalize momentAfterRelease w = x at control params ⊢
  rw [← control, ← params]
  refine ⟨fun h => ?_, fun h ht => ?_, fun h ht => ?_⟩
  · rw [dipBegins_unwatched h]
  · rw [dipBegins_timing h ht]
    rfl
  · rw [dipBegins_spent h ht]
    exact ⟨rfl, dipInterruption_notice x⟩

end Sys2Proof.Machine

open Sys2Proof Sys2Proof.Machine in
/-- Settles O21: each move of the release state by the state it meets, and the supply with its dip monitor around the
base conditions. -/
theorem baseConditionsMoveRelease : Obligations.BaseConditionsMoveRelease := by
  unfold Obligations.BaseConditionsMoveRelease
  refine ⟨fun s => ⟨baseConditions_iff s, blockCause_iff s⟩, fun s => ⟨evalBase_qualifies, evalBase_stands,
    fun h hr => ?_, fun h hr => ?_, fun h hr => ?_, fun h hr => ⟨_, rfl, ?_⟩⟩,
    fun s => ⟨rfl, gainRelease_notice s, countQualifying_gains, countQualifying_awaits, countQualifying_counts,
      fun ev hw => ⟨controlEvent_qualifying hw, controlEvent_uncounted hw⟩, handReady_gains, fun hr => ?_,
      fun v => handReady_writes⟩,
    fun s => ?_⟩
  · rw [evalBase_fails h, holdRelease_held hr]
  · rw [evalBase_fails h, holdRelease_qualifying hr]
  · rw [evalBase_fails h, holdRelease_awaiting hr]
    rfl
  · rw [evalBase_fails h, holdRelease_released hr]
    have only := releaseDrop_only s.heldWritten
    obtain ⟨-, -, -, -, params, ports, asm, trackers, banks, capture⟩ := only.outside
    exact ⟨releaseDrop_control _, releaseDrop_demand _, fun o => releaseDrop_blocks, only.length, only.transmitter,
      only.branches, releaseDrop_commit _, releaseDrop_uncommitted (s := s.heldWritten),
      fun tag => releaseDrop_commits (s := s.heldWritten), releaseDrop_notice _, params, asm, trackers, banks,
      capture, ports⟩
  · rw [handReady_drops hr]
    exact ⟨releaseDrop_control _, releaseDrop_demand _, fun o => releaseDrop_blocks, (releaseDrop_only _).length,
      releaseDrop_commit _, releaseDrop_notice _⟩
  · obtain ⟨outside, exchange, demand, tables⟩ := supplyTaken_frame s
    have tolerance : (evalBase s.supplyTaken).params = s.params :=
      (evalBase_only _).outside.params.trans outside.params
    refine ⟨s.supplyTaken, evalBase s.supplyTaken, rfl, outside.params, outside.asm, outside.trackers, exchange, demand,
      tables, outside.banks, outside.capture, ?_⟩
    rintro valid dip rfl rfl
    refine ⟨supplyIsValid_iff s, dipPresent_iff s, supplyTaken_unchanged, ?_, evalSupply_dip_unchanged, ?_, ?_⟩
    · rintro hv hs _ rfl
      refine ⟨supplyTaken_control_none hv hs, ?_⟩
      rintro g hg _ rfl
      exact ⟨supplyTaken_control_some hv hs hg, supplyTaken_notice hv hs⟩
    · intro hdip hd
      rw [evalSupply_dip_begins hdip hd, ← tolerance]
      exact dipBegins_afterRelease
    · intro hdip hd
      rw [evalSupply_dip_ends hdip hd]
      exact ⟨fun ht => by rw [dipEnds_timing ht]; rfl, dipEnds_untimed⟩
end

section
/-! The Capture Unit: offered records and triggers by the unit's state (R161 to R163), its directives (R163 to R166),
and the power-on values of the blocks beside the stream path. -/

namespace Sys2Proof.Machine

/-! ## A record taken or refused (R161, Table 8-4) -/

section
variable {c : Capture} (r : CaptureRecord)

theorem Capture.accept_room (h : c.buffer.length < 1024) : c.accept r =
    { c with
      buffer := c.buffer ++ [r]
      counters := { c.counters with accepted := bump c.counters.accepted } } := if_pos h

theorem Capture.accept_full (h : 1024 ≤ c.buffer.length) : c.accept r =
    { c with
      buffer := c.buffer.drop 1 ++ [r]
      counters := { c.counters with
        accepted := bump c.counters.accepted, overwritten := bump c.counters.overwritten } } :=
  if_neg (Nat.not_lt.mpr h)

/-- An accepted record writes the buffer and the counters alone. -/
theorem Capture.accept_eq (c : Capture) : c.accept r =
    { c with buffer := (c.accept r).buffer, counters := (c.accept r).counters } := by
  unfold Capture.accept
  split <;> rfl

/-- R159: an accepted record leaves the buffer within its limit. -/
theorem Capture.accept_limit (h : c.buffer.length ≤ Config.captureLimit) :
    (c.accept r).buffer.length ≤ Config.captureLimit := by
  have limit : Config.captureLimit = 1024 := rfl
  rw [limit] at h ⊢
  by_cases room : c.buffer.length < 1024
  · rw [accept_room r room, List.length_append, List.length_singleton]
    exact room
  · have full : 1024 ≤ c.buffer.length := Nat.not_lt.mp room
    rw [accept_full r full, List.length_append, List.length_drop, List.length_singleton]
    omega

end

/-! ## The post count (R162) -/

theorem countPost_last {c : Capture} (h : c.postCount ≤ 1) (s : State) :
    countPost c s = freeze { c with postCount := 0 } s := if_pos h

theorem countPost_more {c : Capture} (h : 1 < c.postCount) (s : State) :
    countPost c s = s.setCapture { c with postCount := c.postCount - 1 } := if_neg (Nat.not_le.mpr h)

/-! ## An offered record by the state of the unit (R161, R162) -/

section
variable {s : State} (r : CaptureRecord)

theorem offerRecord_off (h : s.capture.state = .off) : offerRecord r s = s := by
  simp only [offerRecord, h]

theorem offerRecord_frozen (h : s.capture.state = .frozen) : offerRecord r s = s.setCapture s.capture.refuse := by
  simp only [offerRecord, h]

/-- R161: in STOP_ON_FULL a full buffer refuses the record and freezes the unit. -/
theorem offerRecord_stops (h : s.capture.state = .running ∨ s.capture.state = .triggered)
    (mode : s.capture.mode = .stopOnFull) (full : 1024 ≤ s.capture.buffer.length) :
    offerRecord r s = freeze s.capture.refuse s := by
  rcases h with h | h <;> simp only [offerRecord, h] <;> exact if_pos ⟨mode, full⟩

theorem offerRecord_running (h : s.capture.state = .running)
    (taken : ¬(s.capture.mode = .stopOnFull ∧ 1024 ≤ s.capture.buffer.length)) :
    offerRecord r s = s.setCapture (s.capture.accept r) := by
  simp only [offerRecord, h]
  exact if_neg taken

theorem offerRecord_triggered (h : s.capture.state = .triggered)
    (taken : ¬(s.capture.mode = .stopOnFull ∧ 1024 ≤ s.capture.buffer.length)) :
    offerRecord r s = countPost (s.capture.accept r) s := by
  simp only [offerRecord, h]
  exact if_neg taken

end

/-! ## A trigger by the state of the unit (R163) -/

section
variable {s : State} (x : TriggerSource)

theorem trigger_running (h : s.capture.state = .running) (post : 1 ≤ s.capture.post) : trigger x s =
    s.setCapture { s.capture with state := .triggered, postCount := s.capture.post, trigger := some x } := by
  simp only [trigger, h]
  exact if_neg (Nat.ne_of_gt post)

theorem trigger_freezes (h : s.capture.state = .running) (post : s.capture.post = 0) :
    trigger x s = freeze { s.capture with trigger := some x } s := by
  simp only [trigger, h]
  exact if_pos post

theorem trigger_ignored (h : s.capture.state ≠ .running) : trigger x s = s := by
  unfold trigger
  dsimp only
  split
  · next running => exact absurd running h
  all_goals rfl

end

/-! ## The directives (R163 to R166) -/

/-- R164: an operand outside its list or range. -/
theorem actCaptureSet_range {mode : Byte} {post : Half} (h : captureMode? mode = none ∨ 1023 < post.toNat)
    (s : State) : actCaptureSet mode post s = s.refuse .range := by
  unfold actCaptureSet
  rcases h with h | h
  · rw [h]
  · rw [within?_none (.inr h)]
    cases captureMode? mode <;> rfl

section
variable {s : State} {mode : Byte} {post : Half} {m : CaptureMode} (hm : captureMode? mode = some m)
  (hp : post.toNat ≤ 1023)
include hm hp

/-- R164: a unit that runs takes no mode but BYPASS. -/
theorem actCaptureSet_busy (hb : m ≠ .bypass) (hs : s.capture.state = .running ∨ s.capture.state = .triggered) :
    actCaptureSet mode post s = s.refuse .busy := by
  unfold actCaptureSet
  rw [hm, within?_some (Nat.zero_le _) hp]
  exact if_pos ⟨hb, hs⟩

theorem actCaptureSet_taken
    (h : m = .bypass ∨ (s.capture.state ≠ .running ∧ s.capture.state ≠ .triggered)) :
    actCaptureSet mode post s = (s.setCapture ⟨m, if m = .bypass then .off else .running, [], post.toNat, 0, none,
      s.capture.counters⟩).done (.captureSet m post.toNat (if m = .bypass then .off else .running)) := by
  have free : ¬(m ≠ .bypass ∧ (s.capture.state = .running ∨ s.capture.state = .triggered)) := by
    rintro ⟨hb, hs⟩
    rcases h with h | ⟨running, triggered⟩
    · exact hb h
    · exact hs.elim running triggered
  unfold actCaptureSet
  rw [hm, within?_some (Nat.zero_le _) hp]
  exact if_neg free

end

theorem actCaptureTrigger_running {s : State} (h : s.capture.state = .running) : actCaptureTrigger s =
    (trigger .directive s).done (.captureTrigger (trigger .directive s).capture.state) := if_pos h

theorem actCaptureTrigger_ignored {s : State} (h : s.capture.state ≠ .running) :
    actCaptureTrigger s = (s, some (.ignored, .empty)) := if_neg h

theorem actCaptureRead_range {n : Byte} (h : n.toNat = 0 ∨ 12 < n.toNat) (s : State) :
    actCaptureRead n s = s.refuse .range := by
  unfold actCaptureRead
  rw [within?_none (by omega)]

/-- R165: the oldest records go, and what remains of the buffer is counted. -/
theorem actCaptureRead_taken {n : Byte} (h1 : 1 ≤ n.toNat) (h2 : n.toNat ≤ 12) (s : State) : actCaptureRead n s =
    (s.setCapture { s.capture with buffer := s.capture.buffer.drop n.toNat }).done
      (.captureRead (s.capture.buffer.length - n.toNat) s.capture.state s.capture.postCount s.capture.trigger
        (s.capture.buffer.take n.toNat)) := by
  unfold actCaptureRead
  rw [within?_some h1 h2, ← List.length_drop]

theorem CaptureState.flushed_eq (x : CaptureState) : x.flushed = if x = .off then .off else .running := by
  cases x <;> rfl

/-- R166. -/
theorem actCaptureFlush_eq (s : State) : actCaptureFlush s =
    (s.setCapture { s.capture with
      state := if s.capture.state = .off then .off else .running, buffer := [], postCount := 0, trigger := none }).done
      (.captureFlush s.capture.buffer.length (if s.capture.state = .off then .off else .running)) := by
  rw [← CaptureState.flushed_eq]
  rfl

end Sys2Proof.Machine

open Sys2Proof Sys2Proof.Machine in
/-- Settles O5: every record stands at its initial value. -/
theorem powerOnValuesOfOtherBlocks : Obligations.PowerOnValuesOfOtherBlocks := by
  unfold Obligations.PowerOnValuesOfOtherBlocks
  intro straps rstn p k t
  have exchange : ∀ b, t.exchangeRec b = .initial := fun b => by cases b <;> rfl
  have bank : ∀ n, t.bankRec n = .initial := fun n => by cases n <;> rfl
  refine ⟨rfl, rfl, rfl, rfl, rfl, rfl, rfl, fun b => ?_, rfl, rfl, rfl, fun n => ?_, rfl, rfl, rfl, rfl, rfl, rfl, rfl,
    rfl, rfl, rfl, rfl, rfl, rfl, rfl, rfl, rfl, fun n => ?_, rfl, rfl, rfl, rfl, rfl, rfl, rfl, rfl, rfl, rfl, rfl,
    rfl, rfl, rfl, rfl, rfl, rfl, fun n => ?_, rfl, rfl, rfl⟩
  · rw [exchange]
    exact ⟨rfl, rfl, rfl, rfl, rfl⟩
  · rw [bank]
    exact ⟨rfl, rfl, rfl, rfl, rfl, rfl, rfl⟩
  · cases n <;> rfl
  · cases n <;> rfl

open Sys2Proof Sys2Proof.Machine in
/-- Settles O26: RANGE before BUSY before the mode taken. -/
theorem captureSetRestartsUnit : Obligations.CaptureSetRestartsUnit := by
  unfold Obligations.CaptureSetRestartsUnit
  refine fun s tag mode post h => ⟨fun hr => ?range, fun m hm hp => ⟨fun hb hs => ?busy, fun hf => ?taken⟩⟩
  case range => exact exec_answered h rfl (by decide) rfl (actCaptureSet_range hr s.taken)
  case busy => exact exec_answered h rfl (by decide) rfl (actCaptureSet_busy (s := s.taken) hm hp hb hs)
  case taken =>
    obtain ⟨t, ht, hs⟩ := exec_answered (i := .captureSet s.unitByte tag mode post) h rfl (by decide) rfl
      (actCaptureSet_taken (s := s.taken) hm hp hf)
    exact ⟨t, _, rfl, ht, hs⟩

open Sys2Proof Sys2Proof.Machine in
/-- Settles O27: a trigger by the unit's state and POST, and the directive that brings one. -/
theorem captureTriggerTriggersRunningUnit : Obligations.CaptureTriggerTriggersRunningUnit := by
  unfold Obligations.CaptureTriggerTriggersRunningUnit
  refine ⟨fun s x => ⟨trigger_running x, trigger_freezes x, trigger_ignored x⟩,
    fun s tag h => ⟨fun hs hp => ?triggers, fun hs hp => ?freezes, fun hs => ?ignored⟩⟩
  case triggers =>
    have acted := actCaptureTrigger_running (s := s.taken) hs
    rw [trigger_running .directive (s := s.taken) hs hp] at acted
    exact exec_answered h rfl (by decide) rfl acted
  case freezes =>
    have acted := actCaptureTrigger_running (s := s.taken) hs
    rw [trigger_freezes .directive (s := s.taken) hs hp] at acted
    exact exec_answered h rfl (by decide) rfl acted
  case ignored => exact exec_answered h rfl (by decide) rfl (actCaptureTrigger_ignored (s := s.taken) hs)

open Sys2Proof Sys2Proof.Machine in
/-- Settles O28: each answer is what the directive's action gives. -/
theorem captureReadAndFlushTakeRecords : Obligations.CaptureReadAndFlushTakeRecords := by
  unfold Obligations.CaptureReadAndFlushTakeRecords
  refine fun s tag n h => ⟨fun h1 h2 => ?read, fun hr => ?range, ?flush⟩
  case read => exact exec_answered h rfl (by decide) rfl (actCaptureRead_taken h1 h2 s.taken)
  case range => exact exec_answered h rfl (by decide) rfl (actCaptureRead_range hr s.taken)
  case flush =>
    obtain ⟨t, ht, hs⟩ := exec_answered (i := .captureFlush s.unitByte tag) h rfl (by decide) rfl
      (actCaptureFlush_eq s.taken)
    exact ⟨t, _, rfl, ht, hs⟩

open Sys2Proof Sys2Proof.Machine in
/-- Settles O29: the record by the unit's state, the room in the buffer, and the post count it leaves. -/
theorem offeredRecordIsTaken : Obligations.OfferedRecordIsTaken := by
  unfold Obligations.OfferedRecordIsTaken
  intro s r c
  have room : c.buffer.length < 1024 → ¬(c.mode = .stopOnFull ∧ 1024 ≤ c.buffer.length) :=
    fun hl ⟨_, full⟩ => absurd full (Nat.not_le.mpr hl)
  have overwrites : c.mode ≠ .stopOnFull → ¬(c.mode = .stopOnFull ∧ 1024 ≤ c.buffer.length) :=
    fun hm ⟨stops, _⟩ => hm stops
  refine ⟨offerRecord_off r, offerRecord_frozen r, offerRecord_stops r, fun hs hl => ?_, fun hs hm hf => ?_,
    fun hs hl hp => ?_, fun hs hl hp => ?_, fun hs hm hf hp => ?_, fun hs hm hf hp => ?_⟩
  · rw [offerRecord_running r hs (room hl), Capture.accept_room r hl]
  · rw [offerRecord_running r hs (overwrites hm), Capture.accept_full r hf]
  · rw [offerRecord_triggered r hs (room hl), Capture.accept_room r hl]
    refine countPost_more ?_ s
    exact hp
  · rw [offerRecord_triggered r hs (room hl), Capture.accept_room r hl]
    refine countPost_last ?_ s
    exact hp.le
  · rw [offerRecord_triggered r hs (overwrites hm), Capture.accept_full r hf]
    refine countPost_more ?_ s
    exact hp
  · rw [offerRecord_triggered r hs (overwrites hm), Capture.accept_full r hf]
    refine countPost_last ?_ s
    exact hp.le
end

section
/-! What leaves the Capture Unit: every operation of the other blocks but an offered record and a trigger. -/

namespace Sys2Proof.Machine

/-! ## Release, modes, supply and trips -/

@[simp] theorem evalBase_capture (s : State) : (evalBase s).capture = s.capture := (evalBase_only s).outside.capture

@[simp] theorem latchTrip_capture (c : TripCause) (s : State) : (latchTrip c s).capture = s.capture :=
  (latchTrip_outside c s).capture

@[simp] theorem changeMode_capture (m : Mode) (g : Option Target) (s : State) :
    (changeMode m g s).capture = s.capture := (changeMode_outside m g s).capture

theorem supplyReturns_capture (s : State) : (supplyReturns s).capture = s.capture := by
  have recovered : ∀ t, (recover t).capture = t.capture := fun t => by
    unfold recover
    split
    · rfl
    · exact (changeMode_capture _ _ _).trans rfl
  unfold supplyReturns
  rw [recovered]
  split <;> rfl

theorem dipBegins_capture (s : State) : (dipBegins s).capture = s.capture := by
  unfold dipBegins
  split
  · split <;> rfl
  all_goals rfl

theorem dipEnds_capture (s : State) : (dipEnds s).capture = s.capture := by
  unfold dipEnds
  split <;> rfl

/-- R136, R137, R140: an evaluation of the supply moves modes, the release state and the dip monitor alone. -/
@[simp] theorem evalSupply_capture (s : State) : (evalSupply s).capture = s.capture := by
  have returned : ∀ (c : Bool) (t : State), (if c then supplyReturns t else t).capture = t.capture := fun c t => by
    split
    · exact supplyReturns_capture t
    · rfl
  unfold evalSupply
  dsimp only
  split
  · rw [dipBegins_capture, momentAfterRelease_capture, evalBase_capture, momentAfter_capture, returned]
    rfl
  · split
    · rw [dipEnds_capture, evalBase_capture, momentAfter_capture, returned]
      rfl
    · rw [evalBase_capture, momentAfter_capture, returned]
      rfl

theorem countWaking_capture (x : Bool) (s : State) : (countWaking x s).capture = s.capture := by
  have ends : ∀ t, (endWaking t).capture = t.capture := fun t => by
    unfold endWaking
    split <;> simp
  unfold countWaking
  dsimp only
  split
  · rfl
  · split
    · exact (ends _).trans rfl
    · rfl

theorem countQualifying_capture (s : State) : (countQualifying s).capture = s.capture := by
  unfold countQualifying
  dsimp only
  split
  · split <;> rfl
  · rfl

theorem controlEvent_capture (ev : CrossingEvent) (s : State) : (controlEvent ev s).capture = s.capture := by
  unfold controlEvent
  split
  · split
    · exact countWaking_capture _ s
    · split
      · exact countQualifying_capture s
      · rfl
  · rfl

theorem takeMode_capture (m : Mode) (s : State) : (takeMode m s).capture = s.capture := by
  have quieted : (if s.control.mode = .quiescent then cancelResume s else enterQuiescent s).capture = s.capture := by
    split
    · rfl
    · next hm =>
      obtain ⟨-, -, -, -, capture⟩ := (enterQuiescent_quieted hm).outside
      exact capture
  cases m with
  | run | park => exact (requestMode_outside _ _).capture.trans rfl
  | quiescent | waking => exact quieted

/-! ## Blanking, the dip monitor and the local tick -/

@[simp] theorem activateBlanking_capture (w : Nat) (s : State) : (activateBlanking w s).capture = s.capture :=
  (evalBase_capture _).trans rfl

@[simp] theorem endBlanking_capture (s : State) : (endBlanking s).capture = s.capture := (evalBase_capture _).trans rfl

theorem localTick_capture (s : State) : (localTick s).capture = s.capture := by
  have outside := localTick_tickOutside s
  unfold State.tickOutside at outside
  simp only [Prod.mk.injEq] at outside
  obtain ⟨-, -, -, -, capture, -⟩ := outside
  exact capture

/-! ## Orders and reports -/

@[simp] theorem reportLost_capture (o : Order) (s : State) : (reportLost o s).capture = s.capture :=
  (reportLost_outside o s).capture

theorem deadlineCheck_capture (tag : Tag) (s : State) : (deadlineCheck tag s).capture = s.capture := by
  have reported : ∀ (t : State) (o : Order), (withdrawn o t).capture = t.capture := fun t o =>
    (reportLost_capture o _).trans rfl
  exact (foldl_same State.capture _ reported _ _).trans rfl

theorem countTimeout_capture (b : Branch) (s : State) : (countTimeout b s).capture = s.capture := by
  rw [countTimeout_eq]
  split
  · exact (latchTrip_capture _ _).trans rfl
  · rfl

theorem ageOrders_capture (ev : CrossingEvent) (s : State) : (ageOrders ev s).capture = s.capture := by
  have counted : ∀ (n : Nat) (t : State), (countTimeouts ev.branch n t).capture = t.capture := by
    intro n
    induction n with
    | zero => exact fun _ => rfl
    | succ n ih => exact fun t => (ih _).trans (countTimeout_capture _ t)
  exact (counted _ _).trans rfl

theorem completeV_capture (s : State) : (completeV s).capture = s.capture := by
  have begins : ∀ t, (beginV t).capture = t.capture := fun t => by rw [beginV_eq]; rfl
  rcases ht : s.exchange.transmitter with _ | ⟨o | ⟨n, a⟩, x⟩
  · rw [completeV_idle ht]
  · have sent : (orderSent o s.vIdle).capture = s.capture := by rw [orderSent_eq]; rfl
    rw [completeV_order ht]
    split
    · rw [begins, sent]
    · split
      · rw [begins]
        exact sent
      · unfold lateCompletion
        refine (ordered_same State.capture _ _ _ (fun _ => rfl) fun f hf t => ?_).trans sent
        simp only [List.mem_cons, List.not_mem_nil, or_false] at hf
        rcases hf with rfl | rfl
        · exact begins t
        · exact countTimeout_capture _ t
  · rw [completeV_bank ht]
    rfl

theorem receiveReport_capture (r : ReportFrame) (s : State) : (receiveReport r s).capture = s.capture := by
  have result : ∀ v t x, (applyResult v t x).capture = t.capture := fun v t x => by
    unfold applyResult
    dsimp only
    split
    · rfl
    · split
      · exact (latchTrip_capture _ _).trans rfl
      · rfl
    · exact (latchTrip_capture _ _).trans rfl
  have matched : ∀ v t, (matchReport v t).capture = t.capture := fun v t => by
    unfold matchReport
    dsimp only
    split
    · rfl
    · exact (result _ _ _).trans rfl
  unfold receiveReport
  split
  · rfl
  · next v _ =>
    have ready : (setReadiness v.branch v.ready s).capture = s.capture :=
      (checkReady_outside _ _).capture.trans rfl
    unfold takeReport
    split
    · rfl
    · rw [matched, moment_capture, ready]

theorem tableEvent_capture (ev : CrossingEvent) (s : State) : (tableEvent ev s).capture = s.capture := by
  unfold tableEvent
  split
  · exact (completeCommit_outside _ _ s).capture
  · rfl

/-! ## Aux edges, trackers and the assembly -/

theorem inactiveEdge_capture (n : Index4) (s : State) : (inactiveEdge n s).capture = s.capture := by
  have blocked : (if (s.control.aux.get n).actions.block then evalBase s else s).capture = s.capture := by
    split
    · exact evalBase_capture s
    · rfl
  rw [inactiveEdge_eq]
  split
  · exact blocked
  · exact blocked

theorem trackerChanged_capture (b : Branch) (s : State) : (trackerChanged b s).capture = s.capture := by
  unfold trackerChanged
  dsimp only
  split <;> rfl

theorem completeSets_capture (s : State) : (completeSets s).capture = s.capture := rfl

/-! ## Filter banks -/

theorem placeBankOrder_capture (n : Index4) (a : BankAction) (s : State) :
    (placeBankOrder n a s).capture = s.capture := by
  rw [placeBankOrder_eq, (handBankOrder_outside n a _).capture, momentAfter_capture]
  split <;> rfl

theorem receiveBankStatus_capture (bank status code : Byte) (s : State) :
    (receiveBankStatus bank status code s).capture = s.capture := by
  unfold receiveBankStatus
  split
  · exact (takeBankStatus_banksOnly _ _ _ s).capture
  · rfl

theorem confirmationExpiresAt_capture (s : State) (n : Index4) : (confirmationExpiresAt s n).capture = s.capture := by
  unfold confirmationExpiresAt
  split
  · exact (banksOnly_faultBank _ _ _ s).capture
  · rfl

theorem dischargeExpires_capture (n : Index4) (s : State) : (dischargeExpires n s).capture = s.capture := by
  unfold dischargeExpires
  split
  · exact (banksOnly_writeBank n _ s).capture
  · rfl

/-! ## Directives of the other blocks -/

theorem actSet_capture (ident : Byte) (value : Word) (s : State) : (actSet ident value s).1.capture = s.capture := by
  have after : ∀ p t, (afterWrite p t).capture = t.capture := fun p t => by
    unfold afterWrite
    split
    · split <;> rfl
    · rfl
    · rfl
    · exact evalSupply_capture t
    · exact evalSupply_capture t
    · exact evalBase_capture t
    · rfl
  unfold actSet
  split
  · rfl
  · split
    · rfl
    · split
      · exact (after _ _).trans rfl
      · rfl

theorem actMapSet_capture (quantity source channel : Byte) (s : State) :
    (actMapSet quantity source channel s).1.capture = s.capture := by
  unfold actMapSet
  split
  · rfl
  · split <;> rfl

theorem actAuxSet_capture (aux polarity kind debounce actions delay width : Byte) (s : State) :
    (actAuxSet aux polarity kind debounce actions delay width s).1.capture = s.capture := by
  unfold actAuxSet
  split
  · rfl
  · split
    · exact (evalBase_capture _).trans rfl
    · rfl

theorem actBankSet_capture (bank present : Byte) (susceptance : Half) (state : Byte) (s : State) :
    (actBankSet bank present susceptance state s).1.capture = s.capture := by
  have record : ∀ n st x, (setBankRecord n st x s).1.capture = s.capture := fun n _ _ =>
    ((banksOnly_writeBank n _ s).trans (banksOnly_loadDwell _)).capture
  unfold actBankSet
  split
  · rfl
  · split
    · split
      · rfl
      · exact record _ _ _
    · split
      · split
        · rfl
        · split
          · rfl
          · exact record _ _ _
      · rfl
    · rfl

theorem actBankForce_capture (bank action : Byte) (s : State) :
    (actBankForce bank action s).1.capture = s.capture := by
  unfold actBankForce
  split
  · split
    · rfl
    · split
      · rfl
      · exact placeBankOrder_capture _ _ s
  · rfl

theorem actTableWrite_capture (start : Half) (n fill : Byte) (values : List Half) (s : State) :
    (actTableWrite start n fill values s).1.capture = s.capture := by
  unfold actTableWrite
  split
  · rfl
  · split
    · split
      · rfl
      · split <;> rfl
    · rfl

theorem actTableRead_capture (bank : Byte) (start : Half) (n : Byte) (s : State) :
    (actTableRead bank start n s).1.capture = s.capture := by
  unfold actTableRead
  split
  · split <;> rfl
  · rfl

theorem actTableCommit_capture (tag : Byte) (s : State) : (actTableCommit tag s).1.capture = s.capture := by
  unfold actTableCommit
  split
  · rfl
  · split
    · rfl
    · split <;> rfl

theorem actMode_capture (operand : Byte) (s : State) : (actMode operand s).1.capture = s.capture := by
  unfold actMode
  split
  · rfl
  · split
    · rfl
    · exact takeMode_capture _ s

theorem actBlock_capture (operand : Byte) (s : State) : (actBlock operand s).1.capture = s.capture := by
  unfold actBlock
  split
  · rfl
  · exact (evalBase_capture _).trans rfl

/-- R185: an ENGINE reset keeps the Capture Unit. -/
theorem engineReset_capture (s : State) : (engineReset s).capture = s.capture := by
  obtain ⟨_, _, _, _, _, _, h, -⟩ := engineReset_eq s
  rw [h]

theorem actReset_capture (scope : Byte) (s : State) : (actReset scope s).1.capture = s.capture := by
  unfold actReset
  split
  · rfl
  · exact (moment_capture _).trans (engineReset_capture s)
  · rfl

end Sys2Proof.Machine
end

section
/-! Every step keeps the Capture Unit in keeping with its mode (R159, R160, R162): offered records, triggers and its own
directives keep it, and nothing else writes it but a reset. -/

namespace Sys2Proof.Machine

/-! ## The invariant -/

theorem CaptureInv.of_capture {s t : State} (h : CaptureInv s) (e : t.capture = s.capture) : CaptureInv t := by
  obtain ⟨limit, off, wanted⟩ := h
  exact ⟨by rwa [e], by rwa [e], by rwa [e]⟩

/-- R160: a unit that freezes is neither OFF nor TRIGGERED. -/
theorem captureInv_freeze {c : Capture} (limit : c.buffer.length ≤ Config.captureLimit) (mode : c.mode ≠ .bypass)
    (s : State) : CaptureInv (freeze c s) where
  limit := limit
  off := ⟨fun h => (nomatch h), fun h => absurd h mode⟩
  wanted h := nomatch h

/-- R160: a unit in another state than OFF has another mode than BYPASS. -/
theorem CaptureInv.mode_ne_bypass {s : State} (h : CaptureInv s) {x : CaptureState} (hs : s.capture.state = x)
    (hx : x ≠ .off) : s.capture.mode ≠ .bypass :=
  fun hm => hx (hs.symm.trans (h.off.mpr hm))

/-! ## Offered records and triggers -/

/-- R162: each record taken in TRIGGERED leaves fewer to come, and the last one freezes the unit. -/
theorem captureInv_countPost {c : Capture} {s : State} (h : CaptureInv (s.setCapture c)) (hs : c.state = .triggered) :
    CaptureInv (countPost c s) := by
  obtain ⟨-, source⟩ := h.wanted hs
  have mode : c.mode ≠ .bypass := h.mode_ne_bypass hs (by decide)
  by_cases hp : c.postCount ≤ 1
  · rw [countPost_last hp]
    exact captureInv_freeze (c := { c with postCount := 0 }) h.limit mode s
  · have more : 1 < c.postCount := Nat.not_le.mp hp
    rw [countPost_more more]
    exact ⟨h.limit, h.off, fun _ => ⟨Nat.le_sub_one_of_lt more, source⟩⟩

theorem CaptureInv.accept {s : State} (h : CaptureInv s) (r : CaptureRecord) :
    CaptureInv (s.setCapture (s.capture.accept r)) := by
  have limit := s.capture.accept_limit r h.limit
  rw [Capture.accept_eq]
  exact ⟨limit, h.off, h.wanted⟩

theorem CaptureInv.offerRecord {s : State} (h : CaptureInv s) (r : CaptureRecord) : CaptureInv (offerRecord r s) := by
  have stops : ∀ {x}, s.capture.state = x → x ≠ .off → CaptureInv (freeze s.capture.refuse s) := fun hs hx =>
    captureInv_freeze (c := s.capture.refuse) h.limit (h.mode_ne_bypass hs hx) s
  by_cases hf : s.capture.mode = .stopOnFull ∧ 1024 ≤ s.capture.buffer.length
  all_goals rcases hs : s.capture.state with _ | _ | _ | _
  case pos.off | neg.off => rwa [offerRecord_off r hs]
  case pos.frozen | neg.frozen =>
    rw [offerRecord_frozen r hs]
    exact ⟨h.limit, h.off, h.wanted⟩
  case pos.running =>
    rw [offerRecord_stops r (.inl hs) hf.1 hf.2]
    exact stops hs (by decide)
  case pos.triggered =>
    rw [offerRecord_stops r (.inr hs) hf.1 hf.2]
    exact stops hs (by decide)
  case neg.running =>
    rw [offerRecord_running r hs hf]
    exact h.accept r
  case neg.triggered =>
    rw [offerRecord_triggered r hs hf]
    refine captureInv_countPost (h.accept r) ?_
    rw [Capture.accept_eq]
    exact hs

theorem CaptureInv.trigger {s : State} (h : CaptureInv s) (x : TriggerSource) : CaptureInv (trigger x s) := by
  by_cases hs : s.capture.state = .running
  · have mode := h.mode_ne_bypass hs (by decide)
    rcases Nat.eq_zero_or_pos s.capture.post with hp | hp
    · rw [trigger_freezes x hs hp]
      exact captureInv_freeze (c := { s.capture with trigger := some x }) h.limit mode s
    · rw [trigger_running x hs hp]
      exact ⟨h.limit, ⟨fun off => (nomatch off), fun bypass => absurd bypass mode⟩, fun _ => ⟨hp, rfl⟩⟩
  · rwa [trigger_ignored x hs]

/-! ## The unit's own directives (R163 to R166) -/

theorem CaptureInv.actCaptureSet {s : State} (h : CaptureInv s) (mode : Byte) (post : Half) :
    CaptureInv (actCaptureSet mode post s).1 := by
  have empty : ∀ (m : CaptureMode) (n k : Nat) (c : CaptureCounters), CaptureInv (s.setCapture
      ⟨m, if m = .bypass then .off else .running, [], n, k, none, c⟩) := fun m _ _ _ => by
    refine ⟨Nat.zero_le _, ?_, ?_⟩ <;> cases m <;> simp
  unfold Machine.actCaptureSet
  split
  · split
    · exact h
    · exact empty _ _ _ _
  · exact h

theorem CaptureInv.actCaptureTrigger {s : State} (h : CaptureInv s) : CaptureInv (actCaptureTrigger s).1 := by
  unfold Machine.actCaptureTrigger
  split
  · exact h.trigger _
  · exact h

theorem CaptureInv.actCaptureRead {s : State} (h : CaptureInv s) (n : Byte) : CaptureInv (actCaptureRead n s).1 := by
  unfold Machine.actCaptureRead
  split
  · exact h
  · next k _ =>
    have fewer : (s.capture.buffer.drop k).length ≤ s.capture.buffer.length := by
      rw [List.length_drop]
      exact Nat.sub_le _ _
    exact ⟨fewer.trans h.limit, h.off, h.wanted⟩

theorem CaptureInv.actCaptureFlush {s : State} (h : CaptureInv s) : CaptureInv (actCaptureFlush s).1 := by
  have off : s.capture.state.flushed = .off ↔ s.capture.state = .off := by
    rw [CaptureState.flushed_eq]
    split <;> simp [*]
  have other : s.capture.state.flushed ≠ .triggered := by
    rw [CaptureState.flushed_eq]
    split <;> decide
  exact ⟨Nat.zero_le _, off.trans h.off, fun triggered => absurd triggered other⟩

/-! ## Crossing events and released sets -/

theorem CaptureInv.demandEvent {s : State} (h : CaptureInv s) (ev : CrossingEvent) :
    CaptureInv (demandEvent ev s) := by
  unfold Machine.demandEvent
  split
  · exact h
  · have trimmed : CaptureInv (updateTrim ev s) := h.of_capture (updateTrim_only ev s).capture
    obtain ⟨_, handed⟩ := actOnEvent_handedOn ev (updateTrim ev s)
    exact (trimmed.offerRecord _).of_capture handed.capture

theorem CaptureInv.inTurn {s : State} (h : CaptureInv s) (contended : Bool) {fs : List (State → State)}
    (hf : ∀ f ∈ fs, ∀ t, CaptureInv t → CaptureInv (f t)) : CaptureInv (s.inTurn contended fs) :=
  inTurn_keeps s contended fs (fun _ => h.of_capture rfl) hf fun t ht => ht.of_capture (moment_capture t)

theorem CaptureInv.offerEvent {s : State} (h : CaptureInv s) (ev : CrossingEvent) : CaptureInv (offerEvent ev s) := by
  refine h.inTurn _ fun f hf t ht => ?_
  simp only [List.mem_cons, List.not_mem_nil, or_false] at hf
  rcases hf with rfl | rfl | rfl | rfl
  · exact ht.demandEvent ev
  · exact ht.of_capture (ageOrders_capture ev t)
  · exact ht.of_capture (tableEvent_capture ev t)
  · exact ht.of_capture (controlEvent_capture ev t)

theorem CaptureInv.runTracker {s : State} (h : CaptureInv s) (tag : Tag) (b : Branch) :
    CaptureInv (runTracker tag b s) := by
  have changed : ∀ (x : Bool) {t : State}, CaptureInv t → CaptureInv (if x then trackerChanged b t else t) :=
    fun x t ht => by
      split
      · exact ht.of_capture (trackerChanged_capture b t)
      · exact ht
  have evaluated : ∀ (x : Bool) {t : State}, CaptureInv t → CaptureInv (if x then evalSupply t else t) :=
    fun x t ht => by
      split
      · exact ht.of_capture (evalSupply_capture t)
      · exact ht
  have written : CaptureInv (s.setTracker b (s.trackerResult tag b).1) := h.of_capture rfl
  unfold Machine.runTracker
  dsimp only
  split
  · exact evaluated _ (changed _ written)
  · exact ((evaluated _ (changed _ written)).of_capture (moment_capture _)).offerEvent _

theorem CaptureInv.releasedSet {s : State} (h : CaptureInv s) (tag : Tag) : CaptureInv (releasedSet tag s) := by
  refine h.inTurn _ fun f hf t ht => ?_
  simp only [List.mem_cons, List.not_mem_nil, or_false] at hf
  rcases hf with rfl | rfl | rfl | rfl
  · exact ht.runTracker tag _
  · exact ht.runTracker tag _
  · exact ht.runTracker tag _
  · exact ht.of_capture (deadlineCheck_capture tag t)

/-! ## Aux inputs -/

/-- R153: of the actions of an edge only the trigger reaches the Capture Unit. -/
theorem CaptureInv.activeEdge {s : State} (h : CaptureInv s) (n : Index4) : CaptureInv (activeEdge n s) := by
  have edge := activeEdge_capture (n := n) (s := s) rfl
  split at edge
  · exact (h.trigger _).of_capture edge
  · exact h.of_capture edge

theorem CaptureInv.handAux {s : State} (h : CaptureInv s) (flags : Four Bool) : CaptureInv (handAux flags s) := by
  refine h.inTurn _ fun f hf t ht => ?_
  obtain ⟨n, _, rfl⟩ := List.mem_map.mp hf
  have written : ∀ r, CaptureInv (t.setAux n r) := fun _ => ht.of_capture rfl
  dsimp only
  rw [debounceAux_reads rfl rfl]
  split
  · exact written _
  · split
    · split
      · exact (written _).activeEdge n
      · exact (written _).of_capture (inactiveEdge_capture n _)
    · exact written _

/-! ## Releases of slots and sample frames -/

theorem CaptureInv.releaseSlot {s : State} (h : CaptureInv s) (forced : Bool) : CaptureInv (releaseSlot forced s) := by
  rcases he : s.asm.expected with _ | e
  · rwa [releaseSlot_none he]
  · obtain ⟨_, _, -, hs⟩ := slotClosed_eq e forced s
    have closed : CaptureInv (slotClosed e forced s) := h.of_capture (by rw [hs]; rfl)
    rw [releaseSlot_eq he]
    exact (closed.releasedSet e).of_capture ((moment_capture _).trans (completeSets_capture _))

theorem CaptureInv.releaseChain : ∀ (n : Nat) {s : State}, CaptureInv s → CaptureInv (releaseChain n s)
  | 0, _, h => h
  | n + 1, s, h => by
    unfold Machine.releaseChain
    split
    · exact releaseChain n (h.releaseSlot false)
    · exact h

theorem CaptureInv.releaseCheck {s : State} (h : CaptureInv s) : CaptureInv (releaseCheck s) := by
  unfold Machine.releaseCheck
  split
  · exact h
  · split
    · exact h
    · exact releaseChain _ h

theorem CaptureInv.forceReleases : ∀ (n : Nat) {s : State}, CaptureInv s → CaptureInv (forceReleases n s)
  | 0, _, h => h
  | n + 1, _, h => forceReleases n (h.releaseSlot true)

theorem CaptureInv.acceptFrame {s : State} (h : CaptureInv s) (e tag : Tag) (n : Index4) (f : SampleFrame) :
    CaptureInv (acceptFrame e tag n f s) := by
  have placed : CaptureInv (completeSets (closeSets e tag (placeFrame e tag n f.channels s))) := h.of_capture rfl
  unfold Machine.acceptFrame
  dsimp only
  split
  · exact h.of_capture rfl
  · split
    · refine placed.inTurn _ fun g hg t ht => ?_
      simp only [List.mem_cons, List.not_mem_nil, or_false] at hg
      rcases hg with rfl | rfl
      · exact ht.releaseCheck
      · exact ht.handAux _
    · exact placed.releaseCheck

theorem CaptureInv.handleFrame {s : State} (h : CaptureInv s) (e tag : Tag) (n : Index4) (f : SampleFrame) :
    CaptureInv (handleFrame e tag n f s) := by
  unfold Machine.handleFrame
  dsimp only
  split
  · exact h.acceptFrame _ _ _ _
  · split
    · exact (forceReleases _ h).acceptFrame _ _ _ _
    · split
      · exact (h.of_capture (discontinuity_capture _ _ s)).acceptFrame _ _ _ _
      · exact h.of_capture rfl

theorem CaptureInv.takeSample {s : State} (h : CaptureInv s) (f : SampleFrame) : CaptureInv (takeSample f s) := by
  have counted : ∀ c, CaptureInv (s.countM c) := fun _ => h.of_capture rfl
  have started : ∀ x, CaptureInv (s.setAsm x) := fun _ => h.of_capture rfl
  unfold Machine.takeSample
  split
  · exact counted _
  · split
    · exact counted _
    · split
      · exact counted _
      · split
        · exact started _
        · dsimp only
          split
          · exact (started _).handleFrame _ _ _ _
          · exact h.handleFrame _ _ _ _

/-! ## A directive, a command, a step -/

theorem CaptureInv.actSourceSet {s : State} (h : CaptureInv s) (source enabled policy hold miss : Byte) :
    CaptureInv (actSourceSet source enabled policy hold miss s).1 := by
  have written : ∀ n r, CaptureInv (completeSets (s.setSource n r)) := fun _ _ => h.of_capture rfl
  unfold Machine.actSourceSet
  split
  · exact h
  · split
    · exact (written _ _).releaseCheck
    · exact h

/-- R167: cleared capture counters are counters alone. -/
theorem CaptureInv.clearCounters {s : State} (h : CaptureInv s) (g : CounterGroup) :
    CaptureInv (clearCounters s g) := by
  cases g with
  | capture => exact ⟨h.limit, h.off, h.wanted⟩
  | _ => exact h.of_capture rfl

theorem CaptureInv.act (d : Directive) (s : State) (h : CaptureInv s) : CaptureInv (act d s).1 := by
  unfold Machine.act
  split
  case h_3 =>
    unfold actCounters
    split
    · split
      · exact h.clearCounters _
      · exact h
    · exact h
  case h_5 =>
    unfold actGet
    split <;> exact h
  case h_6 => exact h.of_capture (actSet_capture _ _ s)
  case h_7 => exact h.of_capture (actMapSet_capture _ _ _ s)
  case h_8 => exact h.actSourceSet _ _ _ _ _
  case h_9 => exact h.of_capture (actAuxSet_capture _ _ _ _ _ _ _ s)
  case h_10 => exact h.of_capture (actBankSet_capture _ _ _ _ s)
  case h_11 => exact h.of_capture (actBankForce_capture _ _ s)
  case h_12 => exact h.of_capture (actTableWrite_capture _ _ _ _ s)
  case h_13 => exact h.of_capture (actTableRead_capture _ _ _ s)
  case h_14 =>
    unfold actTableCopy
    split <;> exact h.of_capture rfl
  case h_15 => exact h.of_capture (actTableCommit_capture _ s)
  case h_16 => exact h.of_capture (actMode_capture _ s)
  case h_17 => exact h.of_capture (actBlock_capture _ s)
  case h_18 => exact h.of_capture ((evalBase_capture _).trans rfl)
  case h_19 => exact h.actCaptureSet _ _
  case h_20 => exact h.actCaptureTrigger
  case h_21 => exact h.actCaptureRead _
  case h_22 => exact h.actCaptureFlush
  case h_23 =>
    unfold actNoticeSet
    split <;> exact h.of_capture rfl
  case h_24 =>
    unfold actNoticeClear
    split <;> exact h.of_capture rfl
  case h_25 => exact h.of_capture (actReset_capture _ s)
  all_goals exact h.of_capture rfl

theorem captureInv_stationFree : StationFree CaptureInv :=
  ⟨fun _ _ h => h.of_capture rfl, fun _ _ h => h.of_capture rfl, fun _ _ h => h.of_capture rfl,
    fun _ _ h => h.of_capture rfl⟩

theorem CaptureInv.receiveBytes {s : State} (h : CaptureInv s) (port : Port) (bytes : List Byte) :
    CaptureInv (receiveBytes port bytes s) := by
  have counted : ∀ v, CaptureInv (s.countPort port fun c => c.count v) := fun v => by
    cases port <;> exact h.of_capture rfl
  unfold Machine.receiveBytes
  dsimp only
  split
  · unfold handOn
    split
    · exact (counted _).takeSample _
    · exact captureInv_stationFree.admission _ _ (counted _)
    · exact (counted _).of_capture (receiveReport_capture _ _)
    · exact (counted _).of_capture (receiveBankStatus_capture _ _ _ _)
    · exact counted _
  · exact counted _

/-- Every command keeps the Capture Unit in keeping with its mode. -/
theorem CaptureInv.exec {i : Instr} {s t : State} (h : CaptureInv s) (ht : exec i s = .next t) : CaptureInv t := by
  have directive : ∀ {unit tag kind : Byte} {length : Nat} {r : Request},
      whileReleased s (directiveArrives unit tag kind length r) = .next t → CaptureInv t :=
    whileReleased_keeps (captureInv_stationFree.directiveArrives CaptureInv.act _ _ _ _ _) h
  have settled : ∀ {f : State → State}, CaptureInv (f s) →
      whileReleased s (fun s => settle (f s)) = .next t → CaptureInv t :=
    fun hf => whileReleased_keeps (fun _ => captureInv_stationFree.settle CaptureInv.act hf) h
  cases i with
  | sampleFrame f => exact settled (captureInv_stationFree.receiveM (fun _ hs => hs.takeSample f) _ h) ht
  | localSamplePeriod =>
    refine settled (f := endSamplePeriod) ?_ ht
    unfold endSamplePeriod
    split
    · exact h
    · split
      · exact h.of_capture (expireSilence_capture s)
      · exact h.of_capture rfl
  | silenceTimerExpiry =>
    refine settled (f := silenceExpires) ?_ ht
    unfold silenceExpires
    split
    · exact h
    · exact h.of_capture (expireSilence_capture s)
  | localTick => exact settled (h.of_capture (localTick_capture s)) ht
  | confirmationTimerExpiry =>
    exact settled (f := Index4.all.foldl confirmationExpiresAt)
      (h.of_capture (foldl_same State.capture _ confirmationExpiresAt_capture _ s)) ht
  | dischargeTimerExpiry n => exact settled (h.of_capture (dischargeExpires_capture n s)) ht
  | dwellTimerExpiry => exact settled (f := expireDwell) (h.of_capture rfl) ht
  | dipToleranceExpiry =>
    refine settled (f := dipToleranceExpires) ?_ ht
    unfold dipToleranceExpires
    split <;> exact h.of_capture rfl
  | blankingDelayExpiry =>
    refine settled (f := blankingDelayExpires) ?_ ht
    unfold blankingDelayExpires
    split
    · exact h.of_capture (activateBlanking_capture _ s)
    · exact h
  | blankingPulseEnd =>
    refine settled (f := blankingPulseEnds) ?_ ht
    unfold blankingPulseEnds
    split
    · exact h.of_capture (endBlanking_capture s)
    · exact h
  | valveReport r =>
    exact settled (f := fun s => receiveReport r s.receivedV)
      (h.of_capture ((receiveReport_capture r _).trans rfl)) ht
  | bankStatusFrame bank status code =>
    exact settled (f := fun s => receiveBankStatus bank status code s.receivedV)
      (h.of_capture ((receiveBankStatus_capture bank status code _).trans rfl)) ht
  | vTransmitCompletion => exact settled (h.of_capture (completeV_capture s)) ht
  | frameRejected port bytes => exact settled (h.receiveBytes port bytes) ht
  | mTransmitCompletion =>
    exact whileReleased_keeps
      (captureInv_stationFree.completeM CaptureInv.act fun _ _ => captureInv_powerOn _ _ _ _) h ht
  | powerOnReset =>
    cases ht
    exact captureInv_powerOn _ _ _ _
  | rstnRelease fsel unit boot =>
    change execRstnRelease fsel unit boot s = .next t at ht
    unfold execRstnRelease at ht
    split at ht <;> cases ht
    · exact h
    · exact captureInv_powerOn _ _ _ _
  | _ => exact directive ht

theorem CaptureInv.step {s t : State} (h : CaptureInv s) (ht : step s = .next t) : CaptureInv t := by
  unfold Machine.step at ht
  split at ht
  · cases ht
    exact h
  · next c rest _ =>
    have waiting : CaptureInv { s with pending := rest } := h.of_capture rfl
    exact waiting.exec ht

end Sys2Proof.Machine

/-- Settles O58: every command keeps the Capture Unit in keeping with its mode, the directives it takes included. -/
theorem stepKeepsCaptureUnit : Obligations.StepKeepsCaptureUnit := by
  unfold Obligations.StepKeepsCaptureUnit
  intro s t hi ht
  exact hi.step ht
end

section
/-! The station's part of the state: the reply list, the pending commit with its reserved slot, and the Notice Unit.
What a step is made of keeps every property of that part that raises, moments and completed commits keep. -/

namespace Sys2Proof.Machine

/-! ## The station's part -/

/-- What R173, R188 and R192 bind: the replies held, the pending commit with its reserved slot, and the notices. -/
structure StationPart where
  replies : List Reply
  commit : Option Byte
  notices : NoticeUnit

def State.station (s : State) : StationPart := ⟨s.processor.replies, s.tables.commit, s.notices⟩

theorem station_beginV (s : State) : (beginV s).station = s.station := by
  unfold beginV
  split <;> rfl

theorem station_orderSent (o : Order) (s : State) : (orderSent o s).station = s.station := by
  rw [orderSent_eq]
  rfl

theorem station_updateTrim (ev : CrossingEvent) (s : State) : (updateTrim ev s).station = s.station := by
  unfold updateTrim
  split <;> rfl

theorem station_pushFrame (f : VFrame) (s : State) : (pushFrame f s).station = s.station :=
  (station_beginV _).trans rfl

/-! ## Properties of the station's part -/

/-- The property reads nothing but the station's part, and is kept by what writes that part inside a block: notices
raised, moments, a pending commit completed or aborted, and the directives of the Notice Unit. -/
structure StationKept (P : State → Prop) : Prop where
  of_station : ∀ {s t : State}, P s → t.station = s.station → P t
  raise : ∀ {s : State} (n : NoticeSource), P s → P (raise n s)
  moment : ∀ {s : State}, P s → P (moment s)
  complete : ∀ {s : State} (c : Completion) (f : TableCounters → TableCounters), P s → P (completeCommit c f s)
  abort : ∀ {s : State}, P s → P (abortCommit s)
  noticeSet : ∀ {s : State} (source enable level : Byte), P s → P (actNoticeSet source enable level s).1
  noticeClear : ∀ {s : State} (sources : Half), P s → P (actNoticeClear sources s).1

/-- What a step per item keeps, the steps of all items keep. -/
theorem foldl_items_keeps {α : Type} {P : State → Prop} {f : State → α → State} (hf : ∀ t x, P t → P (f t x)) :
    ∀ (l : List α) {s : State}, P s → P (l.foldl f s)
  | [], _, h => h
  | x :: rest, s, h => foldl_items_keeps hf rest (hf s x h)

theorem actIf_keeps {P : State → Prop} (has : Bool) {f : State → State} (hf : ∀ u, P u → P (f u)) {s : State}
    (h : P s) : P (actIf has f s) := by
  unfold actIf
  split
  · exact hf _ h
  · exact h

namespace StationKept
variable {P : State → Prop} (hP : StationKept P) {s : State}
include hP

theorem momentAfter (l : List NoticeSource) (h : P s) : P (momentAfter l s) := by
  unfold Machine.momentAfter
  split
  · exact hP.moment h
  · exact h

theorem momentAfterRelease (h : P s) : P (momentAfterRelease s) := by
  unfold Machine.momentAfterRelease
  split
  · exact hP.moment h
  · exact h

/-- What every one of the actions keeps, they keep in turn. -/
theorem inTurn (contended : Bool) {fs : List (State → State)} (hf : ∀ f ∈ fs, ∀ t, P t → P (f t)) (h : P s) :
    P (s.inTurn contended fs) :=
  inTurn_keeps s contended fs (fun _ => hP.of_station h rfl) hf fun _ => hP.moment

/-! ## Release, trips and readiness -/

/-- R150: of all that a release drop does, the commit it completes and its notice reach the station. -/
theorem releaseDrop (h : P s) : P (releaseDrop s) := hP.raise _ (hP.complete _ _ (hP.of_station h rfl))

theorem evalBase (h : P s) : P (evalBase s) := by
  unfold Machine.evalBase startQualifying holdRelease
  dsimp only
  split
  · split
    · exact hP.raise _ (hP.of_station h rfl)
    all_goals exact h
  · split
    · exact h
    · exact hP.raise _ (hP.of_station h rfl)
    · exact hP.raise _ (hP.of_station h rfl)
    · exact hP.releaseDrop (hP.of_station h rfl)

theorem gainRelease (h : P s) : P (gainRelease s) := hP.raise _ (hP.of_station h rfl)

theorem checkReady (before : Bool) (h : P s) : P (checkReady before s) := by
  unfold Machine.checkReady handReady
  dsimp only
  split
  · exact h
  · split
    · exact hP.gainRelease (hP.of_station h rfl)
    · exact hP.releaseDrop (hP.of_station h rfl)
    · exact hP.of_station h rfl

theorem latchTrip (c : TripCause) (h : P s) : P (latchTrip c s) := hP.evalBase (hP.raise _ (hP.of_station h rfl))

theorem reportLost (o : Order) (h : P s) : P (reportLost o s) := by
  have counted : P (countGap o.branch s) := hP.of_station h rfl
  unfold Machine.reportLost
  split
  · exact h
  · split
    · exact hP.latchTrip _ counted
    · exact counted

/-! ## Modes, supply and dips -/

theorem changeMode (m : Mode) (target : Option Target) (h : P s) : P (changeMode m target s) := by
  unfold Machine.changeMode
  dsimp only
  split
  · exact hP.of_station h rfl
  · exact hP.raise _ (hP.of_station h rfl)

theorem controlEvent (ev : CrossingEvent) (h : P s) : P (controlEvent ev s) := by
  have waking : ∀ x, P (countWaking x s) := fun x => by
    unfold countWaking endWaking
    dsimp only
    split
    · exact h
    · split
      · split <;> exact hP.evalBase (hP.changeMode _ _ (hP.of_station h rfl))
      · exact hP.of_station h rfl
  have qualifying : P (countQualifying s) := by
    unfold countQualifying
    dsimp only
    split
    · split
      · exact hP.gainRelease (hP.of_station h rfl)
      · exact hP.raise _ (hP.of_station h rfl)
    · exact hP.of_station h rfl
  unfold Machine.controlEvent
  split
  · split
    · exact waking _
    · split
      · exact qualifying
      · exact h
  · exact h

theorem interrupt (f : ControlCounters → ControlCounters) (h : P s) : P (interrupt f s) :=
  hP.raise _ (hP.of_station h rfl)

/-- R140: a recovery may change the mode. -/
theorem supplyReturns (h : P s) : P (supplyReturns s) := by
  have recovered : ∀ {t : State}, P t → P (recover t) := fun {t} ht => by
    unfold recover
    split
    · exact ht
    · exact hP.of_station (hP.changeMode _ none (hP.of_station (t := t.setControl { t.control with resume := none })
        ht rfl)) rfl
  refine recovered ?_
  split
  · exact hP.of_station h rfl
  · exact hP.of_station h rfl
  · exact h
  · exact h

theorem evalSupply (h : P s) : P (evalSupply s) := by
  have begins : ∀ {t : State}, P t → P (dipBegins t) := fun ht => by
    unfold dipBegins
    split
    · split
      · exact hP.interrupt _ ht
      · exact hP.of_station ht rfl
    all_goals exact ht
  have ends : ∀ {t : State}, P t → P (dipEnds t) := fun ht => by
    unfold dipEnds
    split
    · exact hP.of_station ht rfl
    all_goals exact ht
  have returned : ∀ (x : Bool) {t : State}, P t → P (if x then Machine.supplyReturns t else t) := fun x t ht => by
    split
    · exact hP.supplyReturns ht
    · exact ht
  have evaluated : ∀ (x : Bool) {t : State}, P t →
      P (Machine.evalBase (Machine.momentAfter [.mode] (if x then Machine.supplyReturns t else t))) :=
    fun x _ ht => hP.evalBase (hP.momentAfter _ (returned x ht))
  unfold Machine.evalSupply
  dsimp only
  split
  · exact begins (hP.momentAfterRelease (evaluated _ (hP.of_station h rfl)))
  · split
    · exact ends (evaluated _ (hP.of_station h rfl))
    · exact evaluated _ (hP.of_station h rfl)

/-! ## The Order Exchange -/

theorem handBankOrder (n : Index4) (a : BankAction) (h : P s) : P (handBankOrder n a s) := by
  obtain ⟨x, e | ⟨o, rest, e⟩⟩ := handBankOrder_cases n a s <;> rw [e]
  · exact hP.of_station h rfl
  · have displaced : P (s.displacing o rest) := hP.of_station h rfl
    exact hP.of_station (hP.reportLost o displaced) rfl

theorem handOrder (o : Order) (h : P s) : P (handOrder o s) := by
  unfold Machine.handOrder
  split
  · exact hP.of_station h (station_pushFrame _ _)
  · exact hP.reportLost o (hP.of_station h rfl)

theorem deadlineCheck (tag : Tag) (h : P s) : P (deadlineCheck tag s) := by
  have withdrawn : ∀ t o, P t → P (withdrawn o t) := fun t o ht => hP.reportLost o (hP.of_station ht rfl)
  exact foldl_items_keeps withdrawn _ (hP.of_station h rfl)

theorem countTimeout (b : Branch) (h : P s) : P (countTimeout b s) := by
  have timedOut : P (s.setExchangeRec b (s.exchangeRec b).timedOut) := hP.of_station h rfl
  rw [countTimeout_eq]
  split
  · exact hP.latchTrip _ timedOut
  · exact timedOut

theorem countTimeouts (b : Branch) : ∀ (n : Nat) {s : State}, P s → P (countTimeouts b n s)
  | 0, _, h => h
  | n + 1, _, h => countTimeouts b n (hP.countTimeout b h)

theorem completeV (h : P s) : P (completeV s) := by
  have begins : ∀ {t : State}, P t → P (beginV t) := fun {t} ht => hP.of_station ht (station_beginV t)
  rcases ht : s.exchange.transmitter with _ | ⟨o | ⟨n, a⟩, x⟩
  · rwa [completeV_idle ht]
  · have idle : P s.vIdle := hP.of_station h rfl
    have sent : P (orderSent o s.vIdle) := hP.of_station idle (station_orderSent o _)
    rw [completeV_order ht]
    split
    · exact begins sent
    · split
      · exact begins (hP.of_station sent rfl)
      · unfold lateCompletion
        refine ordered_keeps _ _ _ (fun k => hP.of_station sent rfl) fun f hf t ht => ?_
        simp only [List.mem_cons, List.not_mem_nil, or_false] at hf
        rcases hf with rfl | rfl
        · exact begins ht
        · exact hP.countTimeout _ ht
  · rw [completeV_bank ht]
    exact hP.of_station h rfl

/-- R102, R103, R104: what a result does. -/
theorem applyResult (r : ValveReport) (x : OutcomeResult) (h : P s) : P (applyResult r s x) := by
  unfold Machine.applyResult
  dsimp only
  split
  · exact hP.of_station h rfl
  · split
    · exact hP.latchTrip _ (hP.of_station h rfl)
    · exact hP.of_station h rfl
  · exact hP.latchTrip _ (hP.of_station h rfl)

theorem receiveReport (r : ReportFrame) (h : P s) : P (receiveReport r s) := by
  have matched : ∀ (v : ValveReport) {t : State}, P t → P (matchReport v t) := fun v t ht => by
    unfold matchReport
    dsimp only
    split
    · exact hP.of_station ht rfl
    · exact hP.applyResult _ _ (hP.of_station ht rfl)
  unfold Machine.receiveReport
  split
  · exact hP.of_station h rfl
  · next v _ =>
    unfold takeReport
    split
    · exact h
    · exact matched v (hP.moment (hP.checkReady _ (hP.of_station h rfl)))

/-- R107: the orders go, and readiness with them. -/
theorem exchangeQuiescent (h : P s) : P (exchangeQuiescent s) := hP.checkReady _ (hP.of_station h rfl)

theorem enterQuiescent (h : P s) : P (enterQuiescent s) := by
  have quiet : P (Machine.changeMode .quiescent none s) := hP.changeMode _ _ h
  unfold Machine.enterQuiescent
  refine hP.exchangeQuiescent (ordered_keeps _ _ _ (fun k => hP.of_station quiet rfl) fun f hf t ht => ?_)
  simp only [List.mem_cons, List.not_mem_nil, or_false] at hf
  rcases hf with rfl | rfl
  · exact hP.evalBase ht
  · exact hP.of_station ht rfl

/-! ## Crossing events and released sets -/

/-- R163: a unit that freezes raises CAPTURE. -/
theorem trigger (x : TriggerSource) (h : P s) : P (trigger x s) := by
  unfold Machine.trigger
  dsimp only
  split
  · split
    · exact hP.raise _ (hP.of_station h rfl)
    · exact hP.of_station h rfl
  all_goals exact h

theorem offerRecord (r : CaptureRecord) (h : P s) : P (offerRecord r s) := by
  have frozen : ∀ c, P (freeze c s) := fun _ => hP.raise _ (hP.of_station h rfl)
  have taken : ∀ c, P (countPost c s) := fun _ => by
    unfold countPost
    split
    · exact frozen _
    · exact hP.of_station h rfl
  have accepted : P (if s.capture.mode = .stopOnFull ∧ Config.captureLimit ≤ s.capture.buffer.length then
      freeze s.capture.refuse s
    else if s.capture.state = .triggered then countPost (s.capture.accept r) s
    else s.setCapture (s.capture.accept r)) := by
    split
    · exact frozen _
    · split
      · exact taken _
      · exact hP.of_station h rfl
  unfold Machine.offerRecord
  dsimp only
  split
  · exact h
  · exact hP.of_station h rfl
  · exact accepted
  · exact accepted

theorem demandEvent (ev : CrossingEvent) (h : P s) : P (demandEvent ev s) := by
  have counted : ∀ (x : Bool) {t : State}, P t → P (if x then countGap ev.branch t else t) := fun x t ht => by
    split
    · exact hP.of_station ht rfl
    · exact ht
  have acts : ∀ {t : State}, P t → P (actOnEvent ev t) := fun {t} ht => by
    unfold actOnEvent
    dsimp only
    split
    · exact hP.latchTrip _ (hP.handOrder _ (hP.offerRecord _ (counted _ (hP.of_station ht rfl))))
    · exact hP.handOrder _ (hP.offerRecord _ (counted _ (hP.of_station ht rfl)))
  unfold Machine.demandEvent
  split
  · exact h
  · exact acts (hP.of_station h (station_updateTrim ev s))

theorem tableEvent (ev : CrossingEvent) (h : P s) : P (tableEvent ev s) := by
  unfold Machine.tableEvent
  split
  · exact hP.complete _ _ h
  · exact h

theorem offerEvent (ev : CrossingEvent) (h : P s) : P (offerEvent ev s) := by
  refine hP.inTurn _ (fun f hf t ht => ?_) h
  simp only [List.mem_cons, List.not_mem_nil, or_false] at hf
  rcases hf with rfl | rfl | rfl | rfl
  · exact hP.demandEvent ev ht
  · exact hP.countTimeouts _ _ (hP.of_station ht rfl)
  · exact hP.tableEvent ev ht
  · exact hP.controlEvent ev ht

theorem trackerChanged (b : Branch) (h : P s) : P (trackerChanged b s) := by
  unfold Machine.trackerChanged
  dsimp only
  split
  · exact hP.of_station (hP.raise .tracker h) rfl
  · exact hP.raise _ h

theorem runTracker (tag : Tag) (b : Branch) (h : P s) : P (runTracker tag b s) := by
  have changed : ∀ (x : Bool) {t : State}, P t → P (if x then Machine.trackerChanged b t else t) := fun x t ht => by
    split
    · exact hP.trackerChanged b ht
    · exact ht
  have evaluated : ∀ (x : Bool) {t : State}, P t → P (if x then Machine.evalSupply t else t) := fun x t ht => by
    split
    · exact hP.evalSupply ht
    · exact ht
  have written : P (s.setTracker b (s.trackerResult tag b).1) := hP.of_station h rfl
  unfold Machine.runTracker
  dsimp only
  split
  · exact evaluated _ (changed _ written)
  · exact hP.offerEvent _ (hP.moment (evaluated _ (changed _ written)))

theorem releasedSet (tag : Tag) (h : P s) : P (releasedSet tag s) := by
  refine hP.inTurn _ (fun f hf t ht => ?_) h
  simp only [List.mem_cons, List.not_mem_nil, or_false] at hf
  rcases hf with rfl | rfl | rfl | rfl
  · exact hP.runTracker tag _ ht
  · exact hP.runTracker tag _ ht
  · exact hP.runTracker tag _ ht
  · exact hP.deadlineCheck tag ht

theorem unlockTrackers (h : P s) : P (unlockTrackers s) := by
  have unlocked : ∀ (b : Branch) {t : State}, P t → P (unlockTracker b t) := fun b t ht => by
    unfold unlockTracker
    dsimp only
    split
    · exact hP.of_station ht rfl
    · exact hP.trackerChanged b (hP.of_station ht rfl)
  exact hP.evalSupply (unlocked _ (unlocked _ (unlocked _ h)))

/-! ## Aux inputs and the blanking pulse -/

theorem activateBlanking (width : Nat) (h : P s) : P (activateBlanking width s) := hP.evalBase (hP.of_station h rfl)

theorem endBlanking (h : P s) : P (endBlanking s) := hP.evalBase (hP.of_station h rfl)

theorem startBlanking (delay width : Nat) (h : P s) : P (startBlanking delay width s) := by
  unfold Machine.startBlanking
  dsimp only
  split
  · split
    · exact hP.activateBlanking _ (hP.of_station h rfl)
    · exact hP.of_station h rfl
  all_goals exact hP.of_station h rfl

theorem tickBlanking (h : P s) : P (tickBlanking s) := by
  unfold Machine.tickBlanking
  dsimp only
  split
  · exact h
  · split
    · exact hP.activateBlanking _ h
    · exact hP.of_station h rfl
  · split
    · exact hP.endBlanking h
    · exact hP.of_station h rfl

theorem tickDip (h : P s) : P (tickDip s) := by
  unfold Machine.tickDip
  split
  · split
    · exact hP.interrupt _ h
    · exact hP.of_station h rfl
  all_goals exact h

theorem blockAction (n : Index4) (h : P s) : P (blockAction n s) := by
  refine hP.evalBase ?_
  split
  · exact hP.of_station h rfl
  · exact h

theorem wakeAction (h : P s) : P (wakeAction s) := by
  unfold Machine.wakeAction
  split
  · exact hP.changeMode _ _ h
  · exact h

theorem activeEdge (n : Index4) (h : P s) : P (activeEdge n s) := by
  have counted : P (edgeCounted n s) := hP.of_station h rfl
  have wakes : ∀ u, P u → P (Machine.wakeAction u) := fun _ => hP.wakeAction
  have blocks : ∀ u, P u → P (Machine.blockAction n u) := fun _ => hP.blockAction n
  have blanks : ∀ d w u, P u → P (Machine.startBlanking d w u) := fun d w _ => hP.startBlanking d w
  have triggers : ∀ u, P u → P (Machine.trigger (.aux n) u) := fun _ => hP.trigger _
  have raises : ∀ u, P u → P (Machine.raise .aux u) := fun _ => hP.raise _
  rw [activeEdge_eq rfl]
  unfold edgeActions
  exact actIf_keeps _ raises (actIf_keeps _ triggers (actIf_keeps _ (blanks _ _) (actIf_keeps _ blocks
    (actIf_keeps _ wakes counted))))

theorem inactiveEdge (n : Index4) (h : P s) : P (inactiveEdge n s) := by
  have evaluates : ∀ u, P u → P (Machine.evalBase u) := fun _ => hP.evalBase
  have raises : ∀ u, P u → P (Machine.raise .aux u) := fun _ => hP.raise _
  exact actIf_keeps _ raises (actIf_keeps _ evaluates h)

theorem handAux (flags : Four Bool) (h : P s) : P (handAux flags s) := by
  refine hP.inTurn _ (fun f hf t ht => ?_) h
  obtain ⟨n, _, rfl⟩ := List.mem_map.mp hf
  have written : ∀ r, P (t.setAux n r) := fun r => hP.of_station ht rfl
  dsimp only
  rw [debounceAux_reads rfl rfl]
  split
  · exact written _
  · split
    · split
      · exact hP.activeEdge n (written _)
      · exact hP.inactiveEdge n (written _)
    · exact written _

/-! ## Releases of slots and sample frames -/

theorem countAsm (f : AssemblyCounters → AssemblyCounters) (h : P s) : P (s.countAsm f) := hP.of_station h rfl

/-- R16: a source that is lost raises SOURCE. -/
theorem accountMisses (contributors : Four Bool) (h : P s) : P (accountMisses contributors s) := by
  refine foldl_items_keeps (fun t n ht => ?_) _ h
  unfold accountMiss
  dsimp only
  split
  · split
    · exact hP.of_station ht rfl
    · split
      · exact hP.raise _ (hP.of_station ht rfl)
      · exact hP.of_station ht rfl
  · exact ht

theorem releaseSlot (forced : Bool) (h : P s) : P (releaseSlot forced s) := by
  rcases he : s.asm.expected with _ | e
  · rwa [releaseSlot_none he]
  · rw [releaseSlot_eq he]
    have pushed : ∀ x, P (pushWindows x s) := fun _ => hP.of_station h rfl
    have closes : ∀ v {t : State}, P t → P (closeSlot e v forced t) := fun _ _ ht => hP.of_station ht rfl
    have completes : ∀ {t : State}, P t → P (completeSets t) := fun ht => hP.of_station ht rfl
    exact hP.moment (completes (hP.releasedSet e (closes _ (hP.momentAfter _ (hP.accountMisses _ (pushed _))))))

theorem releaseChain : ∀ (n : Nat) {s : State}, P s → P (releaseChain n s)
  | 0, _, h => h
  | n + 1, s, h => by
    unfold Machine.releaseChain
    split
    · exact releaseChain n (hP.releaseSlot false h)
    · exact h

theorem releaseCheck (h : P s) : P (releaseCheck s) := by
  unfold Machine.releaseCheck
  split
  · exact h
  · split
    · exact h
    · exact hP.releaseChain _ h

theorem forceReleases : ∀ (n : Nat) {s : State}, P s → P (forceReleases n s)
  | 0, _, h => h
  | n + 1, _, h => forceReleases n (hP.releaseSlot true h)

theorem acceptFrame (e tag : Tag) (n : Index4) (f : SampleFrame) (h : P s) : P (acceptFrame e tag n f s) := by
  have placed : P (completeSets (closeSets e tag (placeFrame e tag n f.channels s))) := hP.of_station h rfl
  unfold Machine.acceptFrame
  dsimp only
  split
  · exact hP.of_station h rfl
  · split
    · refine hP.inTurn _ (fun g hg t ht => ?_) placed
      simp only [List.mem_cons, List.not_mem_nil, or_false] at hg
      rcases hg with rfl | rfl
      · exact hP.releaseCheck ht
      · exact hP.handAux _ ht
    · exact hP.releaseCheck placed

theorem discontinuity (tag : Tag) (n : Index4) (h : P s) : P (discontinuity tag n s) := by
  have placed : P (discontinuityPlaced tag n s) := hP.of_station h rfl
  rw [discontinuity_eq]
  exact hP.moment (hP.raise _ (hP.countAsm _ (hP.moment (hP.unlockTrackers placed))))

theorem handleFrame (e tag : Tag) (n : Index4) (f : SampleFrame) (h : P s) : P (handleFrame e tag n f s) := by
  unfold Machine.handleFrame
  dsimp only
  split
  · exact hP.acceptFrame _ _ _ _ h
  · split
    · exact hP.acceptFrame _ _ _ _ (hP.forceReleases _ h)
    · split
      · exact hP.acceptFrame _ _ _ _ (hP.discontinuity _ _ h)
      · exact hP.of_station h rfl

theorem takeSample (f : SampleFrame) (h : P s) : P (takeSample f s) := by
  unfold Machine.takeSample
  split
  · exact hP.of_station h rfl
  · split
    · exact hP.of_station h rfl
    · split
      · exact hP.of_station h rfl
      · split
        · exact hP.of_station h rfl
        · dsimp only
          split
          · exact hP.handleFrame _ _ _ _ (hP.of_station h rfl)
          · exact hP.handleFrame _ _ _ _ h

theorem expireSilence (h : P s) : P (expireSilence s) := by
  have cleared : P (silenceCleared s) := hP.of_station h rfl
  rw [expireSilence_eq]
  exact hP.countAsm _ (hP.raise _ (hP.interrupt _ (hP.moment (hP.unlockTrackers cleared))))

/-! ## The Bank Controller and the local tick -/

/-- R112: a change of a bank's state raises its notices. -/
theorem writeBank (n : Index4) (r : BankRec) (h : P s) : P (writeBank n r s) := by
  have written : P (s.setBankRec n r) := hP.of_station h rfl
  unfold Machine.writeBank
  dsimp only
  split
  · exact written
  · split
    · exact hP.raise _ (hP.raise _ written)
    · exact hP.raise _ written

theorem loadDwell (h : P s) : P (loadDwell s) := hP.of_station h rfl

theorem faultBank (n : Index4) (code : Option Byte) (count : BankCounters → BankCounters) (h : P s) :
    P (faultBank n code count s) := hP.loadDwell (hP.writeBank n _ h)

theorem zeroClamps (h : P s) : P (zeroClamps s) := hP.of_station h rfl

theorem receiveBankStatus (bank status code : Byte) (h : P s) : P (receiveBankStatus bank status code s) := by
  have confirmed : ∀ n r, P (confirmBank n r s) := fun n r =>
    hP.zeroClamps (hP.loadDwell (hP.writeBank n r h))
  have moved : ∀ n r, P (moveBank n r s) := fun n r => hP.loadDwell (hP.writeBank n _ h)
  unfold Machine.receiveBankStatus
  split
  · unfold takeBankStatus
    dsimp only
    split
    case h_2 | h_3 => exact confirmed _ _
    case h_4 | h_5 | h_6 | h_7 | h_8 => exact moved _ _
    case h_15 | h_16 | h_17 | h_18 | h_19 => exact hP.faultBank _ _ _ h
    all_goals exact hP.of_station h rfl
  · exact hP.of_station h rfl

theorem tickConfirmation (n : Index4) (h : P s) : P (tickConfirmation s n) := by
  unfold Machine.tickConfirmation
  dsimp only
  split
  · split
    · exact hP.faultBank _ _ _ h
    · exact hP.of_station h rfl
  · exact h

theorem tickDischarge (n : Index4) (h : P s) : P (tickDischarge s n) := by
  unfold Machine.tickDischarge
  dsimp only
  split
  · split
    · exact hP.writeBank _ _ h
    · exact hP.of_station h rfl
  · exact h

theorem tickDwell (h : P s) : P (tickDwell s) := by
  unfold Machine.tickDwell
  split
  · exact h
  · split <;> exact hP.of_station h rfl

theorem placeBankOrder (n : Index4) (a : BankAction) (h : P s) : P (placeBankOrder n a s) :=
  hP.handBankOrder n a (hP.momentAfter _ (hP.writeBank n _ h))

theorem tickBanks (h : P s) : P (tickBanks s) := by
  have discharged : P s.timersTicked :=
    hP.momentAfter _ (foldl_items_keeps (fun _ n => hP.tickDischarge n) _
      (hP.momentAfter _ (foldl_items_keeps (fun _ n => hP.tickConfirmation n) _ h)))
  have ticked : P s.banksTicked := by
    unfold State.banksTicked
    split
    · exact discharged
    · exact hP.tickDwell discharged
  rw [tickBanks_eq]
  rcases autoSwitch_cases s.banksTicked with e | e | ⟨n, a, f, -, -, e⟩ <;> rw [e]
  · exact ticked
  · exact hP.raise _ ticked
  · exact hP.placeBankOrder n a (hP.of_station ticked rfl)

theorem localTick (h : P s) : P (localTick s) := by
  have monitored : P (Machine.tickDip (countTick s)) := hP.tickDip (hP.of_station h rfl)
  refine hP.inTurn _ (fun f hf t ht => ?_) monitored
  simp only [List.mem_cons, List.not_mem_nil, or_false] at hf
  rcases hf with rfl | rfl
  · exact hP.tickBlanking ht
  · exact hP.tickBanks ht

end StationKept

end Sys2Proof.Machine
end

section
/-! Directives and the station's part of the state: a directive's action is answered at once but for a TABLE_COMMIT that
becomes pending (R79), and an action that is answered keeps what its block's operations keep. -/

namespace Sys2Proof.Machine

/-! ## What answers a directive (R79) -/

theorem actBankSet_answered (bank present : Byte) (susceptance : Half) (state : Byte) (s : State) :
    (actBankSet bank present susceptance state s).2.isSome = true := by
  have record : ∀ n st x, (setBankRecord n st x s).2.isSome = true := fun _ _ _ => rfl
  unfold actBankSet
  split
  · rfl
  · split
    · split
      · rfl
      · exact record _ _ _
    · split
      · split
        · rfl
        · split
          · rfl
          · exact record _ _ _
      · rfl
    · rfl

theorem actTableWrite_answered (start : Half) (n fill : Byte) (values : List Half) (s : State) :
    (actTableWrite start n fill values s).2.isSome = true := by
  unfold actTableWrite
  split
  · rfl
  · split
    · split
      · rfl
      · split <;> rfl
    · rfl

/-- R79: a TABLE_COMMIT without an answer is pending, with its tag recorded. -/
theorem actTableCommit_deferred {tag : Byte} {s : State} (h : (actTableCommit tag s).2 = none) :
    s.tables.commit = none ∧ (actTableCommit tag s).1 = s.setTables { s.tables with commit := some tag } := by
  unfold actTableCommit at h ⊢
  split
  · next hc => simp [hc, State.refuse] at h
  · next hc =>
    refine ⟨by simpa using hc, ?_⟩
    split
    · next i hi => simp [hc, hi] at h
    · next hi =>
      split
      · rfl
      · next hr => simp [hc, hi, hr, State.done] at h

/-- R172: every directive but a TABLE_COMMIT is answered as it acts. -/
theorem act_answered (d : Directive) (s : State) (h : d.request ≠ .tableCommit) : (act d s).2.isSome = true := by
  unfold act
  split
  case h_3 => unfold actCounters; split <;> rfl
  case h_5 => unfold actGet; split <;> rfl
  case h_6 =>
    unfold actSet
    split
    · rfl
    · split
      · rfl
      · split <;> rfl
  case h_7 =>
    unfold actMapSet
    split
    · rfl
    · split <;> rfl
  case h_8 =>
    unfold actSourceSet
    split
    · rfl
    · split <;> rfl
  case h_9 =>
    unfold actAuxSet
    split
    · rfl
    · split <;> rfl
  case h_10 => exact actBankSet_answered _ _ _ _ s
  case h_11 =>
    unfold actBankForce
    split
    · split
      · rfl
      · split <;> rfl
    · rfl
  case h_12 => exact actTableWrite_answered _ _ _ _ s
  case h_13 =>
    unfold actTableRead
    split
    · split <;> rfl
    · rfl
  case h_14 => unfold actTableCopy; split <;> rfl
  case h_15 hr => exact absurd hr h
  case h_16 =>
    unfold actMode
    split
    · rfl
    · split <;> rfl
  case h_17 => unfold actBlock; split <;> rfl
  case h_19 =>
    unfold actCaptureSet
    split
    · split <;> rfl
    · rfl
  case h_20 => unfold actCaptureTrigger; split <;> rfl
  case h_21 => unfold actCaptureRead; split <;> rfl
  case h_23 => unfold actNoticeSet; split <;> rfl
  case h_24 => unfold actNoticeClear; split <;> rfl
  case h_25 => unfold actReset; split <;> rfl
  all_goals rfl

/-- R79: a directive without an answer is a TABLE_COMMIT that has become pending. -/
theorem act_deferred {d : Directive} {s : State} (h : (act d s).2 = none) :
    s.tables.commit = none ∧ (act d s).1 = s.setTables { s.tables with commit := some d.tag } := by
  have request : d.request = .tableCommit := by
    by_contra hne
    simpa [h] using act_answered d s hne
  have acts : act d s = actTableCommit d.tag s := by
    unfold act
    rw [request]
  rw [acts] at h ⊢
  exact actTableCommit_deferred h

/-! ## Directives that leave the station's part -/

theorem station_clearCounters (s : State) (g : CounterGroup) : (clearCounters s g).station = s.station := by
  cases g <;> rfl

theorem station_actMapSet (quantity source channel : Byte) (s : State) :
    (actMapSet quantity source channel s).1.station = s.station := by
  unfold actMapSet
  split
  · rfl
  · split <;> rfl

theorem station_actTableWrite (start : Half) (n fill : Byte) (values : List Half) (s : State) :
    (actTableWrite start n fill values s).1.station = s.station := by
  unfold actTableWrite
  split
  · rfl
  · split
    · split
      · rfl
      · split <;> rfl
    · rfl

theorem station_actTableRead (bank : Byte) (start : Half) (n : Byte) (s : State) :
    (actTableRead bank start n s).1.station = s.station := by
  unfold actTableRead
  split
  · split <;> rfl
  · rfl

/-- R77, R78: a TABLE_COMMIT that is answered leaves no commit pending that was not. -/
theorem station_actTableCommit {tag : Byte} {s : State} (h : (actTableCommit tag s).2.isSome = true) :
    (actTableCommit tag s).1.station = s.station := by
  unfold actTableCommit at h ⊢
  split
  · rfl
  · next hc =>
    split
    · rfl
    · next hi =>
      split
      · next hr => simp [hc, hi, hr] at h
      · rfl

theorem station_actCaptureSet (mode : Byte) (post : Half) (s : State) :
    (actCaptureSet mode post s).1.station = s.station := by
  unfold actCaptureSet
  split
  · split <;> rfl
  · rfl

/-! ## What a directive's action keeps -/

namespace StationKept
variable {P : State → Prop} (hP : StationKept P) {s : State}
include hP

theorem afterWrite (p : Param) (h : P s) : P (afterWrite p s) := by
  unfold Machine.afterWrite
  split
  · split
    · exact hP.of_station h rfl
    · exact h
  · exact hP.of_station h rfl
  · exact hP.of_station h rfl
  · exact hP.evalSupply h
  · exact hP.evalSupply h
  · exact hP.evalBase h
  · exact h

theorem actSet (ident : Byte) (value : Word) (h : P s) : P (actSet ident value s).1 := by
  unfold Machine.actSet
  split
  · exact h
  · split
    · exact h
    · split
      · exact hP.afterWrite _ (hP.of_station h rfl)
      · exact h

theorem actSourceSet (source enabled policy hold miss : Byte) (h : P s) :
    P (actSourceSet source enabled policy hold miss s).1 := by
  unfold Machine.actSourceSet
  split
  · exact h
  · split
    · exact hP.releaseCheck (hP.of_station h rfl)
    · exact h

theorem actAuxSet (aux polarity kind debounce actions delay width : Byte) (h : P s) :
    P (actAuxSet aux polarity kind debounce actions delay width s).1 := by
  unfold Machine.actAuxSet
  split
  · exact h
  · split
    · exact hP.evalBase (hP.of_station h rfl)
    · exact h

theorem actBankSet (bank present : Byte) (susceptance : Half) (state : Byte) (h : P s) :
    P (actBankSet bank present susceptance state s).1 := by
  have record : ∀ n st x, P (setBankRecord n st x s).1 := fun n _ _ => hP.loadDwell (hP.writeBank n _ h)
  unfold Machine.actBankSet
  split
  · exact h
  · split
    · split
      · exact h
      · exact record _ _ _
    · split
      · split
        · exact h
        · split
          · exact h
          · exact record _ _ _
      · exact h
    · exact h

theorem actBankForce (bank action : Byte) (h : P s) : P (actBankForce bank action s).1 := by
  have counted : ∀ f {t : State}, P t → P (t.countBanks f) := fun _ _ ht => hP.of_station ht rfl
  unfold Machine.actBankForce
  split
  · split
    · exact h
    · split
      · exact h
      · rw [State.done_state]
        exact counted _ (hP.placeBankOrder _ _ h)
  · exact h

theorem actMode (operand : Byte) (h : P s) : P (actMode operand s).1 := by
  have cancelled : P (cancelResume s) := hP.of_station h rfl
  have requested : ∀ t, P (requestMode t (cancelResume s)) := fun t => by
    unfold requestMode
    split
    · exact hP.evalBase (hP.changeMode _ _ cancelled)
    · exact hP.evalBase (hP.changeMode _ _ cancelled)
    · exact hP.changeMode _ _ cancelled
    · exact hP.of_station cancelled rfl
  have quieted : P (if s.control.mode = .quiescent then cancelResume s else Machine.enterQuiescent s) := by
    split
    · exact cancelled
    · exact hP.enterQuiescent h
  have taken : ∀ m, P (takeMode m s) := fun m => by
    cases m with
    | run | park => exact requested _
    | quiescent | waking => exact quieted
  unfold Machine.actMode
  split
  · exact h
  · split
    · exact h
    · exact taken _

/-- R185: of an ENGINE reset the notices raised and the reply ABORTED reach the station. -/
theorem engineReset (h : P s) : P (engineReset s) := by
  have assembled : P (engineResetAssembly s) := hP.of_station h rfl
  have tracked : ∀ {t : State}, P t → P (engineResetTrackers t) := fun ht => by
    unfold engineResetTrackers
    dsimp only
    split
    · exact hP.raise _ (hP.of_station ht rfl)
    · exact hP.of_station ht rfl
  have demanded : ∀ {t : State}, P t → P (engineResetDemand t) := fun ht => hP.of_station ht rfl
  have controlled : ∀ {t : State}, P t → P (engineResetControl t) := fun ht => by
    unfold engineResetControl
    dsimp only
    split
    · exact hP.of_station ht rfl
    · exact hP.raise _ (hP.of_station ht rfl)
  have zeroed : ∀ {t : State}, P t → P (zeroRuns t) := fun ht => hP.of_station ht rfl
  exact zeroed (hP.exchangeQuiescent (controlled (hP.abort (demanded (tracked assembled)))))

theorem actReset (scope : Byte) (h : P s) : P (actReset scope s).1 := by
  unfold Machine.actReset
  split
  · exact h
  · exact hP.moment (hP.engineReset h)
  · exact hP.of_station h rfl

/-- R172: what an answered directive's action keeps; its reply is not yet created. -/
theorem act (d : Directive) (h : P s) (answered : (act d s).2.isSome = true) : P (act d s).1 := by
  unfold Machine.act at answered ⊢
  split
  case h_3 =>
    unfold actCounters
    split
    · split
      · exact hP.of_station h (station_clearCounters s _)
      · exact h
    · exact h
  case h_5 =>
    unfold actGet
    split <;> exact h
  case h_6 => exact hP.actSet _ _ h
  case h_7 => exact hP.of_station h (station_actMapSet _ _ _ s)
  case h_8 => exact hP.actSourceSet _ _ _ _ _ h
  case h_9 => exact hP.actAuxSet _ _ _ _ _ _ _ h
  case h_10 => exact hP.actBankSet _ _ _ _ h
  case h_11 => exact hP.actBankForce _ _ h
  case h_12 => exact hP.of_station h (station_actTableWrite _ _ _ _ s)
  case h_13 => exact hP.of_station h (station_actTableRead _ _ _ s)
  case h_14 =>
    unfold actTableCopy
    split <;> exact hP.of_station h rfl
  case h_15 hr =>
    rw [hr] at answered
    exact hP.of_station h (station_actTableCommit answered)
  case h_16 => exact hP.actMode _ h
  case h_17 =>
    unfold actBlock
    split
    · exact h
    · exact hP.evalBase (hP.of_station h rfl)
  case h_18 => exact hP.evalBase (hP.of_station h rfl)
  case h_19 => exact hP.of_station h (station_actCaptureSet _ _ s)
  case h_20 =>
    unfold actCaptureTrigger
    split
    · exact hP.trigger _ h
    · exact h
  case h_21 =>
    unfold actCaptureRead
    split <;> exact hP.of_station h rfl
  case h_23 => exact hP.noticeSet _ _ _ h
  case h_24 => exact hP.noticeClear _ h
  case h_25 => exact hP.actReset _ h
  all_goals exact hP.of_station h rfl

end StationKept

end Sys2Proof.Machine
end

section
/-! Every step keeps the limits of the station side (R171, R173, R188, R192): the places of the reply list, the
directive queue, the sent flags behind their status, and an M transmitter idle only while nothing is available to it. -/

namespace Sys2Proof.Machine

/-! ## Places in use and sent flags -/

/-- R173, R188: at most k places of the reply list are in use, and sent flags stand only with their status. -/
structure StationWithin (k : Nat) (s : State) : Prop where
  places : s.usedPlaces ≤ k
  sent : SentOnlyWhileSet s

/-- R173: the replies held, and one place more while a commit is pending. -/
theorem usedPlaces_eq (s : State) : s.usedPlaces = s.processor.replies.length + s.tables.commit.toList.length := by
  unfold State.usedPlaces State.reservedSlot
  cases s.tables.commit <;> rfl

theorem usedPlaces_of_station {s t : State} (h : t.station = s.station) : t.usedPlaces = s.usedPlaces := by
  have replies : t.processor.replies = s.processor.replies := congrArg StationPart.replies h
  have commit : t.tables.commit = s.tables.commit := congrArg StationPart.commit h
  rw [usedPlaces_eq, usedPlaces_eq, replies, commit]

/-- R188: records of which each keeps its sent flag behind its status. -/
theorem SentOnlyWhileSet.of_records {s t : State} (h : SentOnlyWhileSet s)
    (ht : ∀ n, t.notices.records.get n = s.notices.records.get n ∨
      ((t.notices.records.get n).sent = true → (t.notices.records.get n).status = true)) : SentOnlyWhileSet t := by
  intro n hn
  rcases ht n with e | e
  · rw [e] at hn ⊢
    exact h n hn
  · exact e hn

theorem SentOnlyWhileSet.raise {s : State} (h : SentOnlyWhileSet s) (n : NoticeSource) :
    SentOnlyWhileSet (raise n s) := by
  refine h.of_records fun m => ?_
  rw [raise_record]
  split
  · exact .inr fun _ => rfl
  · exact .inl rfl

/-- R85: an aborted commit turns the reserved place into a reply's place. -/
theorem abortCommit_usedPlaces (s : State) : (abortCommit s).usedPlaces = s.usedPlaces := by
  unfold abortCommit
  split
  · rfl
  · next hc => simp [State.usedPlaces, State.reservedSlot, State.appendReply, hc]

theorem abortCommit_notices (s : State) : (abortCommit s).notices = s.notices := by
  unfold abortCommit
  split <;> rfl

/-- R189: a source keeps its status and its sent flag. -/
theorem SentOnlyWhileSet.actNoticeSet {s : State} (h : SentOnlyWhileSet s) (source enable level : Byte) :
    SentOnlyWhileSet (actNoticeSet source enable level s).1 := by
  unfold Machine.actNoticeSet
  split
  · next n e l _ _ _ =>
    refine h.of_records fun m => ?_
    simp only [State.done_state, State.setNotices_notices, PerNotice.get_set]
    split
    · exact .inr (h n)
    · exact .inl rfl
  · exact h

/-- R190: a cleared source loses both flags. -/
theorem SentOnlyWhileSet.actNoticeClear {s : State} (h : SentOnlyWhileSet s) (sources : Half) :
    SentOnlyWhileSet (actNoticeClear sources s).1 := by
  unfold Machine.actNoticeClear
  split
  · exact h
  · refine h.of_records fun m => ?_
    simp only [State.done_state, State.setNotices_notices, PerNotice.get_ofFn]
    split
    · exact .inr fun hs => nomatch hs
    · exact .inl rfl

theorem actNoticeSet_usedPlaces (source enable level : Byte) (s : State) :
    (actNoticeSet source enable level s).1.usedPlaces = s.usedPlaces := by
  unfold actNoticeSet
  split <;> rfl

theorem actNoticeClear_usedPlaces (sources : Half) (s : State) :
    (actNoticeClear sources s).1.usedPlaces = s.usedPlaces := by
  unfold actNoticeClear
  split <;> rfl

/-- R83, R85, R188: inside a block no place is taken that was not held before, and no sent flag is set. -/
theorem stationWithin_kept (k : Nat) : StationKept (StationWithin k) where
  of_station h e :=
    ⟨usedPlaces_of_station e ▸ h.places, h.sent.of_records fun n =>
      .inl (congrArg (fun x => (StationPart.notices x).records.get n) e)⟩
  raise n h := ⟨h.places, h.sent.raise n⟩
  moment {s} h := by
    obtain ⟨x, e⟩ := moment_eq s
    rw [e]
    exact ⟨h.places, h.sent⟩
  complete {s} c f h :=
    ⟨(completeCommit_usedPlaces c f s).symm ▸ h.places, h.sent.of_records fun n =>
      .inl (by rw [completeCommit_notices])⟩
  abort {s} h :=
    ⟨(abortCommit_usedPlaces s).symm ▸ h.places, h.sent.of_records fun n =>
      .inl (by rw [abortCommit_notices])⟩
  noticeSet {s} a b c h := ⟨(actNoticeSet_usedPlaces a b c s).symm ▸ h.places, h.sent.actNoticeSet a b c⟩
  noticeClear {s} a h := ⟨(actNoticeClear_usedPlaces a s).symm ▸ h.places, h.sent.actNoticeClear a⟩

/-! ## The M transmitter served (R192) -/

theorem mem_eligible {s : State} {n : NoticeSource} :
    n ∈ s.eligible ↔ (s.notices.records.get n).eligible s.params.noticeMask = true := by
  simp [State.eligible, NoticeSource.mem_all]

/-- R173: a reply that begins leaves the list. -/
theorem StationWithin.beginReply {k : Nat} {s : State} (h : StationWithin k s) : StationWithin k (beginReply s) := by
  have places := h.places
  unfold Machine.beginReply
  split
  · exact h
  · next r rest hr =>
    refine ⟨?_, h.sent⟩
    rw [usedPlaces_eq, hr, List.length_cons] at places
    simp only [usedPlaces_eq, State.setNotices_processor, State.setNotices_tables, State.setProcessor_processor,
      State.setProcessor_tables]
    omega

/-- R189, R191: a notice that begins was eligible, and so has its status set. -/
theorem StationWithin.beginNotice {k : Nat} {s : State} (h : StationWithin k s) {n : NoticeSource}
    (hn : n ∈ s.eligible) : StationWithin k (beginNotice n s) := by
  have status : (s.notices.records.get n).status = true := by
    have := mem_eligible.mp hn
    simp only [NoticeRec.eligible, Bool.and_eq_true] at this
    exact this.1.1.1
  refine ⟨h.places, h.sent.of_records fun m => ?_⟩
  simp only [Machine.beginNotice, State.setNotices_notices, PerNotice.get_set]
  split
  · exact .inr fun _ => status
  · exact .inl rfl

theorem StationWithin.settled {k : Nat} {u t : State} (h : StationWithin k u) (ht : Settled u t) :
    StationWithin k t := by
  have count : ∀ {v : State} (j : Nat), StationWithin k v → StationWithin k { v with freeCount := j } :=
    fun _ hv => ⟨hv.places, hv.sent⟩
  cases ht with
  | busy _ => exact h
  | nothing _ _ => exact h
  | reply j _ _ => exact count j h.beginReply
  | notice j n _ hn => exact count j (h.beginNotice ((candidates_available u).2 n hn))

theorem beginReply_busy {s : State} (h : s.processor.replies ≠ []) :
    (beginReply s).notices.transmitter.isSome = true := by
  unfold beginReply
  split
  · next hr => exact absurd hr h
  · rfl

/-- R192: an offer of all that is available leaves the transmitter busy, or with nothing available to it. -/
theorem Settled.atRest {u t : State} (h : Settled u t) : AtRest t := by
  cases h with
  | busy hb => exact .inl hb
  | nothing hr he => exact .inr ⟨hr, he⟩
  | reply k _ hc => exact .inl (beginReply_busy ((candidates_available u).1 hc))
  | notice k n _ _ => exact .inl rfl

/-- R192: what the arbiter chooses at a transmit completion. -/
theorem chooseNext_idle {s : State} (h : s.notices.transmitter = none) : chooseNext s =
    if s.processor.replies = [] then (s.bestNotice s.eligible).elim s fun n => beginNotice n s else beginReply s := by
  unfold chooseNext
  rw [if_neg (by simp [h])]
  by_cases hr : s.processor.replies = []
  · rw [if_pos hr, if_pos (by simp [hr])]
    cases s.bestNotice s.eligible <;> rfl
  · rw [if_neg hr, if_neg (by simpa using hr)]

theorem chooseNext_atRest {s : State} (h : s.notices.transmitter = none) : AtRest (chooseNext s) := by
  rw [chooseNext_idle h]
  by_cases hr : s.processor.replies = []
  · rw [if_pos hr]
    by_cases he : s.eligible = []
    · rw [he]
      exact .inr ⟨hr, he⟩
    · obtain ⟨n, hn⟩ := bestNotice_isSome s s.eligible he
      rw [hn]
      exact .inl rfl
  · rw [if_neg hr]
    exact .inl (beginReply_busy hr)

theorem StationWithin.chooseNext {k : Nat} {s : State} (h : StationWithin k s) (hi : s.notices.transmitter = none) :
    StationWithin k (chooseNext s) := by
  rw [chooseNext_idle hi]
  split
  · rcases hb : s.bestNotice s.eligible with _ | n
    · exact h
    · exact h.beginNotice (bestNotice_mem s _ n hb)
  · exact h.beginReply

/-! ## Directives taken (R172) -/

/-- R173: a reply takes one place. -/
theorem StationWithin.replyTo {k : Nat} {u : State} (h : StationWithin k u) (d : Directive) (code : ResultCode)
    (data : ReplyData) : StationWithin (k + 1) (replyTo d code data u) := by
  have answered : StationWithin (k + 1) (u.answered d.tag d.kind code data) := by
    have places := h.places
    refine ⟨?_, h.sent⟩
    rw [usedPlaces_eq] at places
    simp only [usedPlaces_eq, State.answered, State.setProcessor_processor, State.setProcessor_tables,
      List.length_append, List.length_cons, List.length_nil]
    omega
  refine StationWithin.settled ?_ (replyTo_settled d code data u)
  split
  · exact answered
  · exact ⟨answered.places, answered.sent⟩

theorem replyTo_queue (d : Directive) (code : ResultCode) (data : ReplyData) (u : State) :
    (replyTo d code data u).processor.queue = u.processor.queue := by
  refine (replyTo_settled d code data u).queue.trans ?_
  split <;> rfl

theorem replyTo_atRest (d : Directive) (code : ResultCode) (data : ReplyData) (u : State) :
    AtRest (replyTo d code data u) := (replyTo_settled d code data u).atRest

/-- R172, R173: a directive is taken only while a place is free. -/
theorem usedPlaces_of_canTake {s : State} (h : s.canTake = true) : s.usedPlaces ≤ 7 := by
  unfold State.canTake at h
  simp only [Bool.and_eq_true] at h
  obtain ⟨⟨-, free⟩, -⟩ := h
  exact Nat.le_of_lt_succ (of_decide_eq_true free)

/-- R172: a directive taken while a place is free leaves the station within its limits: its reply takes that place, or,
deferred, the reserved slot. -/
theorem StationInv.takeHead {s : State} (h : StationInv s) (hc : s.canTake = true) : StationInv (takeHead s) := by
  unfold Machine.takeHead
  split
  · exact h
  · next d rest hq =>
    have length : rest.length ≤ Config.directiveQueueLimit := by
      have := h.queue
      rw [hq, List.length_cons] at this
      omega
    dsimp only
    generalize hu : s.setProcessor { s.processor with
      queue := rest, counters := { s.processor.counters with taken := bump s.processor.counters.taken } } = u
    have free : s.usedPlaces ≤ 7 := usedPlaces_of_canTake hc
    have within : StationWithin 7 u := by
      rw [← hu]
      exact ⟨free, h.sent⟩
    have queue : u.processor.queue = rest := by rw [← hu]; rfl
    have atRest : AtRest u := by rw [← hu]; exact h.rest
    split
    · next deferred =>
      obtain ⟨idle, pending⟩ := act_deferred deferred
      have places := within.places
      rw [pending]
      refine ⟨?_, queue ▸ length, within.sent, atRest⟩
      rw [usedPlaces_eq, idle] at places
      rw [usedPlaces_eq]
      exact Nat.succ_le_succ places
    · next code data answered =>
      have acted : StationWithin 7 (act d u).1 := (stationWithin_kept 7).act d within (by rw [answered]; rfl)
      have replied := acted.replyTo d code data
      refine ⟨replied.places, ?_, replied.sent, replyTo_atRest d code data _⟩
      rw [replyTo_queue, act_queue, queue]
      exact length

theorem StationInv.takeLoop : ∀ (n : Nat) {s : State}, StationInv s → StationInv (takeLoop n s)
  | 0, _, h => h
  | n + 1, s, h => by
    unfold Machine.takeLoop
    split
    · next hc => exact StationInv.takeLoop n (h.takeHead hc)
    · exact h

/-! ## The limits before the M transmitter is served -/

/-- R171, R173, R188: the limits of the station side, apart from the M transmitter. -/
structure StationLimits (s : State) : Prop where
  within : StationWithin Config.replyListLimit s
  queue : s.processor.queue.length ≤ Config.directiveQueueLimit

theorem StationInv.limits {s : State} (h : StationInv s) : StationLimits s := ⟨⟨h.places, h.sent⟩, h.queue⟩

/-- What keeps the places and the sent flags, beside the directives that waited before. -/
theorem StationLimits.kept {s t : State} (h : StationLimits s) (ht : StationWithin Config.replyListLimit t)
    (hq : t.processor.queue = s.processor.queue) : StationLimits t := ⟨ht, hq ▸ h.queue⟩

/-- R172, R192: a step's end serves the transmitter and takes what can be taken. -/
theorem StationLimits.settle {s : State} (h : StationLimits s) : StationInv (settle s) := by
  have offered := offer_candidates s
  have served := h.within.settled offered
  exact StationInv.takeLoop _ ⟨served.places, offered.queue ▸ h.queue, served.sent, offered.atRest⟩

/-- R170, R171, R173: a directive joins the queue, or is answered QUEUE_FULL, only where there is room. -/
theorem StationLimits.admission {s : State} (h : StationLimits s) (unit : Byte) (d : Directive) :
    StationLimits (admission unit d s) := by
  have counted : ∀ c, StationLimits (s.setProcessor { s.processor with counters := c }) := fun _ =>
    ⟨⟨h.within.places, h.within.sent⟩, h.queue⟩
  unfold Machine.admission
  dsimp only
  split
  · exact counted _
  · split
    · next room =>
      refine ⟨⟨h.within.places, h.within.sent⟩, ?_⟩
      simp only [State.setProcessor_processor, List.length_append, List.length_cons, List.length_nil]
      omega
    · split
      · next free =>
        refine ⟨⟨?_, h.within.sent⟩, h.queue⟩
        have free : s.usedPlaces < Config.replyListLimit := of_decide_eq_true free
        rw [usedPlaces_eq] at free
        simp only [usedPlaces_eq, State.appendReply, State.setProcessor_processor, State.setProcessor_tables,
          List.length_append, List.length_cons, List.length_nil]
        omega
      · exact counted _

theorem StationLimits.receiveM {s : State} (h : StationLimits s) {f : State → State} (length : Nat)
    (hf : ∀ u, StationLimits u → StationLimits (f u)) : StationLimits (receiveM length f s) := by
  have counted : ∀ c, StationLimits (s.countM c) := fun _ => ⟨⟨h.within.places, h.within.sent⟩, h.queue⟩
  unfold Machine.receiveM
  split
  · exact counted _
  · exact hf _ (counted _)

theorem StationLimits.takeSample {s : State} (h : StationLimits s) (f : SampleFrame) :
    StationLimits (takeSample f s) :=
  h.kept ((stationWithin_kept _).takeSample f h.within) (takeSample_queue f s)

theorem StationLimits.receiveReport {s : State} (h : StationLimits s) (r : ReportFrame) :
    StationLimits (receiveReport r s) :=
  h.kept ((stationWithin_kept _).receiveReport r h.within) (receiveReport_queue r s)

theorem StationLimits.receiveBankStatus {s : State} (h : StationLimits s) (bank status code : Byte) :
    StationLimits (receiveBankStatus bank status code s) :=
  h.kept ((stationWithin_kept _).receiveBankStatus bank status code h.within)
    (receiveBankStatus_queue bank status code s)

theorem StationLimits.expireSilence {s : State} (h : StationLimits s) : StationLimits (expireSilence s) :=
  h.kept ((stationWithin_kept _).expireSilence h.within) (expireSilence_queue s)

theorem StationLimits.receiveBytes {s : State} (h : StationLimits s) (port : Port) (bytes : List Byte) :
    StationLimits (receiveBytes port bytes s) := by
  have counted : ∀ v, StationLimits (s.countPort port fun c => c.count v) := fun v => by
    cases port <;> exact ⟨⟨h.within.places, h.within.sent⟩, h.queue⟩
  unfold Machine.receiveBytes
  dsimp only
  split
  · unfold handOn
    split
    · exact (counted _).takeSample _
    · exact (counted _).admission _ _
    · exact (counted _).receiveReport _
    · exact (counted _).receiveBankStatus _ _ _
    · exact counted _
  · exact counted _

/-! ## A command, a step -/

/-- R186, R192: at a transmit completion the arbiter chooses again, or a FULL reset acts. -/
theorem StationInv.completeM {s : State} (h : StationInv s) : StationInv (completeM s) := by
  unfold Machine.completeM
  split
  · exact h
  · dsimp only
    split
    · exact stationInv_powerOn _ _ _ _
    · generalize hu : (s.setNotices { s.notices with transmitter := none }).countM
        (fun c => { c with sent := bump c.sent }) = u
      have idle : u.notices.transmitter = none := by rw [← hu]; rfl
      have limits : StationLimits u := by rw [← hu]; exact ⟨⟨h.places, h.sent⟩, h.queue⟩
      have chosen := limits.within.chooseNext idle
      exact StationInv.takeLoop _ ⟨chosen.places, (chooseNext_queue u).symm ▸ limits.queue, chosen.sent,
        chooseNext_atRest idle⟩

/-- Every command keeps the limits of the station side. -/
theorem StationInv.exec {i : Instr} {s t : State} (h : StationInv s) (ht : exec i s = .next t) : StationInv t := by
  have limits := h.limits
  have within : StationKept (StationWithin Config.replyListLimit) := stationWithin_kept _
  have directive : ∀ {unit tag kind : Byte} {length : Nat} {r : Request},
      whileReleased s (directiveArrives unit tag kind length r) = .next t → StationInv t :=
    whileReleased_keeps (P := StationInv)
      (fun hs => StationLimits.settle (hs.limits.receiveM _ fun _ hu => hu.admission _ _)) h
  have settled : ∀ {f : State → State}, StationLimits (f s) →
      whileReleased s (fun s => settle (f s)) = .next t → StationInv t :=
    fun hf => whileReleased_keeps (P := StationInv) (fun _ => hf.settle) h
  have receivedV : StationLimits s.receivedV := limits.kept ⟨h.places, h.sent⟩ rfl
  cases i with
  | sampleFrame f => exact settled (limits.receiveM _ fun _ hu => hu.takeSample f) ht
  | localSamplePeriod =>
    refine settled (f := endSamplePeriod) ?_ ht
    unfold endSamplePeriod
    split
    · exact limits
    · split
      · exact limits.expireSilence
      · exact limits.kept ⟨h.places, h.sent⟩ rfl
  | silenceTimerExpiry =>
    refine settled (f := silenceExpires) ?_ ht
    unfold silenceExpires
    split
    · exact limits
    · exact limits.expireSilence
  | localTick => exact settled (limits.kept (within.localTick limits.within) (localTick_queue s)) ht
  | confirmationTimerExpiry =>
    have expires : ∀ u n, StationWithin Config.replyListLimit u →
        StationWithin Config.replyListLimit (confirmationExpiresAt u n) := fun u n hu => by
      unfold confirmationExpiresAt
      split
      · exact within.faultBank _ _ _ hu
      · exact hu
    exact settled (f := Index4.all.foldl confirmationExpiresAt)
      (limits.kept (foldl_items_keeps expires _ limits.within)
        (foldl_same (fun u => u.processor.queue) _ confirmationExpiresAt_queue _ s)) ht
  | dischargeTimerExpiry n =>
    have expired : StationWithin Config.replyListLimit (dischargeExpires n s) := by
      unfold dischargeExpires
      split
      · exact within.writeBank _ _ limits.within
      · exact limits.within
    exact settled (limits.kept expired (dischargeExpires_queue n s)) ht
  | dwellTimerExpiry => exact settled (f := expireDwell) (limits.kept ⟨h.places, h.sent⟩ rfl) ht
  | dipToleranceExpiry =>
    refine settled (f := dipToleranceExpires) ?_ ht
    unfold dipToleranceExpires
    split
    · exact limits.kept (within.interrupt _ limits.within) (queue_of_outer (outer_dipInterruption s))
    · exact limits
  | blankingDelayExpiry =>
    refine settled (f := blankingDelayExpires) ?_ ht
    unfold blankingDelayExpires
    split
    · exact limits.kept (within.activateBlanking _ limits.within) (queue_of_outer (outer_activateBlanking _ s))
    · exact limits
  | blankingPulseEnd =>
    refine settled (f := blankingPulseEnds) ?_ ht
    unfold blankingPulseEnds
    split
    · exact limits.kept (within.endBlanking limits.within) (queue_of_outer (outer_endBlanking s))
    · exact limits
  | valveReport r => exact settled (f := fun s => Machine.receiveReport r s.receivedV) (receivedV.receiveReport r) ht
  | bankStatusFrame bank status code =>
    exact settled (f := fun s => Machine.receiveBankStatus bank status code s.receivedV)
      (receivedV.receiveBankStatus bank status code) ht
  | vTransmitCompletion => exact settled (limits.kept (within.completeV limits.within) (completeV_queue s)) ht
  | frameRejected port bytes => exact settled (limits.receiveBytes port bytes) ht
  | mTransmitCompletion => exact whileReleased_keeps StationInv.completeM h ht
  | powerOnReset =>
    cases ht
    exact stationInv_powerOn _ _ _ _
  | rstnRelease fsel unit boot =>
    change execRstnRelease fsel unit boot s = .next t at ht
    unfold execRstnRelease at ht
    split at ht <;> cases ht
    · exact h
    · exact stationInv_powerOn _ _ _ _
  | _ => exact directive ht

theorem StationInv.step {s t : State} (h : StationInv s) (ht : step s = .next t) : StationInv t := by
  unfold Machine.step at ht
  split at ht
  · cases ht
    exact h
  · next c rest _ =>
    have waiting : StationInv { s with pending := rest } := ⟨h.places, h.queue, h.sent, h.rest⟩
    exact waiting.exec ht

end Sys2Proof.Machine

/-- Settles O53: every command keeps the limits before the M transmitter is served, and its end leaves the transmitter
busy or with nothing available to it. -/
theorem stepKeepsStation : Obligations.StepKeepsStation := by
  unfold Obligations.StepKeepsStation
  intro s t hi ht
  exact hi.step ht
end

section
/-! Directives that read (R178 to R181), the requests of frames of unknown kind or wrong length (R172), and RESET FULL
(R184, R186). -/

namespace Sys2Proof.Machine

/-! ## Parameters (Table 9-3) -/

theorem Param.parkedOnly_iff (p : Param) : p.parkedOnly = true ↔ p ∈ ([.assemblyDepth, .statusSource, .limitMode,
    .gapPolicy, .releaseBase, .releaseExtra, .blockSelect] : List Param) := by
  cases p <;> simp [Param.parkedOnly]

theorem actGet_some {ident : Byte} {p : Param} (h : param? ident = some p) (s : State) :
    actGet ident s = s.done (.get ident (s.params.value p) p.parkedOnly) := by
  unfold actGet
  rw [h]

theorem actGet_range {ident : Byte} (h : param? ident = none) (s : State) : actGet ident s = s.refuse .range := by
  unfold actGet
  rw [h]

/-! ## STAMP (R44, R181) -/

theorem stampReport_elapsed {s : State} {b : Branch} {last e : Tag} (hl : s.asm.lastReleased = some last)
    (he : (s.trackers.get b).lastEventTag = some e) : (s.stampReport b).elapsed = some (last - e).toNat := by
  simp [State.stampReport, hl, he, tagDistance]

theorem stampReport_none {s : State} {b : Branch}
    (h : s.asm.lastReleased = none ∨ (s.trackers.get b).lastEventTag = none) : (s.stampReport b).elapsed = none := by
  unfold State.stampReport
  rcases h with h | h
  · rw [h]
  · rw [h]
    cases s.asm.lastReleased <;> rfl

/-! ## The request of a frame (R172, steps 1 and 2) -/

/-- The reader of operands finds a number of operand bytes other than n malformed. -/
def WantsOperands (n : Nat) (f : List Byte → Request) : Prop := ∀ ops, ops.length ≠ n → f ops = .malformed

theorem noOperands_wants (r : Request) : WantsOperands 0 (noOperands r)
  | [], h => absurd rfl h
  | _ :: _, _ => rfl

theorem oneOperand_wants (f : Byte → Request) : WantsOperands 1 (oneOperand f) := fun ops h => by
  unfold oneOperand
  split
  · exact absurd rfl h
  · rfl

theorem twoOperands_wants (f : Byte → Byte → Request) : WantsOperands 2 (twoOperands f) := fun ops h => by
  unfold twoOperands
  split
  · exact absurd rfl h
  · rfl

theorem threeOperands_wants (f : Byte → Byte → Byte → Request) : WantsOperands 3 (threeOperands f) := fun ops h => by
  unfold threeOperands
  split
  · exact absurd rfl h
  · rfl

theorem fourOperands_wants (f : Byte → Byte → Byte → Byte → Request) : WantsOperands 4 (fourOperands f) :=
  fun ops h => by
    unfold fourOperands
    split
    · exact absurd rfl h
    · rfl

theorem fiveOperands_wants (f : Byte → Byte → Byte → Byte → Byte → Request) : WantsOperands 5 (fiveOperands f) :=
  fun ops h => by
    unfold fiveOperands
    split
    · exact absurd rfl h
    · rfl

theorem sevenOperands_wants (f : Byte → Byte → Byte → Byte → Byte → Byte → Byte → Request) :
    WantsOperands 7 (sevenOperands f) := fun ops h => by
  unfold sevenOperands
  split
  · exact absurd rfl h
  · rfl

/-- Table 11-3: the kinds whose operands have a fixed length. -/
theorem decodeRequest_wants {kind : Byte} {n : Nat}
    (h : (kind, n) ∈ ([(1, 0), (2, 0), (3, 2), (4, 0), (5, 1), (6, 5), (7, 3), (8, 5), (9, 7), (10, 5), (11, 2),
      (13, 4), (14, 0), (15, 0), (16, 1), (17, 1), (18, 0), (19, 3), (20, 0), (21, 1), (22, 0), (23, 3), (24, 2),
      (25, 1)] : List (Byte × Nat))) : WantsOperands n (decodeRequest kind) := by
  fin_cases h
  exacts [noOperands_wants _, noOperands_wants _, twoOperands_wants _, noOperands_wants _, oneOperand_wants _,
    fiveOperands_wants _, threeOperands_wants _, fiveOperands_wants _, sevenOperands_wants _, fiveOperands_wants _,
    twoOperands_wants _, fourOperands_wants _, noOperands_wants _, noOperands_wants _, oneOperand_wants _,
    oneOperand_wants _, noOperands_wants _, threeOperands_wants _, noOperands_wants _, oneOperand_wants _,
    noOperands_wants _, threeOperands_wants _, twoOperands_wants _, oneOperand_wants _]

/-- R172, step 2: a TABLE_WRITE without its four fixed operand bytes. -/
theorem tableWriteOperands_short {ops : List Byte} (h : ops.length < 4) : tableWriteOperands ops = .malformed := by
  unfold tableWriteOperands
  split
  · simp only [List.length_cons] at h
    omega
  · rfl

/-- R172, step 1. -/
theorem decodeRequest_unknownKind {kind : Byte} (h : kind = 0 ∨ 25 < kind.toNat) (ops : List Byte) :
    decodeRequest kind ops = .unknownKind := by
  have out : kind.toNat = 0 ∨ 25 < kind.toNat := h.imp_left fun e => by rw [e]; rfl
  unfold decodeRequest
  split
  case h_26 => rfl
  all_goals omega

/-- A directive frame of a request that is answered as it acts. -/
theorem exec_frame_answered {s : State} {tag kind : Byte} {ops : List Byte} {r : Request} {u : State}
    {code : ResultCode} {data : ReplyData} (h : Ready s) (hl : ops.length ≤ 153) (hd : decodeRequest kind ops = r)
    (hr : r.answeredAfter = false) (ha : act ⟨tag, kind, r⟩ s.taken = (u, some (code, data))) :
    ∃ t, exec (.directiveFrame s.unitByte tag kind ops) s = .next t ∧ Settled (u.replied tag kind code data) t := by
  have arrives : exec (.directiveFrame s.unitByte tag kind ops) s =
      whileReleased s (directiveArrives s.unitByte tag kind (7 + ops.length) r) := by
    rw [← hd]
    rfl
  have length : 7 + ops.length ≤ Config.frameLimit := by
    simp only [Config.frameLimit]
    omega
  exact exec_answered h arrives length hr ha

/-! ## RESET (R184) -/

theorem resetScope?_none {b : Byte} (h : 1 < b.toNat) : resetScope? b = none := by
  unfold resetScope?
  split
  case h_3 => rfl
  all_goals omega

theorem actReset_range {scope : Byte} (h : 1 < scope.toNat) (s : State) : actReset scope s = s.refuse .range := by
  unfold actReset
  rw [resetScope?_none h]

end Sys2Proof.Machine

open Sys2Proof Sys2Proof.Machine in
/-- Settles O6: the snapshot is the report of the state as the directive acts, with no directive waiting. -/
theorem statusAnswersSnapshot : Obligations.StatusAnswersSnapshot := by
  unfold Obligations.StatusAnswersSnapshot
  intro s tag h
  obtain ⟨t, ht, hs⟩ := exec_answered (i := .status s.unitByte tag) (u := s.taken) (r := .status) h rfl (by decide)
    rfl rfl
  have waiting : s.taken.statusReport.queuedDirectives = 0 := congrArg List.length h.queue
  exact ⟨t, _, ht, hs, rfl, rfl, rfl, rfl, rfl, rfl, rfl, rfl, rfl, rfl, rfl, Four.get_ofFn _, rfl, rfl, rfl,
    fun b => ⟨PerBranch.get_ofFn _ b, PerBranch.get_ofFn _ b⟩, Four.get_ofFn _, rfl, rfl, rfl, rfl,
    PerNotice.get_ofFn _, waiting, rfl, rfl⟩

open Sys2Proof Sys2Proof.Machine in
/-- Settles O7: the answers are those of the two actions, and the elapsed sets are the distance of the tags. -/
theorem identifyAndStampAnswer : Obligations.IdentifyAndStampAnswer := by
  unfold Obligations.IdentifyAndStampAnswer
  intro s tag h
  obtain ⟨t, ht, hs⟩ := exec_answered (i := .stamp s.unitByte tag) (u := s.taken) (r := .stamp) h rfl (by decide) rfl
    rfl
  refine ⟨exec_answered h rfl (by decide) (r := .identify) rfl rfl, rfl, t, .ofFn s.stampReport, ht, hs, fun b => ?_⟩
  rw [PerBranch.get_ofFn]
  exact ⟨rfl, fun last e hl he => stampReport_elapsed hl he, stampReport_none⟩

open Sys2Proof Sys2Proof.Machine in
/-- Settles O8: the table of identifiers read off, and GET's answer by whether the identifier names a parameter. -/
theorem getAnswersParameter : Obligations.GetAnswersParameter := by
  unfold Obligations.GetAnswersParameter
  refine ⟨by decide, Param.parkedOnly_iff, fun q => ?values, fun s tag ident h => ⟨fun p hp => ?some, fun hp => ?range⟩⟩
  case values =>
    refine ⟨rfl, rfl, rfl, rfl, rfl, rfl, rfl, rfl, rfl, rfl, rfl, rfl, rfl, rfl, rfl, rfl, rfl, rfl, rfl, rfl, rfl,
      rfl,
      rfl, rfl, fun b => ⟨rfl, rfl, rfl, rfl⟩, ?_, ?_, rfl, ?_, ?_, rfl, rfl⟩
    · simp only [Params.value]
      cases q.limitMode <;> rfl
    · simp only [Params.value]
      cases q.gapPolicy <;> rfl
    · simp only [Params.value]
      cases q.wakeTarget <;> rfl
    · simp only [Params.value]
      cases q.resumePreset <;> rfl
  case some => exact exec_answered h rfl (by decide) rfl (actGet_some hp s.taken)
  case range => exact exec_answered h rfl (by decide) rfl (actGet_range hp s.taken)

open Sys2Proof Sys2Proof.Machine in
/-- Settles O33: the request of such a frame is UNKNOWN_KIND or MALFORMED, which is counted and answered. -/
theorem unknownAndMalformedDirectivesAreAnswered : Obligations.UnknownAndMalformedDirectivesAreAnswered := by
  unfold Obligations.UnknownAndMalformedDirectivesAreAnswered
  refine fun s tag kind ops h hl => ⟨fun hk => ?unknown, fun hm => ?malformed⟩
  case unknown => exact exec_frame_answered h hl (decodeRequest_unknownKind hk ops) rfl rfl
  case malformed =>
    have malformed : decodeRequest kind ops = .malformed := by
      rcases hm with ⟨n, hn, hne⟩ | ⟨rfl, short⟩
      · exact decodeRequest_wants hn ops hne
      · exact tableWriteOperands_short short
    exact exec_frame_answered h hl malformed rfl rfl

open Sys2Proof Sys2Proof.Machine in
/-- Settles O35: scope FULL sets the reset wait and is answered as it acts; a code of no scope is refused. -/
theorem fullResetWaitsForItsReply : Obligations.FullResetWaitsForItsReply := by
  unfold Obligations.FullResetWaitsForItsReply
  refine ⟨fun s tag h => exec_answered h (r := .reset 1) rfl (by decide) rfl rfl, fun s tag scope h hs => ?_⟩
  have answeredAtOnce : (Request.reset scope).answeredAfter = false := by
    simp [Request.answeredAfter, resetScope?_none hs]
  exact exec_frame_answered h (by simp) rfl answeredAtOnce (actReset_range hs s.taken)
end

section
/-! The admission of directive frames (R170, R173), and the frame of each kind as that kind's command (Table 11-3; log
2). -/

namespace Sys2Proof.Machine

/-! ## The taking check (R172, R173) -/

theorem usedPlaces_ite (s : State) :
    s.usedPlaces = s.processor.replies.length + (if s.tables.commit = none then 0 else 1) := by
  rw [usedPlaces_eq]
  cases s.tables.commit <;> rfl

theorem hasFreePlace_iff (s : State) : s.hasFreePlace = true ↔ s.usedPlaces < 8 := decide_eq_true_iff

theorem canTake_iff (s : State) : s.canTake = true ↔ s.processor.queue ≠ [] ∧ s.processor.pacing = none ∧
    s.usedPlaces < 8 ∧ s.processor.resetWait = false := by
  simp [State.canTake, hasFreePlace_iff, and_assoc]

/-- R172: where none can be taken, a waiting directive is one that an unanswered directive, a full reply list or the
reset wait holds back. -/
theorem canTake_false_iff (s : State) : s.canTake = false ↔ s.processor.queue = [] ∨ s.processor.pacing.isSome = true ∨
    8 ≤ s.usedPlaces ∨ s.processor.resetWait = true := by
  rw [← Bool.not_eq_true, canTake_iff, Option.isSome_iff_ne_none, ← Nat.not_lt, ← Bool.not_eq_false]
  tauto

/-! ## A TABLE_WRITE in bytes (Table 11-3) -/

theorem half_halfBytes (w : Half) : half (w.extractLsb' 8 8) (w.extractLsb' 0 8) = w := by
  refine BitVec.eq_of_toNat_eq ?_
  have bound := w.isLt
  simp only [half, BitVec.toNat_append, BitVec.extractLsb'_toNat, Nat.shiftRight_zero]
  rw [← Nat.shiftLeft_add_eq_or_of_lt (Nat.mod_lt _ (by decide)), Nat.shiftLeft_eq, Nat.shiftRight_eq_div_pow]
  omega

theorem halves_halfBytes (values : List Half) : halves (values.flatMap halfBytes) = values := by
  induction values with
  | nil => rfl
  | cons w rest ih =>
    change half _ _ :: halves (rest.flatMap halfBytes) = w :: rest
    rw [ih, half_halfBytes]

theorem halfBytes_length (values : List Half) : (values.flatMap halfBytes).length = 2 * values.length := by
  induction values with
  | nil => rfl
  | cons w rest ih =>
    rw [List.flatMap_cons, List.length_append, ih, List.length_cons]
    change 2 + _ = _
    omega

/-- R73: the frame of a TABLE_WRITE is that command. -/
theorem exec_frame_tableWrite (u t a b c d : Byte) (values : List Half) (s : State) :
    exec (.directiveFrame u t 12 (a :: b :: c :: d :: values.flatMap halfBytes)) s =
      exec (.tableWrite u t (a ++ b) c d values) s := by
  have request : decodeRequest 12 (a :: b :: c :: d :: values.flatMap halfBytes) =
      tableWriteRequest (a ++ b) c d (2 * values.length) values := by
    change tableWriteRequest (half a b) c d (values.flatMap halfBytes).length (halves (values.flatMap halfBytes)) = _
    rw [halfBytes_length, halves_halfBytes]
    rfl
  have length : 7 + (a :: b :: c :: d :: values.flatMap halfBytes).length = 11 + 2 * values.length := by
    simp only [List.length_cons, halfBytes_length]
    omega
  change whileReleased s (directiveArrives u t 12 (7 + (a :: b :: c :: d :: values.flatMap halfBytes).length)
    (decodeRequest 12 (a :: b :: c :: d :: values.flatMap halfBytes))) = _
  rw [request, length]
  rfl

/-! ## Admission (R170) -/

/-- R172, R192: a step's end does nothing while the transmitter is busy and no directive can be taken. -/
theorem settle_held {u : State} (hb : u.notices.transmitter.isSome = true) (hc : u.canTake = false) : settle u = u := by
  unfold settle
  rw [offer_rest u (.inl hb)]
  exact takeAll_blocked u hc

section
variable {s : State} {unit tag kind : Byte} {ops : List Byte}

/-- R170, R194: what a directive frame of no more than 160 bytes comes to, when it ends with none taken. -/
theorem exec_frame_held (hr : s.rstn = true) (hl : ops.length ≤ 153)
    {u : State} (ha : admission unit ⟨tag, kind, decodeRequest kind ops⟩ s.received = u)
    (hb : u.notices.transmitter.isSome = true) (hc : u.canTake = false) :
    exec (.directiveFrame unit tag kind ops) s = .next u := by
  have fits : ¬Config.frameLimit < 7 + ops.length := by
    simp only [Config.frameLimit]
    omega
  change whileReleased s (directiveArrives unit tag kind (7 + ops.length) (decodeRequest kind ops)) = _
  rw [whileReleased_high hr, directiveArrives, receiveM, if_neg fits]
  change Host.Outcome.next (settle (admission unit _ s.received)) = _
  rw [ha, settle_held hb hc]

variable {d : Directive}

/-- R170, 1: a frame of another unit. -/
theorem admission_wrongUnit (h : unit ≠ s.unitByte) : admission unit d s.received =
    s.received.setProcessor { s.processor with
      counters := { s.processor.counters with wrongUnit := bump s.processor.counters.wrongUnit } } := if_pos h

/-- R170: a queue with room. -/
theorem admission_queued (h : s.processor.queue.length < 4) : admission s.unitByte d s.received =
    s.received.setProcessor { s.processor with queue := s.processor.queue ++ [d] } :=
  (if_neg (not_not.mpr rfl)).trans (if_pos h)

/-- R170, R173: a full queue beside a free place. -/
theorem admission_queueFull (h : 4 ≤ s.processor.queue.length) (hp : s.usedPlaces < 8) :
    admission s.unitByte d s.received = s.received.setProcessor { s.processor with
      replies := s.processor.replies ++ [⟨s.straps.unit, d.tag, d.kind, .queueFull, .empty⟩]
      counters := { s.processor.counters with queueFull := bump s.processor.counters.queueFull } } :=
  (if_neg (not_not.mpr rfl)).trans ((if_neg (Nat.not_lt.mpr h)).trans (if_pos (decide_eq_true hp)))

/-- R170, R173: a full queue beside a full list. -/
theorem admission_discarded (h : 4 ≤ s.processor.queue.length) (hp : 8 ≤ s.usedPlaces) :
    admission s.unitByte d s.received = s.received.setProcessor { s.processor with
      counters := { s.processor.counters with discarded := bump s.processor.counters.discarded } } :=
  (if_neg (not_not.mpr rfl)).trans ((if_neg (Nat.not_lt.mpr h)).trans
    (if_neg fun free => absurd (of_decide_eq_true free) (Nat.not_lt.mpr hp)))

end

end Sys2Proof.Machine

open Sys2Proof Sys2Proof.Machine in
/-- Settles O32: the taking check, the frame of each kind, the directive taken at once, and the four cases of admission
with the transmitter busy and none to be taken. -/
theorem directiveFrameIsAdmitted : Obligations.DirectiveFrameIsAdmitted := by
  unfold Obligations.DirectiveFrameIsAdmitted
  refine ⟨fun s => ⟨canTake_iff s, usedPlaces_ite s⟩, fun s u t a b c d e f g => ⟨rfl, rfl, rfl, rfl, rfl, rfl, rfl,
    rfl,
    rfl, rfl, rfl, rfl, rfl, rfl, rfl, rfl, rfl, rfl, rfl, rfl, rfl, rfl, rfl, rfl, rfl, fun values =>
      exec_frame_tableWrite u t a b c d values s⟩, fun s v tag kind ops h hl => ⟨fun ha => ?deferred,
      fun code data ha hk => ?taken⟩,
    fun s unit tag kind ops hr hl hc hb => ⟨fun hu => ?wrongUnit, ?queueFull, ?discarded, ?waits⟩⟩
  case deferred =>
    have length : 7 + ops.length ≤ Config.frameLimit := by
      simp only [Config.frameLimit]
      omega
    change whileReleased s (directiveArrives s.unitByte tag kind (7 + ops.length) (decodeRequest kind ops)) = _
    rw [whileReleased_high h.high, directive_deferred s tag kind _ _ v h length ha]
  case taken => exact exec_frame_answered h hl rfl (decodeRequest_answeredAfter kind ops hk) ha
  case wrongUnit => exact exec_frame_held hr hl (admission_wrongUnit hu) hb hc
  case queueFull =>
    rintro rfl full free
    refine exec_frame_held hr hl (admission_queueFull full free) hb ?_
    have held := (canTake_false_iff s).mp hc
    have waiting : s.processor.queue ≠ [] := fun e => by simp [e] at full
    refine (canTake_false_iff _).mpr (.inr ?_)
    rcases (held.resolve_left waiting) with pacing | places | wait
    · exact .inl pacing
    · exact absurd free (Nat.not_lt.mpr places)
    · exact .inr (.inr wait)
  case discarded =>
    rintro rfl full places
    exact exec_frame_held hr hl (admission_discarded full places) hb hc
  case waits =>
    rintro rfl room pacing
    exact exec_frame_held hr hl (admission_queued room) hb ((canTake_false_iff _).mpr (.inr (.inl pacing)))
end

section
/-! A transmit completion at the M port (R173, R186, R192): what is offered, which frame begins, and the directive taken
as the pacing reply begins (R172). -/

namespace Sys2Proof.Machine

/-! ## What is offered (R189, R192; log 13) -/

theorem Offered.isEmpty_iff_eq (o : Offered) : o.isEmpty = true ↔ o = ⟨false, []⟩ := by
  rw [Offered.isEmpty_iff]
  exact ⟨fun ⟨hr, hn⟩ => congr (congrArg Offered.mk hr) hn, fun h => by rw [h]; exact ⟨rfl, rfl⟩⟩

theorem available_eq (s : State) : s.available = ⟨decide (s.processor.replies ≠ []), s.eligible⟩ := by
  unfold State.available
  cases s.processor.replies <;> rfl

theorem stillAvailable_eq (s : State) (o : Offered) : s.stillAvailable o =
    ⟨o.reply && s.available.reply, o.notices.filter fun n => decide (n ∈ s.eligible)⟩ := by
  unfold State.stillAvailable
  simp only [List.contains_eq_mem]

theorem candidates_unoffered {s : State} (h : s.notices.front = none) : s.candidates = s.available := by
  unfold State.candidates
  rw [h]

theorem candidates_offered {s : State} {o : Offered} (h : s.notices.front = some o) : s.candidates =
    if s.stillAvailable o = ⟨false, []⟩ then s.available else s.stillAvailable o := by
  unfold State.candidates
  rw [h]
  by_cases he : s.stillAvailable o = ⟨false, []⟩
  · rw [if_pos he]
    exact if_pos ((Offered.isEmpty_iff_eq _).mpr he)
  · rw [if_neg he]
    exact if_neg fun k => he ((Offered.isEmpty_iff_eq _).mp k)

theorem moment_first {s : State} (ht : s.notices.transmitter = none) (hf : s.notices.front = none)
    (ha : s.available ≠ ⟨false, []⟩) : moment s = s.setNotices { s.notices with front := some s.available } := by
  have offered : s.available.isEmpty = false := by
    rw [← Bool.not_eq_true, Offered.isEmpty_iff_eq]
    exact ha
  unfold moment
  exact if_pos (by simp [ht, hf, offered])

theorem moment_later {s : State} (h : s.notices.transmitter ≠ none ∨ s.notices.front ≠ none ∨
    s.available = ⟨false, []⟩) : moment s = s := by
  unfold moment
  refine if_neg fun first => ?_
  simp only [Bool.and_eq_true, Option.isNone_iff_eq_none, Bool.not_eq_true'] at first
  obtain ⟨⟨ht, hf⟩, ha⟩ := first
  rcases h with h | h | h
  · exact h ht
  · exact h hf
  · rw [(Offered.isEmpty_iff_eq _).mpr h] at ha
    cases ha

theorem mem_eligible_iff (s : State) (n : NoticeSource) : n ∈ s.eligible ↔
    (s.notices.records.get n).status = true ∧ (s.notices.records.get n).enable = true ∧
      s.params.noticeMask ≤ (s.notices.records.get n).level ∧ (s.notices.records.get n).sent = false := by
  rw [mem_eligible]
  simp [NoticeRec.eligible, and_assoc]

/-! ## The best source (R192, 2) -/

/-- Of sources in the order of their numbers, the best has the highest level, and among equals the lowest number. -/
theorem bestNotice_best (s : State) : ∀ {l : List NoticeSource} {n : NoticeSource},
    l.Pairwise (fun a b => a.number < b.number) → s.bestNotice l = some n → ∀ m ∈ l,
      (s.notices.records.get m).level ≤ (s.notices.records.get n).level ∧
      ((s.notices.records.get m).level = (s.notices.records.get n).level → n.number ≤ m.number)
  | [], _, _, h => by cases h
  | a :: rest, n, hp, h => by
    obtain ⟨first, ordered⟩ := List.pairwise_cons.mp hp
    unfold State.bestNotice at h
    split at h
    · next unchosen =>
      have last : rest = [] := by
        by_contra hne
        obtain ⟨x, hx⟩ := bestNotice_isSome s rest hne
        rw [hx] at unchosen
        cases unchosen
      cases h
      intro m hm
      rw [last, List.mem_singleton] at hm
      exact ⟨hm ▸ le_rfl, fun _ => hm ▸ le_rfl⟩
    · next b hb =>
      have best := bestNotice_best s ordered hb
      split at h
      · next higher =>
        cases h
        intro m hm
        rcases List.mem_cons.mp hm with rfl | hm
        · exact ⟨higher.le, fun e => absurd e higher.ne⟩
        · exact best m hm
      · next lower =>
        cases h
        intro m hm
        rcases List.mem_cons.mp hm with rfl | hm
        · exact ⟨le_rfl, fun _ => le_rfl⟩
        · exact ⟨(best m hm).1.trans (Nat.not_lt.mp lower), fun _ => (first m hm).le⟩

theorem eligible_ordered (s : State) : s.eligible.Pairwise (fun a b => a.number < b.number) :=
  List.Pairwise.filter _ (by decide : NoticeSource.all.Pairwise fun a b => a.number < b.number)

/-! ## The beginning of a frame (R173, R191) -/

theorem nextPacing_eq (p : Option Nat) : nextPacing p = if p = some 0 then none else p.map fun k => k - 1 := by
  rcases p with _ | _ | k <;> rfl

theorem beginReply_cons {s : State} {r : Reply} {rest : List Reply} (h : s.processor.replies = r :: rest) :
    beginReply s = (s.setProcessor { s.processor with
      replies := rest, pacing := nextPacing s.processor.pacing }).setNotices
        { s.notices with transmitter := some (.reply r), front := none } := by
  unfold beginReply
  rw [h]

/-! ## The M transmitter busy -/

/-- The M transmitter sends a frame, so that nothing is offered to it. -/
structure StationBusy (f : MFrame) (s : State) : Prop where
  transmitter : s.notices.transmitter = some f
  front : s.notices.front = none

/-- R192: inside a block no frame begins or ends, and nothing is offered to a busy transmitter. -/
theorem stationBusy_kept (f : MFrame) : StationKept (StationBusy f) where
  of_station h e := by
    have notices := congrArg StationPart.notices e
    exact ⟨(congrArg NoticeUnit.transmitter notices).trans h.transmitter,
      (congrArg NoticeUnit.front notices).trans h.front⟩
  raise _ h := ⟨h.transmitter, h.front⟩
  moment h := by rwa [moment_later (.inl (by simp [h.transmitter]))]
  complete c g h := ⟨by rw [completeCommit_notices, h.transmitter], by rw [completeCommit_notices, h.front]⟩
  abort h := ⟨by rw [abortCommit_notices, h.transmitter], by rw [abortCommit_notices, h.front]⟩
  noticeSet _ _ _ h := by
    unfold actNoticeSet
    split <;> exact ⟨h.transmitter, h.front⟩
  noticeClear _ h := by
    unfold actNoticeClear
    split <;> exact ⟨h.transmitter, h.front⟩

theorem Settled.eq_of_busy {u t : State} (h : Settled u t) (hb : u.notices.transmitter.isSome = true) : t = u := by
  cases h with
  | busy _ => rfl
  | nothing _ _ => rfl
  | reply k ht _ => rw [ht] at hb; cases hb
  | notice k n ht _ => rw [ht] at hb; cases hb

theorem offerReply_unoffered {s : State} (h : s.notices.front = none) : s.offerReply = s := by
  unfold State.offerReply
  rw [h, Option.map_none, ← h]
  rfl

/-- R172: a reply created while the transmitter is busy only joins the list. -/
theorem StationBusy.replyTo {f : MFrame} {v : State} (h : StationBusy f v) (d : Directive) (code : ResultCode)
    (data : ReplyData) : replyTo d code data v = v.replied d.tag d.kind code data := by
  have unoffered : v.replied d.tag d.kind code data = v.answered d.tag d.kind code data := offerReply_unoffered h.front
  have settled := replyTo_settled d code data v
  rw [unoffered, ite_self] at settled
  rw [unoffered]
  exact settled.eq_of_busy (by
    change v.notices.transmitter.isSome = true
    rw [h.transmitter]
    rfl)

theorem takeLoop_blocked (n : Nat) {s : State} (h : s.canTake = false) : takeLoop n s = s := by
  cases n <;> simp [takeLoop, h]

/-- R172, R173: while the transmitter is busy one directive is taken, whose reply paces the others. -/
theorem takeAll_one {f : MFrame} {w v : State} {d : Directive} {q : List Directive} {code : ResultCode}
    {data : ReplyData} (hb : StationBusy f w) (hc : w.canTake = true) (hq : w.processor.queue = d :: q)
    (ha : act d (w.setProcessor { w.processor with
      queue := q, counters := { w.processor.counters with taken := bump w.processor.counters.taken } }) =
        (v, some (code, data))) : takeAll w = v.replied d.tag d.kind code data := by
  have busy : StationBusy f v := by
    have acted := (stationBusy_kept f).act (s := w.setProcessor { w.processor with
      queue := q, counters := { w.processor.counters with taken := bump w.processor.counters.taken } }) d
      ⟨hb.transmitter, hb.front⟩ (by rw [ha]; rfl)
    rwa [ha] at acted
  have paced : (v.replied d.tag d.kind code data).canTake = false := (canTake_false_iff _).mpr (.inr (.inl rfl))
  have head : takeHead w = v.replied d.tag d.kind code data := by
    unfold takeHead
    rw [hq]
    dsimp only
    rw [ha]
    exact busy.replyTo d code data
  unfold takeAll
  rw [hq, List.length_cons, takeLoop, if_pos hc, head, takeLoop_blocked _ paced]

/-! ## The completion (R186, R192) -/

/-- The state at a transmit completion, before the arbiter chooses. -/
def State.completedM (s : State) : State :=
  (s.setNotices { s.notices with transmitter := none }).countM fun c => { c with sent := bump c.sent }

theorem awaitedReply_iff (s : State) (r : Reply) : awaitedReply s (.reply r) = true ↔
    s.processor.resetWait = true ∧ r.result = .done ∧ r.data = .reset .full := by
  simp [awaitedReply, and_assoc]

section
variable {s : State} {f : MFrame} (hr : s.rstn = true) (ht : s.notices.transmitter = some f)
include hr ht

theorem exec_completion_reset (ha : awaitedReply s f = true) :
    exec .mTransmitCompletion s = .next (State.powerOn s.straps true s.pending s.freeCount) := by
  have completes : completeM s = fullReset s.completedM := by
    unfold completeM
    rw [ht]
    exact if_pos ha
  have reset : fullReset s.completedM = State.powerOn s.straps true s.pending s.freeCount := by
    rw [← hr]
    rfl
  exact (whileReleased_high hr completeM).trans (by rw [completes, reset])

theorem exec_completion (ha : awaitedReply s f = false) :
    exec .mTransmitCompletion s = .next (takeAll (chooseNext s.completedM)) := by
  have completes : completeM s = takeAll (chooseNext s.completedM) := by
    unfold completeM
    rw [ht]
    exact if_neg (by rw [ha]; exact Bool.false_ne_true)
  exact (whileReleased_high hr completeM).trans (by rw [completes])

end

theorem completedM_snapshot (s : State) (n : NoticeSource) : s.completedM.snapshot n = s.snapshot n := by
  cases n <;> rfl

/-- R173, R192, 1. -/
theorem chooseNext_reply {s : State} {r : Reply} {rest : List Reply} (h : s.processor.replies = r :: rest) :
    chooseNext s.completedM = beginReply s.completedM := by
  rw [chooseNext_idle rfl, if_neg]
  change s.processor.replies ≠ []
  rw [h]
  exact List.cons_ne_nil r rest

/-- R192, 2. -/
theorem chooseNext_notice {s : State} (h : s.processor.replies = []) :
    chooseNext s.completedM = (s.completedM.bestNotice s.eligible).elim s.completedM fun n =>
      beginNotice n s.completedM := by
  rw [chooseNext_idle rfl]
  exact if_pos h

/-- What a completion with no directive waiting comes to: the oldest reply begins, otherwise the best eligible source,
its sent flag set and its snapshot taken, otherwise nothing. -/
structure NextFrame (s t : State) : Prop where
  sent : t.ports.m.sent = bump s.ports.m.sent
  control : t.control = s.control
  tables : t.tables = s.tables
  params : t.params = s.params
  reply : ∀ r rest, s.processor.replies = r :: rest → t.notices.transmitter = some (.reply r) ∧
    t.processor.replies = rest ∧ t.notices.records = s.notices.records
  idle : s.processor.replies = [] → s.eligible = [] →
    t.notices.transmitter = none ∧ t.notices.records = s.notices.records
  notice : s.processor.replies = [] → s.eligible ≠ [] → ∃ n ∈ s.eligible,
    t.notices.transmitter = some (.notice ⟨s.straps.unit, n, (s.notices.records.get n).level, s.snapshot n⟩) ∧
    t.notices.records = s.notices.records.set n { s.notices.records.get n with sent := true } ∧
    ∀ m ∈ s.eligible, (s.notices.records.get m).level ≤ (s.notices.records.get n).level ∧
      ((s.notices.records.get m).level = (s.notices.records.get n).level → n.number ≤ m.number)

/-- R192: the arbiter's choice at a completion. -/
theorem nextFrame_chooseNext (s : State) : NextFrame s (chooseNext s.completedM) := by
  rcases hr : s.processor.replies with _ | ⟨r, rest⟩
  · have noReply : ∀ r rest, s.processor.replies ≠ r :: rest := by simp [hr]
    rw [chooseNext_notice hr]
    rcases hb : s.completedM.bestNotice s.eligible with _ | n
    · have nothing : s.eligible = [] := by
        by_contra hne
        obtain ⟨n, hn⟩ := bestNotice_isSome s.completedM _ hne
        rw [hb] at hn
        cases hn
      exact ⟨rfl, rfl, rfl, rfl, fun r rest h => absurd h (noReply r rest), fun _ _ => ⟨rfl, rfl⟩,
        fun _ hne => absurd nothing hne⟩
    · have mem := bestNotice_mem _ _ n hb
      refine ⟨rfl, rfl, rfl, rfl, fun r rest h => absurd h (noReply r rest), fun _ he => absurd he
        (List.ne_nil_of_mem mem),
        fun _ _ => ⟨n, mem, ?_, rfl, bestNotice_best s.completedM (eligible_ordered s) hb⟩⟩
      rw [← completedM_snapshot]
      rfl
  · have held : s.processor.replies ≠ [] := by simp [hr]
    rw [chooseNext_reply hr, beginReply_cons (s := s.completedM) hr]
    refine ⟨rfl, rfl, rfl, rfl, fun r' rest' h => ?_, fun h => absurd h held, fun h => absurd h held⟩
    cases hr.symm.trans h
    exact ⟨rfl, rfl, rfl⟩

/-- The state at a transmit completion with a reply's transmission begun, the reply not yet out of the list. -/
def State.replyBegun (s : State) (r : Reply) : State :=
  (s.countM fun c => { c with sent := bump c.sent }).setNotices
    { s.notices with transmitter := some (.reply r), front := none }

/-- R173: at a completion the oldest reply leaves the list. -/
theorem chooseNext_replyBegun {s : State} {r : Reply} {rest : List Reply} (h : s.processor.replies = r :: rest) :
    chooseNext s.completedM =
      (s.replyBegun r).setProcessor { s.processor with replies := rest, pacing := nextPacing s.processor.pacing } := by
  rw [chooseNext_reply h, beginReply_cons (s := s.completedM) h]
  rfl

theorem nextPacing_first {p : Option Nat} (h : p = some 0 ∨ p = none) : nextPacing p = none := by
  rcases h with rfl | rfl <;> rfl

/-- R173: the place that the oldest reply leaves. -/
theorem usedPlaces_replyBegun {s : State} {r : Reply} {rest : List Reply} (h : s.processor.replies = r :: rest)
    (places : s.usedPlaces ≤ 8) (p : Option Nat) :
    ((s.replyBegun r).setProcessor { s.processor with replies := rest, pacing := p }).usedPlaces < 8 := by
  have commit : (s.replyBegun r).tables.commit = s.tables.commit := rfl
  rw [usedPlaces_eq, h, List.length_cons] at places
  rw [usedPlaces_eq, State.setProcessor_processor, State.setProcessor_tables, commit]
  exact Nat.lt_of_lt_of_le (by simp only; omega) places

end Sys2Proof.Machine

open Sys2Proof Sys2Proof.Machine in
/-- Settles O36: what is offered and what beginning a frame does, which frame begins at a completion, and the directive
that is taken as the pacing reply begins. -/
theorem transmitCompletionChoosesNext : Obligations.TransmitCompletionChoosesNext := by
  unfold Obligations.TransmitCompletionChoosesNext
  refine ⟨fun s r rest h => ?begins, fun s n => rfl, fun s now hnow => ?offered, fun s n r hr => ?eligible, rfl, rfl,
    fun s => ⟨fun _ => rfl, awaitedReply_iff s⟩, fun s => ?snapshots, fun s f h ht => ⟨fun ha => ?reset, fun ha =>
    ?next⟩,
    fun s f r rest hr ht ha hreplies u hu => ?replies⟩
  case begins => rw [beginReply_cons h, nextPacing_eq]
  case offered =>
    rw [← available_eq] at hnow
    subst hnow
    refine ⟨candidates_unoffered, fun o old ho hold => ?_, moment_first, moment_later, rfl⟩
    rw [hold, ← stillAvailable_eq]
    exact candidates_offered ho
  case eligible =>
    rw [hr]
    exact mem_eligible_iff s n
  case snapshots =>
    exact ⟨rfl, rfl, ⟨_, rfl, PerBranch.get_ofFn _⟩, rfl, ⟨_, rfl, Four.get_ofFn _⟩, rfl,
      ⟨_, _, rfl, fun n => ⟨Four.get_ofFn _ n, Four.get_ofFn _ n⟩⟩, ⟨_, rfl, Four.get_ofFn _⟩, rfl,
      ⟨_, rfl, Four.get_ofFn _⟩, rfl, ⟨_, rfl, PerBranch.get_ofFn _⟩⟩
  case reset => exact exec_completion_reset h.high ht ha
  case next =>
    have completes := exec_completion h.high ht ha
    have queue : (chooseNext s.completedM).processor.queue = [] := (chooseNext_queue _).trans h.queue
    rw [takeAll_empty _ queue] at completes
    obtain ⟨sent, control, tables, params, reply, idle, notice⟩ := nextFrame_chooseNext s
    exact ⟨_, completes, sent, control, tables, params, reply, idle, notice⟩
  case replies =>
    obtain rfl : u = s.replyBegun r := hu
    rw [exec_completion hr ht ha, chooseNext_replyBegun hreplies]
    refine ⟨fun k hk => ?behind, fun hp => ⟨fun hn => ?untaken, fun d q v code data hq hw places acts => ?taken⟩⟩
    case behind =>
      rw [hk]
      exact congrArg _ (takeAll_blocked _ ((canTake_false_iff _).mpr (.inr (.inl rfl))))
    case untaken =>
      rw [nextPacing_first hp]
      refine congrArg _ (takeAll_blocked _ ((canTake_false_iff _).mpr ?_))
      exact hn.elim .inl fun wait => .inr (.inr (.inr wait))
    case taken =>
      have waiting : s.processor.queue ≠ [] := hq ▸ List.cons_ne_nil d q
      rw [nextPacing_first hp]
      exact congrArg _ (takeAll_one (f := .reply r) ⟨rfl, rfl⟩
        ((canTake_iff _).mpr ⟨waiting, rfl, usedPlaces_replyBegun hreplies places none, hw⟩) hq acts)
end

section
/-! NOTICE_SET and NOTICE_CLEAR (R189, R190). -/

namespace Sys2Proof.Machine

/-! ## NOTICE_SET (R189) -/

/-- Table 10-2 ends at source 11. -/
theorem noticeSource?_none {b : Byte} (h : 11 < b.toNat) : noticeSource? b = none :=
  List.getElem?_eq_none h

theorem actNoticeSet_taken {s : State} {source enable level : Byte} {n : NoticeSource} {e : Bool}
    (hn : noticeSource? source = some n) (he : flag? enable = some e) (hl : level.toNat ≤ 1) :
    actNoticeSet source enable level s =
      (s.setNotices { s.notices with
        records := s.notices.records.set n
          { s.notices.records.get n with enable := e, level := level.toNat } }).done
        (.noticeSet { s.notices.records.get n with enable := e, level := level.toNat }) := by
  unfold actNoticeSet
  rw [hn, he, within?_some (Nat.zero_le _) hl]

/-- R189: an operand outside its list or range. -/
theorem actNoticeSet_range {source enable level : Byte}
    (h : 11 < source.toNat ∨ 1 < enable.toNat ∨ 1 < level.toNat) (s : State) :
    actNoticeSet source enable level s = s.refuse .range := by
  unfold actNoticeSet
  rcases h with h | h | h
  · rw [noticeSource?_none h]
  · rw [flag?_none h]
    cases noticeSource? source <;> rfl
  · rw [within?_none (.inr h)]
    cases noticeSource? source <;> cases flag? enable <;> rfl

/-! ## NOTICE_CLEAR (R190) -/

/-- The notice records after a clear of the sources named. -/
def PerNotice.cleared (records : PerNotice NoticeRec) (sources : Half) : PerNotice NoticeRec :=
  .ofFn fun n => if sources.getLsbD n.number then (records.get n).clear else records.get n

/-- The sources named whose status is set. -/
def PerNotice.namedSet (records : PerNotice NoticeRec) (sources : Half) : PerNotice Bool :=
  .ofFn fun n => sources.getLsbD n.number && (records.get n).status

theorem PerNotice.get_cleared (records : PerNotice NoticeRec) (sources : Half) (n : NoticeSource) :
    (records.cleared sources).get n = if sources.getLsbD n.number then
      { records.get n with status := false, sent := false } else records.get n :=
  PerNotice.get_ofFn _ n

theorem PerNotice.get_namedSet (records : PerNotice NoticeRec) (sources : Half) (n : NoticeSource) :
    (records.namedSet sources).get n = (sources.getLsbD n.number && (records.get n).status) :=
  PerNotice.get_ofFn _ n

theorem actNoticeClear_taken {sources : Half} (h : sources.toNat < 4096) (s : State) :
    actNoticeClear sources s =
      (s.setNotices { s.notices with records := s.notices.records.cleared sources }).done
        (.noticeClear (s.notices.records.namedSet sources)) :=
  if_neg (Nat.not_le.mpr h)

/-- R190: a set that names a source above 11. -/
theorem actNoticeClear_range {sources : Half} (h : 4096 ≤ sources.toNat) (s : State) :
    actNoticeClear sources s = s.refuse .range :=
  if_pos h

end Sys2Proof.Machine

open Sys2Proof Sys2Proof.Machine in
/-- Settles O30: the record written for operands within their ranges, RANGE for an operand outside. -/
theorem noticeSetWritesEnableAndLevel : Obligations.NoticeSetWritesEnableAndLevel := by
  unfold Obligations.NoticeSetWritesEnableAndLevel
  refine fun s tag source enable level h => ⟨fun n e hn he hl => ?written, fun hr => ?range⟩
  case written => exact exec_answered h rfl (by decide) rfl (actNoticeSet_taken (s := s.taken) hn he hl)
  case range => exact exec_answered h rfl (by decide) rfl (actNoticeSet_range hr s.taken)

open Sys2Proof Sys2Proof.Machine in
/-- Settles O31: the records after the clear and the sources answered, source by source. -/
theorem noticeClearClearsNamedSources : Obligations.NoticeClearClearsNamedSources := by
  unfold Obligations.NoticeClearClearsNamedSources
  refine fun s tag sources h => ⟨fun hs => ?cleared, fun hr => ?range⟩
  case cleared =>
    obtain ⟨t, ht, settled⟩ := exec_answered (i := .noticeClear s.unitByte tag sources) h rfl (by decide) rfl
      (actNoticeClear_taken hs s.taken)
    exact ⟨t, _, _, ht, settled, rfl, PerNotice.get_namedSet _ sources, PerNotice.get_cleared _ sources⟩
  case range => exact exec_answered h rfl (by decide) rfl (actNoticeClear_range hr s.taken)
end

section
/-! The reset line (R197): a low line lets no other command act (log 5). -/

namespace Sys2Proof.Machine

theorem execRstnRelease_low {s : State} (h : s.rstn = false) (fsel : Bool) (unit : BitVec 4) (boot : Bool) :
    execRstnRelease fsel unit boot s = .next (State.powerOn (strapsOf fsel unit boot) true s.pending s.freeCount) := by
  simp [execRstnRelease, h]

theorem execRstnRelease_high {s : State} (h : s.rstn = true) (fsel : Bool) (unit : BitVec 4) (boot : Bool) :
    execRstnRelease fsel unit boot s = .next s :=
  if_pos h

/-- The strap BOOT gives the mode (R156, Table 11-7). -/
theorem strapsOf_boot_mode (fsel : Bool) (unit : BitVec 4) (boot : Bool) :
    (strapsOf fsel unit boot).boot.mode = if boot then .quiescent else .park := by
  cases boot <;> rfl

/-- Every command but the two of the reset line is the low branch of whileReleased. -/
theorem exec_low {s : State} (h : s.rstn = false) {c : Instr} (hc : c ≠ .powerOnReset)
    (hr : ∀ fsel unit boot, c ≠ .rstnRelease fsel unit boot) : exec c s = .next s := by
  have low : ¬s.rstn = true := by simp [h]
  cases c with
  | powerOnReset => exact absurd rfl hc
  | rstnRelease fsel unit boot => exact absurd rfl (hr fsel unit boot)
  | _ => exact if_neg low

end Sys2Proof.Machine

open Sys2Proof Sys2Proof.Machine in
/-- Settles O3: an assertion, a return of a low line and of a high one, and what a low line holds back. -/
theorem resetLineResetsAndLatchesStraps : Obligations.ResetLineResetsAndLatchesStraps := by
  unfold Obligations.ResetLineResetsAndLatchesStraps
  refine ⟨fun s => rfl, fun s fsel unit boot h => ?returns, fun s fsel unit boot h => execRstnRelease_high h _ _ _,
    fun s c h hc hr => exec_low h hc hr⟩
  case returns =>
    exact ⟨_, execRstnRelease_low h fsel unit boot, rfl, rfl, rfl, rfl, rfl, strapsOf_boot_mode fsel unit boot, rfl⟩
end

section
/-! Frames as bytes (section 11): codes of names (R196), the check code (R195), the layouts of frames (Tables 11-2 to
11-5), and the checks of a received frame (R194). -/

namespace Sys2Proof.Machine

/-! ## Codes of names (R196) -/

/-- One code split off: the function's value there, and what the remaining codes give elsewhere. -/
theorem eq_ite_code {α : Type} {f : Byte → Option α} {b k : Byte} {x r : Option α} (hk : f k = x)
    (hr : b ≠ k → f b = r) : f b = if b = k then x else r := by
  split
  · next h => rw [h, hk]
  · next h => exact hr h

theorem tableBank?_none {b : Byte} (h : 1 < b.toNat) : tableBank? b = none := by
  unfold tableBank?
  split
  case h_3 => rfl
  all_goals omega

theorem captureMode?_none {b : Byte} (h : 2 < b.toNat) : captureMode? b = none := by
  unfold captureMode?
  split
  case h_4 => rfl
  all_goals omega

theorem eq_two_codes {α : Type} (f : Byte → Option α) {x y : α} (h0 : f 0 = some x) (h1 : f 1 = some y)
    (out : ∀ {b : Byte}, 1 < b.toNat → f b = none) (b : Byte) :
    f b = if b = 0 then some x else if b = 1 then some y else none :=
  eq_ite_code h0 fun n0 => eq_ite_code h1 fun n1 => out (by bv_omega)

theorem eq_three_codes {α : Type} (f : Byte → Option α) {x y z : α} (h0 : f 0 = some x) (h1 : f 1 = some y)
    (h2 : f 2 = some z) (out : ∀ {b : Byte}, 2 < b.toNat → f b = none) (b : Byte) :
    f b = if b = 0 then some x else if b = 1 then some y else if b = 2 then some z else none :=
  eq_ite_code h0 fun n0 => eq_ite_code h1 fun n1 => eq_ite_code h2 fun n2 => out (by bv_omega)

theorem index4?_codes (b : Byte) : index4? b = if b = 0 then some .i0 else if b = 1 then some .i1 else
    if b = 2 then some .i2 else if b = 3 then some .i3 else none :=
  eq_ite_code rfl fun n0 => eq_ite_code rfl fun n1 => eq_ite_code rfl fun n2 => eq_ite_code rfl fun n3 =>
    index4?_none (by bv_omega)

/-! ## Flag bytes (R196) -/

theorem flagBit_getLsbD {n : Nat} (hn : n < 8) (b : Bool) (i : Nat) :
    (flagBit n b).getLsbD i = (b && decide (n = i)) := by
  cases b with
  | false => simp [flagBit]
  | true =>
    change (BitVec.ofNat 8 (2 ^ n)).getLsbD i = _
    rw [BitVec.getLsbD_ofNat, Nat.testBit_two_pow]
    by_cases same : n = i
    · simp [← same, hn]
    · simp [same]

/-- The notes under Table 11-5: the bits of the demand flags byte in their order. -/
theorem demandFlags_getLsbD (f : DemandFlags) (i : Nat) : f.byte.getLsbD i = [f.clampHigh, f.clampLow, f.carried,
    f.substituted, f.load2Omitted, f.repeated, f.notFormed].getD i false := by
  simp only [DemandFlags.byte, BitVec.getLsbD_or, flagBit_getLsbD, Nat.reduceLT]
  match i with
  | 0 | 1 | 2 | 3 | 4 | 5 | 6 => simp
  | _ + 7 => simp

/-! ## The check code and two-byte fields (R195, 0.7) -/

theorem crcByte_eq_foldl (r : Half) (b : Byte) :
    crcByte r b = (List.range 8).foldl (fun r _ => crcBit r) (r ^^^ (b.setWidth 16 <<< 8)) := rfl

theorem checkCode_concat (l : List Byte) (b : Byte) : checkCode (l ++ [b]) = crcByte (checkCode l) b :=
  List.foldl_concat crcByte _ b l

theorem halfOf_eq (n : Nat) : halfOf n = [BitVec.ofNat 8 (n / 256), BitVec.ofNat 8 n] := by
  have high : (BitVec.ofNat 16 n).extractLsb' 8 8 = BitVec.ofNat 8 (n / 256) := by
    apply BitVec.eq_of_toNat_eq
    simp only [BitVec.extractLsb'_toNat, BitVec.toNat_ofNat, Nat.shiftRight_eq_div_pow]
    omega
  have low : (BitVec.ofNat 16 n).extractLsb' 0 8 = BitVec.ofNat 8 n := by
    apply BitVec.eq_of_toNat_eq
    simp only [BitVec.extractLsb'_toNat, BitVec.toNat_ofNat, Nat.shiftRight_zero]
    omega
  rw [halfOf, halfBytes, high, low]

theorem halves_length_of_even : ∀ (n : Nat) (l : List Byte), l.length = 2 * n → (halves l).length = n
  | 0, [], _ => rfl
  | n + 1, a :: b :: l, h => by
    have rest : l.length = 2 * n := by
      simp only [List.length_cons] at h
      omega
    rw [halves, List.length_cons, halves_length_of_even n l rest]
  | _ + 1, [], h => by simp at h
  | _ + 1, [_], h => by
    simp only [List.length_singleton] at h
    omega

/-! ## The frames sent (Tables 11-4 and 11-5) -/

theorem order_bytes (o : Order) : (VFrame.order o).bytes = withCheckCode [0xC1, BitVec.ofNat 8 o.branch.code,
    BitVec.ofNat 8 o.polarity.code, o.h, BitVec.ofNat 8 (o.angle / 256), BitVec.ofNat 8 o.angle, o.flags.byte] := by
  rw [VFrame.bytes, halfOf_eq]
  rfl

theorem bank_bytes (n : Index4) (a : BankAction) : (VFrame.bank n a).bytes =
    withCheckCode [0xC2, BitVec.ofNat 8 (Index4.toNat n), BitVec.ofNat 8 a.code] := rfl

theorem reply_bytes (r : Reply) : r.bytes = withCheckCode ([0xB1, r.unit.setWidth 8, r.tag, r.kind,
    BitVec.ofNat 8 r.result.code, BitVec.ofNat 8 r.data.bytes.length] ++ r.data.bytes) := by
  rw [← BitVec.ofNat_toNat]
  rfl

theorem notice_bytes (n : Notice) : n.bytes = withCheckCode ([0xB2, n.unit.setWidth 8, BitVec.ofNat 8 n.source.number,
    BitVec.ofNat 8 n.level, BitVec.ofNat 8 n.snapshot.bytes.length] ++ n.snapshot.bytes) := by
  rw [← BitVec.ofNat_toNat]
  rfl

/-! ## The checks in order (R194) -/

section
variable {p : Port} {b : List Byte}

theorem portVerdict_oversize (h : 160 < b.length) : portVerdict p b = .oversize := if_pos h

theorem portVerdict_checkFailure (hl : b.length ≤ 160)
    (hc : b.length < 3 ∨ b.drop (b.length - 2) ≠ halfBytes (checkCode (b.take (b.length - 2)))) :
    portVerdict p b = .checkFailure := by
  have fails : b.length < 3 ∨ checkCodeHolds b = false := hc.imp_right decide_eq_false
  rw [portVerdict, if_neg (show ¬Config.frameLimit < _ from Nat.not_lt.mpr hl), if_pos fails]

/-- A frame reaches check 3 when its length and its check code pass checks 1 and 2. -/
structure ReachesKind (b : List Byte) : Prop where
  shortest : 3 ≤ b.length
  longest : b.length ≤ 160
  code : b.drop (b.length - 2) = halfBytes (checkCode (b.take (b.length - 2)))

theorem ReachesKind.not_oversize (h : ReachesKind b) : ¬Config.frameLimit < b.length := Nat.not_lt.mpr h.longest

theorem ReachesKind.not_checkFailure (h : ReachesKind b) : ¬(b.length < 3 ∨ checkCodeHolds b = false) := by
  have holds : checkCodeHolds b = true := decide_eq_true h.code
  simp [holds, h.shortest]

theorem ReachesKind.unknownKind (h : ReachesKind b) (hr : requiredLength p b = none) :
    portVerdict p b = .unknownKind := by
  rw [portVerdict, if_neg h.not_oversize, if_neg h.not_checkFailure, hr]

theorem ReachesKind.known (h : ReachesKind b) {n : Option Nat} (hr : requiredLength p b = some n) :
    portVerdict p b = if n = some b.length then .passed else .formatError := by
  rw [portVerdict, if_neg h.not_oversize, if_neg h.not_checkFailure, hr]

theorem head?_of_headD {k : Byte} (hk : k ≠ 0) (h : (b.headD 0).toNat = k.toNat) : b.head? = some k := by
  have e : b.headD 0 = k := BitVec.eq_of_toNat_eq h
  cases b with
  | nil => exact absurd e.symm hk
  | cons a l => exact congrArg some e

theorem requiredLength_sample (h : b.head? = some 0xA1) :
    requiredLength .m b = some (b[5]?.map fun c => 8 + 2 * c.toNat) := by
  simp [requiredLength, h]

theorem requiredLength_directive (h : b.head? = some 0xA2) :
    requiredLength .m b = some (b[4]?.map fun c => 7 + c.toNat) := by
  simp [requiredLength, h]

theorem requiredLength_report (h : b.head? = some 0xD1) : requiredLength .v b = some (some 11) := by
  simp [requiredLength, h]

theorem requiredLength_bankStatus (h : b.head? = some 0xD2) : requiredLength .v b = some (some 6) := by
  simp [requiredLength, h]

/-- R194, check 3: the inbound kinds of each port (Table 11-1). -/
theorem requiredLength_none (hm : p = .m → b.head? ≠ some 0xA1 ∧ b.head? ≠ some 0xA2)
    (hv : p = .v → b.head? ≠ some 0xD1 ∧ b.head? ≠ some 0xD2) : requiredLength p b = none := by
  unfold requiredLength
  split
  · next h => exact absurd (head?_of_headD (by decide) h) (hm rfl).1
  · next h => exact absurd (head?_of_headD (by decide) h) (hm rfl).2
  · next h => exact absurd (head?_of_headD (by decide) h) (hv rfl).1
  · next h => exact absurd (head?_of_headD (by decide) h) (hv rfl).2
  · rfl

/-- R194, check 4, failed: a frame of an inbound kind whose length is not the one Table 11-1 gives. -/
theorem ReachesKind.formatError (h : ReachesKind b)
    (hw : p = .m ∧ b.head? = some 0xA1 ∧ (∀ c, b[5]? = some c → b.length ≠ 8 + 2 * c.toNat) ∨
      p = .m ∧ b.head? = some 0xA2 ∧ (∀ c, b[4]? = some c → b.length ≠ 7 + c.toNat) ∨
      p = .v ∧ b.head? = some 0xD1 ∧ b.length ≠ 11 ∨ p = .v ∧ b.head? = some 0xD2 ∧ b.length ≠ 6) :
    portVerdict p b = .formatError := by
  have counted : ∀ {field : Option Byte} {f : Byte → Nat}, (∀ c, field = some c → b.length ≠ f c) →
      field.map f ≠ some b.length := fun hf e => by
    obtain ⟨c, hc, hl⟩ := Option.map_eq_some_iff.mp e
    exact hf c hc hl.symm
  have fixed : ∀ {n : Nat}, b.length ≠ n → some n ≠ some b.length := fun hn e => hn (Option.some.inj e).symm
  rcases hw with ⟨rfl, hk, hn⟩ | ⟨rfl, hk, hn⟩ | ⟨rfl, hk, hn⟩ | ⟨rfl, hk, hn⟩
  · rw [h.known (requiredLength_sample hk), if_neg (counted hn)]
  · rw [h.known (requiredLength_directive hk), if_neg (counted hn)]
  · rw [h.known (requiredLength_report hk), if_neg (fixed hn)]
  · rw [h.known (requiredLength_bankStatus hk), if_neg (fixed hn)]

/-! ## What a received frame does (R194; log 26) -/

theorem receiveBytes_rejected {v : PortVerdict} (hv : portVerdict p b = v) (hn : v ≠ .passed) (s : State) :
    receiveBytes p b s = s.countPort p fun c => c.count v := by
  rw [receiveBytes, hv, if_neg hn]

theorem receiveBytes_passed (hv : portVerdict p b = .passed) (s : State) :
    receiveBytes p b s = handOn p b (s.countPort p PortCounters.receive) := by
  rw [receiveBytes, hv, if_pos rfl]
  rfl

theorem countPort_queue (s : State) (p : Port) (f : PortCounters → PortCounters) :
    (s.countPort p f).processor.queue = s.processor.queue := by
  cases p <;> rfl

/-- A frame that fails a check is counted on its port, and the step ends. -/
theorem exec_frameRejected {s : State} (h : Free s) {v : PortVerdict} (hv : portVerdict p b = v) (hn : v ≠ .passed) :
    ∃ t, exec (.frameRejected p b) s = .next t ∧ Settled (s.countPort p fun c => c.count v) t := by
  rw [← receiveBytes_rejected hv hn s]
  refine exec_settled h.high rfl ?_
  rw [receiveBytes_rejected hv hn, countPort_queue, h.queue]

/-- A frame that passes is the command whose work is that of handing it on. -/
theorem exec_frame_passed {i : Instr} {s : State} {f : State → State} (hv : portVerdict p b = .passed)
    (hi : exec i s = whileReleased s fun s => settle (f s))
    (hf : ∀ s, handOn p b (s.countPort p PortCounters.receive) = f s) : exec (.frameRejected p b) s = exec i s := by
  have same : receiveBytes p b = f := funext fun s => (receiveBytes_passed hv s).trans (hf s)
  rw [hi, ← same]
  rfl

theorem handOn_sample (h : b.head? = some 0xA1) (s : State) : handOn .m b s = takeSample (sampleOf b) s := by
  simp [handOn, h]

theorem handOn_directive (h : b.head? = some 0xA2) (s : State) : handOn .m b s = admission (b.getD 1 0)
    ⟨b.getD 2 0, b.getD 3 0, decodeRequest (b.getD 3 0) (operandsOf b)⟩ s := by
  simp [handOn, h]

theorem handOn_report (h : b.head? = some 0xD1) (s : State) : handOn .v b s = receiveReport (reportOf b) s := by
  simp [handOn, h]

theorem handOn_bankStatus (h : b.head? = some 0xD2) (s : State) :
    handOn .v b s = receiveBankStatus (b.getD 1 0) (b.getD 2 0) (b.getD 3 0) s := by
  simp [handOn, h]

theorem receiveM_fits {n : Nat} (h : n ≤ 160) (f : State → State) (s : State) :
    receiveM n f s = f (s.countPort .m PortCounters.receive) :=
  if_neg (Nat.not_lt.mpr h)

/-- The sample frame in bytes has as many channels as its count field says. -/
theorem sampleOf_channels_length {c : Byte} (hc : b[5]? = some c) (hl : b.length = 8 + 2 * c.toNat) :
    (sampleOf b).channels.length = c.toNat := by
  have count : b.getD 5 0 = c := by rw [List.getD_eq_getElem?_getD, hc, Option.getD_some]
  refine halves_length_of_even _ _ ?_
  rw [count, List.length_take, List.length_drop]
  omega

theorem operandsOf_length {c : Byte} (hc : b[4]? = some c) (hl : b.length = 7 + c.toNat) :
    (operandsOf b).length = c.toNat := by
  have count : b.getD 4 0 = c := by rw [List.getD_eq_getElem?_getD, hc, Option.getD_some]
  rw [operandsOf, count, List.length_take, List.length_drop]
  omega

theorem exec_sample_bytes (h : ReachesKind b) (hk : b.head? = some 0xA1) {c : Byte} (hc : b[5]? = some c)
    (hl : b.length = 8 + 2 * c.toNat) (s : State) :
    exec (.frameRejected .m b) s = exec (.sampleFrame (sampleOf b)) s := by
  have passed : portVerdict .m b = .passed := by
    rw [h.known (requiredLength_sample hk), hc, Option.map_some, ← hl, if_pos rfl]
  have fits : 8 + 2 * (sampleOf b).channels.length ≤ 160 := by
    rw [sampleOf_channels_length hc hl, ← hl]
    exact h.longest
  refine exec_frame_passed passed rfl fun s => ?_
  rw [handOn_sample hk, receiveM_fits fits]

theorem exec_directive_bytes (h : ReachesKind b) (hk : b.head? = some 0xA2) {c : Byte} (hc : b[4]? = some c)
    (hl : b.length = 7 + c.toNat) (s : State) : exec (.frameRejected .m b) s =
      exec (.directiveFrame (b.getD 1 0) (b.getD 2 0) (b.getD 3 0) (operandsOf b)) s := by
  have passed : portVerdict .m b = .passed := by
    rw [h.known (requiredLength_directive hk), hc, Option.map_some, ← hl, if_pos rfl]
  have fits : 7 + (operandsOf b).length ≤ 160 := by
    rw [operandsOf_length hc hl, ← hl]
    exact h.longest
  refine exec_frame_passed passed rfl fun s => ?_
  rw [handOn_directive hk, receiveM_fits fits]

theorem exec_report_bytes (h : ReachesKind b) (hk : b.head? = some 0xD1) (hl : b.length = 11) (s : State) :
    exec (.frameRejected .v b) s = exec (.valveReport (reportOf b)) s := by
  have passed : portVerdict .v b = .passed := by rw [h.known (requiredLength_report hk), hl, if_pos rfl]
  exact exec_frame_passed passed rfl fun s => handOn_report hk _

theorem exec_bankStatus_bytes (h : ReachesKind b) (hk : b.head? = some 0xD2) (hl : b.length = 6) (s : State) :
    exec (.frameRejected .v b) s = exec (.bankStatusFrame (b.getD 1 0) (b.getD 2 0) (b.getD 3 0)) s := by
  have passed : portVerdict .v b = .passed := by
    rw [h.known (requiredLength_bankStatus hk), hl, if_pos rfl]
  exact exec_frame_passed passed rfl fun s => handOn_bankStatus hk _

end

end Sys2Proof.Machine

open Sys2Proof Sys2Proof.Machine in
/-- Settles O50: the codes and layouts, then the received frame by the first check that it fails, and by its kind where
it fails none. -/
theorem receivedBytesAreChecked : Obligations.ReceivedBytesAreChecked := by
  unfold Obligations.ReceivedBytesAreChecked
  refine ⟨fun b => ?codes, ⟨rfl, ?checkCode⟩, ⟨fun w => ?halfBytes, rfl, fun _ _ _ => rfl⟩,
    fun _ _ _ _ _ _ _ _ _ _ => ⟨rfl, rfl, rfl⟩, fun _ _ => ⟨rfl, rfl⟩,
    ⟨?order, ?bank, demandFlags_getLsbD, ?reply, ?notice⟩, rfl, by decide +kernel, fun s p b h => ?received⟩
  case codes =>
    exact ⟨eq_two_codes flag? rfl rfl flag?_none b, eq_two_codes gapPolicy? rfl rfl gapPolicy?_none b,
      eq_two_codes auxPolarity? rfl rfl auxPolarity?_none b, eq_two_codes auxType? rfl rfl auxType?_none b,
      eq_two_codes bankAction? rfl rfl bankAction?_none b, eq_two_codes tableBank? rfl rfl tableBank?_none b,
      eq_three_codes captureMode? rfl rfl rfl captureMode?_none b,
      eq_three_codes bankStatus? rfl rfl rfl bankStatus?_none b, index4?_codes b, rfl, rfl, rfl⟩
  case checkCode => exact fun l b => (checkCode_concat l b).trans (crcByte_eq_foldl _ b)
  case halfBytes => exact ⟨_, _, rfl, (half_halfBytes w).symm⟩
  case order =>
    rintro ⟨branch, polarity, _, _, _, _⟩ x rfl
    cases branch <;> cases polarity <;> exact order_bytes _
  case bank =>
    rintro n a x rfl
    cases a <;> exact bank_bytes n _
  case reply =>
    rintro r x rfl
    exact reply_bytes r
  case notice =>
    rintro n x rfl
    exact notice_bytes n
  case received =>
    refine ⟨fun long => exec_frameRejected h (portVerdict_oversize long) (by decide),
      fun fits bad => exec_frameRejected h (portVerdict_checkFailure fits bad) (by decide), fun h3 h160 code => ?_⟩
    have reaches : ReachesKind b := ⟨h3, h160, code⟩
    refine ⟨fun hm hv => exec_frameRejected h (reaches.unknownKind (requiredLength_none hm hv)) (by decide),
      fun wrong => exec_frameRejected h (reaches.formatError wrong) (by decide), ?_, ?_, ?_, ?_⟩
    · rintro rfl hk ⟨c, hc, hl⟩
      exact exec_sample_bytes reaches hk hc hl s
    · rintro rfl hk ⟨c, hc, hl⟩
      exact exec_directive_bytes reaches hk hc hl s
    · rintro rfl hk hl
      exact exec_report_bytes reaches hk hl s
    · rintro rfl hk hl
      exact exec_bankStatus_bytes reaches hk hl s
end

section
/-! The commands that wait behind the one that runs: no operation, no directive and no command touches them (log 1). -/

namespace Sys2Proof.Machine

/-! ## A step (log 1) -/

theorem step_front {s : State} {c : Instr} {rest : List Instr} (h : s.pending = c :: rest) :
    step s = exec c { s with pending := rest } := by
  unfold step
  rw [h]

theorem step_idle {s : State} (h : s.pending = []) : step s = .next s := by
  unfold step
  rw [h]

/-! ## What leaves the waiting commands -/

theorem pending_of_outer {s t : State} (h : t.outer = s.outer) : t.pending = s.pending := congrArg Outer.pending h

theorem OnlyAssembler.pending {s t : State} (h : OnlyAssembler s t) : t.pending = s.pending := congrArg Outer.pending h

theorem BanksOnly.pending {s t : State} (h : BanksOnly s t) : t.pending = s.pending := by rw [h.state]

theorem pending_stationFree (q : List Instr) : StationFree fun t => t.pending = q :=
  ⟨fun _ _ h => h, fun _ _ h => h, fun _ _ h => h, fun _ _ h => h⟩

/-! ## The Stream Assembler -/

theorem takeSample_pending (f : SampleFrame) (s : State) : (takeSample f s).pending = s.pending := by
  have handled : ∀ e tag n t, (handleFrame e tag n f t).pending = t.pending := fun e tag n t =>
    (onlyAssembler_handleFrame e tag n f t).pending
  unfold takeSample
  split
  · rfl
  · split
    · rfl
    · split
      · rfl
      · split
        · rfl
        · dsimp only
          split <;> exact handled _ _ _ _

theorem endSamplePeriod_pending (s : State) : (endSamplePeriod s).pending = s.pending := by
  unfold endSamplePeriod
  split
  · rfl
  · split
    · exact (onlyAssembler_expireSilence s).pending
    · rfl

theorem silenceExpires_pending (s : State) : (silenceExpires s).pending = s.pending := by
  unfold silenceExpires
  split
  · rfl
  · exact (onlyAssembler_expireSilence s).pending

/-! ## The Order Exchange -/

theorem completeV_pending (s : State) : (completeV s).pending = s.pending := by
  have sent : ∀ o, (orderSent o s.vIdle).pending = s.pending := fun o => by
    rw [orderSent_eq]
    rfl
  have begins : ∀ t, (beginV t).pending = t.pending := fun t => pending_of_outer (outer_beginV t)
  rcases ht : s.exchange.transmitter with _ | ⟨o | ⟨n, a⟩, x⟩
  · rw [completeV_idle ht]
  · rw [completeV_order ht]
    split
    · exact (begins _).trans (sent o)
    · split
      · exact (begins _).trans (sent o)
      · exact (pending_of_outer (outer_lateCompletion o _)).trans (sent o)
  · rw [completeV_bank ht]
    rfl

theorem receiveReport_pending (r : ReportFrame) (s : State) : (receiveReport r s).pending = s.pending := by
  unfold receiveReport
  split
  · rfl
  · exact pending_of_outer (outer_takeReport _ s)

/-! ## The Bank Controller and the local tick -/

theorem placeBankOrder_pending (n : Index4) (a : BankAction) (s : State) :
    (placeBankOrder n a s).pending = s.pending :=
  (pending_of_outer (outer_handBankOrder n a _)).trans
    ((banksOnly_writeBank n _ s).trans (banksOnly_momentAfter _ _)).pending

theorem receiveBankStatus_pending (bank status code : Byte) (s : State) :
    (receiveBankStatus bank status code s).pending = s.pending := by
  unfold receiveBankStatus
  split
  · next n st _ _ => exact (takeBankStatus_banksOnly n st code s).pending
  · rfl

theorem confirmationExpiresAt_pending (s : State) (n : Index4) : (confirmationExpiresAt s n).pending = s.pending := by
  unfold confirmationExpiresAt
  split
  · exact (banksOnly_faultBank n _ _ s).pending
  · rfl

theorem dischargeExpires_pending (n : Index4) (s : State) : (dischargeExpires n s).pending = s.pending := by
  unfold dischargeExpires
  split
  · exact (banksOnly_writeBank n _ s).pending
  · rfl

theorem tickBanks_pending (s : State) : (tickBanks s).pending = s.pending := by
  have ticked : s.banksTicked.pending = s.pending := (banksOnly_banksTicked s).pending
  rw [tickBanks_eq]
  rcases autoSwitch_cases s.banksTicked with e | e | ⟨n, a, f, -, -, e⟩ <;> rw [e]
  · exact ticked
  · exact ticked
  · exact (placeBankOrder_pending n a _).trans ticked

theorem localTick_pending (s : State) : (localTick s).pending = s.pending := by
  have monitored : (tickDip (countTick s)).pending = s.pending := (pending_of_outer (outer_tickDip _)).trans rfl
  refine (inTurn_same State.pending _ _ _ (fun _ => rfl) (fun f hf t => ?_) moment_pending).trans monitored
  simp only [List.mem_cons, List.not_mem_nil, or_false] at hf
  rcases hf with rfl | rfl
  · exact pending_of_outer (outer_tickBlanking t)
  · exact tickBanks_pending t

/-! ## The Mode and Release Controller -/

theorem dipToleranceExpires_pending (s : State) : (dipToleranceExpires s).pending = s.pending := by
  unfold dipToleranceExpires
  split
  · exact pending_of_outer (outer_dipInterruption s)
  · rfl

theorem blankingDelayExpires_pending (s : State) : (blankingDelayExpires s).pending = s.pending := by
  unfold blankingDelayExpires
  split
  · exact pending_of_outer (outer_activateBlanking _ s)
  · rfl

theorem blankingPulseEnds_pending (s : State) : (blankingPulseEnds s).pending = s.pending := by
  unfold blankingPulseEnds
  split
  · exact pending_of_outer (outer_endBlanking s)
  · rfl

/-! ## Directives -/

theorem actCounters_pending (group clear : Byte) (s : State) : (actCounters group clear s).1.pending = s.pending := by
  have cleared : ∀ g, (clearCounters s g).pending = s.pending := fun g => by cases g <;> rfl
  unfold actCounters
  split
  · split
    · exact cleared _
    · rfl
  · rfl

theorem actGet_pending (ident : Byte) (s : State) : (actGet ident s).1.pending = s.pending := by
  unfold actGet
  split <;> rfl

theorem actSet_pending (ident : Byte) (value : Word) (s : State) : (actSet ident value s).1.pending = s.pending := by
  have after : ∀ p t, (afterWrite p t).pending = t.pending := fun p t => by
    unfold afterWrite
    split
    · split <;> rfl
    · rfl
    · rfl
    · exact pending_of_outer (outer_evalSupply t)
    · exact pending_of_outer (outer_evalSupply t)
    · exact pending_of_outer (outer_evalBase t)
    · rfl
  unfold actSet
  split
  · rfl
  · split
    · rfl
    · split
      · exact after _ _
      · rfl

theorem actMapSet_pending (quantity source channel : Byte) (s : State) :
    (actMapSet quantity source channel s).1.pending = s.pending := by
  unfold actMapSet
  split
  · rfl
  · split <;> rfl

theorem actSourceSet_pending (source enabled policy hold miss : Byte) (s : State) :
    (actSourceSet source enabled policy hold miss s).1.pending = s.pending := by
  unfold actSourceSet
  split
  · rfl
  · split
    · exact (acceptsNone_releaseCheck _).only.pending
    · rfl

theorem actAuxSet_pending (aux polarity kind debounce actions delay width : Byte) (s : State) :
    (actAuxSet aux polarity kind debounce actions delay width s).1.pending = s.pending := by
  unfold actAuxSet
  split
  · rfl
  · split
    · exact pending_of_outer (outer_evalBase _)
    · rfl

theorem actBankSet_pending (bank present : Byte) (susceptance : Half) (state : Byte) (s : State) :
    (actBankSet bank present susceptance state s).1.pending = s.pending := by
  have record : ∀ n st x, (setBankRecord n st x s).1.pending = s.pending := fun n _ _ =>
    ((banksOnly_writeBank n _ s).trans (banksOnly_loadDwell _)).pending
  unfold actBankSet
  split
  · rfl
  · split
    · split
      · rfl
      · exact record _ _ _
    · split
      · split
        · rfl
        · split
          · rfl
          · exact record _ _ _
      · rfl
    · rfl

theorem actBankForce_pending (bank action : Byte) (s : State) : (actBankForce bank action s).1.pending = s.pending := by
  unfold actBankForce
  split
  · next n a _ _ =>
    split
    · rfl
    · split
      · rfl
      · exact placeBankOrder_pending n a s
  · rfl

theorem actTableWrite_pending (start : Half) (n fill : Byte) (values : List Half) (s : State) :
    (actTableWrite start n fill values s).1.pending = s.pending := by
  unfold actTableWrite
  split
  · rfl
  · split
    · split
      · rfl
      · split <;> rfl
    · rfl

theorem actTableRead_pending (bank : Byte) (start : Half) (n : Byte) (s : State) :
    (actTableRead bank start n s).1.pending = s.pending := by
  unfold actTableRead
  split
  · split <;> rfl
  · rfl

theorem actTableCopy_pending (s : State) : (actTableCopy s).1.pending = s.pending := by
  unfold actTableCopy
  split <;> rfl

theorem actTableCommit_leaves_pending (tag : Byte) (s : State) : (actTableCommit tag s).1.pending = s.pending := by
  unfold actTableCommit
  split
  · rfl
  · split
    · rfl
    · split <;> rfl

theorem actMode_pending (operand : Byte) (s : State) : (actMode operand s).1.pending = s.pending := by
  unfold actMode
  split
  · rfl
  · next m _ =>
    split
    · rfl
    · exact pending_of_outer (outer_takeMode m s)

theorem actBlock_pending (operand : Byte) (s : State) : (actBlock operand s).1.pending = s.pending := by
  unfold actBlock
  split
  · rfl
  · exact pending_of_outer (outer_evalBase _)

theorem actCaptureSet_pending (mode : Byte) (post : Half) (s : State) :
    (actCaptureSet mode post s).1.pending = s.pending := by
  unfold actCaptureSet
  split
  · split <;> rfl
  · rfl

theorem actCaptureTrigger_pending (s : State) : (actCaptureTrigger s).1.pending = s.pending := by
  unfold actCaptureTrigger
  split
  · exact pending_of_outer (outer_trigger _ s)
  · rfl

theorem actCaptureRead_pending (n : Byte) (s : State) : (actCaptureRead n s).1.pending = s.pending := by
  unfold actCaptureRead
  split <;> rfl

theorem actNoticeSet_pending (source enable level : Byte) (s : State) :
    (actNoticeSet source enable level s).1.pending = s.pending := by
  unfold actNoticeSet
  split <;> rfl

theorem actNoticeClear_pending (sources : Half) (s : State) : (actNoticeClear sources s).1.pending = s.pending := by
  unfold actNoticeClear
  split <;> rfl

theorem engineReset_pending (s : State) : (engineReset s).pending = s.pending := by
  obtain ⟨_, _, _, _, _, _, h, -⟩ := engineReset_eq s
  rw [h]

theorem actReset_pending (scope : Byte) (s : State) : (actReset scope s).1.pending = s.pending := by
  unfold actReset
  split
  · rfl
  · exact (moment_pending _).trans (engineReset_pending s)
  · rfl

/-- No directive touches the commands that wait. -/
theorem act_pending (d : Directive) (s : State) : (act d s).1.pending = s.pending := by
  rcases d with ⟨tag, kind, request⟩
  cases request with
  | counters group clear => exact actCounters_pending group clear s
  | get ident => exact actGet_pending ident s
  | set ident value => exact actSet_pending ident value s
  | mapSet quantity source channel => exact actMapSet_pending quantity source channel s
  | sourceSet source enabled policy hold miss => exact actSourceSet_pending source enabled policy hold miss s
  | auxSet aux polarity kind debounce actions delay width =>
    exact actAuxSet_pending aux polarity kind debounce actions delay width s
  | bankSet bank present susceptance state => exact actBankSet_pending bank present susceptance state s
  | bankForce bank action => exact actBankForce_pending bank action s
  | tableWrite start n fill values => exact actTableWrite_pending start n fill values s
  | tableRead bank start n => exact actTableRead_pending bank start n s
  | tableCopy => exact actTableCopy_pending s
  | tableCommit => exact actTableCommit_leaves_pending tag s
  | mode operand => exact actMode_pending operand s
  | block operand => exact actBlock_pending operand s
  | tripClear => exact pending_of_outer (outer_evalBase _)
  | captureSet mode post => exact actCaptureSet_pending mode post s
  | captureTrigger => exact actCaptureTrigger_pending s
  | captureRead n => exact actCaptureRead_pending n s
  | noticeSet source enable level => exact actNoticeSet_pending source enable level s
  | noticeClear sources => exact actNoticeClear_pending sources s
  | reset scope => exact actReset_pending scope s
  | _ => rfl

/-! ## A command -/

theorem receiveBytes_pending (port : Port) (bytes : List Byte) (s : State) :
    (receiveBytes port bytes s).pending = s.pending := by
  have counted : ∀ v, (s.countPort port fun c => c.count v).pending = s.pending := fun v => by cases port <;> rfl
  unfold receiveBytes
  dsimp only
  split
  · unfold handOn
    split
    · exact (takeSample_pending _ _).trans (counted _)
    · exact (pending_stationFree _).admission _ _ (counted _)
    · exact (receiveReport_pending _ _).trans (counted _)
    · exact (receiveBankStatus_pending _ _ _ _).trans (counted _)
    · exact counted _
  · exact counted _

/-- Whatever the level of RSTN, the answer is a next state (R197; log 5). -/
theorem whileReleased_answers {P : State → Prop} {s : State} {f : State → State} (h : P s) (hf : P (f s)) :
    ∃ t, whileReleased s f = .next t ∧ P t := by
  unfold whileReleased
  split
  · exact ⟨f s, rfl, hf⟩
  · exact ⟨s, rfl, h⟩

/-- Every command answers a next state, with the commands behind it as they were. -/
theorem exec_answers (s : State) (c : Instr) : ∃ t, exec c s = .next t ∧ t.pending = s.pending := by
  have free := pending_stationFree s.pending
  have acts : ∀ d u, u.pending = s.pending → (act d u).1.pending = s.pending := fun d u hu => (act_pending d u).trans hu
  have answers : ∀ {f : State → State}, (f s).pending = s.pending →
      ∃ t, whileReleased s f = .next t ∧ t.pending = s.pending :=
    whileReleased_answers (P := fun t => t.pending = s.pending) rfl
  have settled : ∀ {f : State → State}, (f s).pending = s.pending →
      ∃ t, whileReleased s (fun s => settle (f s)) = .next t ∧ t.pending = s.pending :=
    fun hf => answers (free.settle acts hf)
  cases c with
  | sampleFrame f => exact settled (free.receiveM (fun u hu => (takeSample_pending f u).trans hu) _ rfl)
  | localSamplePeriod => exact settled (endSamplePeriod_pending s)
  | silenceTimerExpiry => exact settled (silenceExpires_pending s)
  | localTick => exact settled (localTick_pending s)
  | confirmationTimerExpiry =>
    exact settled (f := Index4.all.foldl confirmationExpiresAt)
      (foldl_same State.pending _ confirmationExpiresAt_pending _ s)
  | dischargeTimerExpiry n => exact settled (dischargeExpires_pending n s)
  | dwellTimerExpiry => exact settled (f := expireDwell) rfl
  | dipToleranceExpiry => exact settled (dipToleranceExpires_pending s)
  | blankingDelayExpiry => exact settled (blankingDelayExpires_pending s)
  | blankingPulseEnd => exact settled (blankingPulseEnds_pending s)
  | valveReport r => exact settled (f := fun s => receiveReport r s.receivedV) (receiveReport_pending r s.receivedV)
  | bankStatusFrame bank status code =>
    exact settled (f := fun s => receiveBankStatus bank status code s.receivedV)
      (receiveBankStatus_pending bank status code s.receivedV)
  | vTransmitCompletion => exact settled (completeV_pending s)
  | frameRejected port bytes => exact settled (receiveBytes_pending port bytes s)
  | mTransmitCompletion => exact answers (free.completeM acts (fun _ hu => hu) rfl)
  | powerOnReset => exact ⟨_, rfl, rfl⟩
  | rstnRelease fsel unit boot =>
    cases h : s.rstn with
    | false => exact ⟨_, execRstnRelease_low h fsel unit boot, rfl⟩
    | true => exact ⟨_, execRstnRelease_high h fsel unit boot, rfl⟩
  | _ => exact answers (free.directiveArrives acts _ _ _ _ _ rfl)

end Sys2Proof.Machine

open Sys2Proof.Machine in
/-- Settles O1: the two cases of the queue. -/
theorem stepRunsFrontCommand : Obligations.StepRunsFrontCommand := by
  unfold Obligations.StepRunsFrontCommand
  exact ⟨fun _ _ _ => step_front, fun _ => step_idle⟩

open Sys2Proof.Machine in
/-- Settles O2: what a command does before the station is served, and what the station then does, leave the waiting
commands; a low RSTN leaves the whole state. -/
theorem everyCommandAnswersNext : Obligations.EveryCommandAnswersNext := by
  unfold Obligations.EveryCommandAnswersNext
  exact exec_answers
end
